-- ==== Sys2Proof/Word.lean ====
section
/-! DEFINITION. The plain words of the Dethira 640 model: bytes, ticks and the index types of the site. -/

namespace Sys2Proof

/-- One byte on a serial port. -/
abbrev Byte := BitVec 8

/-- A tick count: 125 microseconds a tick, held modulo 2^32 (00_scope, CONVENTIONS, Time). -/
abbrev Tick := BitVec 32

/-- Lane n of the manual is index n - 1. -/
abbrev LaneIx := Fin 6

/-- Strip channel c of the manual is index c - 1. -/
abbrev ChanIx := Fin 24

/-- Lateral position 0 to 11. -/
abbrev PosIx := Fin 12

/-- Pavement temperature probe 0 to 7. -/
abbrev ProbeIx := Fin 8

end Sys2Proof
end

