-- ==== Sys2Proof/Config.lean ====
section
/-! DEFINITION. The one value the manual leaves open while the part goes on: a free value without a body. -/

namespace Sys2Proof

/-- The whole seconds STATUS reports as ownership time remaining while the timer is stopped by a commit in
flight (R156, R173). The manual says that the timer is stopped and states no value for this byte; it lies
within the 120 s of the timer. The argument is the count of such reads made so far. Assumption log 3. -/
opaque Config.ownershipSecondsWhileStopped : Nat → Fin 121

end Sys2Proof
end

