-- ==== Sys2Proof/Syntax.lean ====
section
/-! DEFINITION. The commands of the Dethira 640: one constructor per row of spec/opcode_table.json. -/

namespace Sys2Proof

/-- The two serial ports. -/
inductive Port where
  | cab
  | svc
deriving DecidableEq, Repr

/-- The two loops of a lane: U upstream and D downstream. -/
inductive LoopPos where
  | up
  | down
deriving DecidableEq, Repr

/-- The two strip rows of a lane: A upstream and B downstream. -/
inductive StripRow where
  | rowA
  | rowB
deriving DecidableEq, Repr

/-- The two ways a byte can be lost on the line (R175). -/
inductive RxFault where
  | framing
  | overrun
deriving DecidableEq, Repr

/-- A command: one step of the part, taken whole (95_what_each_step_holds).

Operands. A strip row carries its channel and the sample code of the tick; the four rows that name an outcome of
a sample (SETTLING_COMPLETE, HIT_END, HIT_LONG, RECOVERY_END) carry the sample that brings it about. A loop row
carries lane and loop. A request row carries the port, the TAG and the payload bytes of its frame. A start
carries the level of the verification strap. The conversion and the write carry what comes from outside: the
converter code and whether the readback agreed. -/
inductive Instr where
  | powerOn (strap : Bool)
  | lineReset (strap : Bool)
  | stripSample (c : ChanIx) (x : BitVec 16)
  | settlingComplete (c : ChanIx) (x : BitVec 16)
  | hitEnd (c : ChanIx) (x : BitVec 16)
  | hitLong (c : ChanIx) (x : BitVec 16)
  | recoveryEnd (c : ChanIx) (x : BitVec 16)
  | bucketLeak
  | channelRearm (p : Port) (tag : Byte) (payload : List Byte)
  | loopLineChange (l : LaneIx) (d : LoopPos) (high : Bool)
  | loopChangeAccept (l : LaneIx) (d : LoopPos)
  | stuckExpiry (l : LaneIx) (d : LoopPos)
  | loopSpeedExpiry (l : LaneIx)
  | stallExpiry (l : LaneIx)
  | clearExpiry (l : LaneIx)
  | laneSet (p : Port) (tag : Byte) (payload : List Byte)
  | passStart
  | conversionComplete (code : BitVec 12)
  | probeNow (p : Port) (tag : Byte) (payload : List Byte)
  | holdAgeStale (l : LaneIx)
  | leadingHitExpiry (r : StripRow) (q : PosIx)
  | candidateDeadline (l : LaneIx)
  | presenceClose (l : LaneIx)
  | frameTimeout (l : LaneIx)
  | take (p : Port) (tag : Byte) (payload : List Byte)
  | stream (p : Port) (tag : Byte) (payload : List Byte)
  | peek (p : Port) (tag : Byte) (payload : List Byte)
  | ident (p : Port) (tag : Byte) (payload : List Byte)
  | status (p : Port) (tag : Byte) (payload : List Byte)
  | timeSet (p : Port) (tag : Byte) (payload : List Byte)
  | siteRun (p : Port) (tag : Byte) (payload : List Byte)
  | editBegin (p : Port) (tag : Byte) (payload : List Byte)
  | editPut (p : Port) (tag : Byte) (payload : List Byte)
  | editDiscard (p : Port) (tag : Byte) (payload : List Byte)
  | readSection (p : Port) (tag : Byte) (payload : List Byte)
  | commit (p : Port) (tag : Byte) (payload : List Byte)
  | ownershipTimeout
  | imageWriteStart
  | imageWriteComplete (agrees : Bool)
  | lock (p : Port) (tag : Byte) (payload : List Byte)
  | restart (p : Port) (tag : Byte) (payload : List Byte)
  | restartTakesPlace
  | eventEnable (p : Port) (tag : Byte) (payload : List Byte)
  | unknownKindRequest (p : Port) (kind : Byte) (tag : Byte) (payload : List Byte)
  | rxByte (p : Port) (b : Byte)
  | rxLineError (p : Port) (e : RxFault)
  | rxGapTimeout (p : Port)
  | replySend (p : Port)
  | eventFrame (p : Port)
  | vehicleFrame
  | transmitComplete (p : Port)
  | resetNHeldLow
deriving DecidableEq, Repr

end Sys2Proof
end

