-- ==== Sys2Proof/WellFormed.lean ====
section
/-! DEFINITION. Which commands can stand on the part's inputs at all. -/

namespace Sys2Proof

/-- A frame's payload is 0 to 1,024 bytes (R174). -/
def payloadFits (payload : List Byte) : Bool :=
  payload.length ≤ 1024

/-- The KIND codes of the catalogue of requests are 0x01 to 0x12 (chapter 9, THE REQUESTS). -/
def kindInCatalogue (kind : Byte) : Bool :=
  1 ≤ kind.toNat && kind.toNat ≤ 18

/-- A command is well formed when its operands can arrive: a request's payload fits a frame (R174), and an
UNKNOWN_KIND request has a KIND outside the catalogue (R177). All other bounds are in the operand types. -/
def Instr.wellFormed : Instr → Bool
  | .channelRearm _ _ payload => payloadFits payload
  | .laneSet _ _ payload => payloadFits payload
  | .probeNow _ _ payload => payloadFits payload
  | .take _ _ payload => payloadFits payload
  | .stream _ _ payload => payloadFits payload
  | .peek _ _ payload => payloadFits payload
  | .ident _ _ payload => payloadFits payload
  | .status _ _ payload => payloadFits payload
  | .timeSet _ _ payload => payloadFits payload
  | .siteRun _ _ payload => payloadFits payload
  | .editBegin _ _ payload => payloadFits payload
  | .editPut _ _ payload => payloadFits payload
  | .editDiscard _ _ payload => payloadFits payload
  | .readSection _ _ payload => payloadFits payload
  | .commit _ _ payload => payloadFits payload
  | .lock _ _ payload => payloadFits payload
  | .restart _ _ payload => payloadFits payload
  | .eventEnable _ _ payload => payloadFits payload
  | .unknownKindRequest _ kind _ payload => !kindInCatalogue kind && payloadFits payload
  | .powerOn _ => true
  | .lineReset _ => true
  | .stripSample _ _ => true
  | .settlingComplete _ _ => true
  | .hitEnd _ _ => true
  | .hitLong _ _ => true
  | .recoveryEnd _ _ => true
  | .bucketLeak => true
  | .loopLineChange _ _ _ => true
  | .loopChangeAccept _ _ => true
  | .stuckExpiry _ _ => true
  | .loopSpeedExpiry _ => true
  | .stallExpiry _ => true
  | .clearExpiry _ => true
  | .passStart => true
  | .conversionComplete _ => true
  | .holdAgeStale _ => true
  | .leadingHitExpiry _ _ => true
  | .candidateDeadline _ => true
  | .presenceClose _ => true
  | .frameTimeout _ => true
  | .ownershipTimeout => true
  | .imageWriteStart => true
  | .imageWriteComplete _ => true
  | .restartTakesPlace => true
  | .rxByte _ _ => true
  | .rxLineError _ _ => true
  | .rxGapTimeout _ => true
  | .replySend _ => true
  | .eventFrame _ => true
  | .vehicleFrame => true
  | .transmitComplete _ => true
  | .resetNHeldLow => true

end Sys2Proof
end

