-- ==== Sys2Proof/Decode.lean ====
section
/-! DEFINITION. The command a word spells. No row of spec/opcode_table.json gives bits, so no word spells one. -/

namespace Sys2Proof

/-- The table gives none of its 52 rows a bit pattern (98_reader: n_rows_with_fixed 0), so every word spells no
command. The frames in which requests travel are read by the receiver (R174, R175; Machine/Ports.lean). -/
def decodeTableWord (nbits w : Nat) : Option Instr :=
  match nbits, w with
  | _, _ => none

end Sys2Proof
end

