-- ==== Sys2Proof/Machine/Data.lean ====
section
/-! DEFINITION. The data types of the part's blocks: what the profile, the channels, the loops, the probes, the
axle former, the assembler, the store, the auto-calibration unit, the image and the ports hold. -/

namespace Sys2Proof.Machine

open Sys2Proof

/-! ### The profile (chapter 8) -/

/-- The two half-lane segments of a row. -/
inductive StripSide where
  | left
  | right
deriving DecidableEq, Repr

/-- The SITE section, in the order of R154's indexes. -/
structure SiteSec where
  laneCount : Nat
  siteNumber : Nat
  closeDelay : Nat
  maxSpacing : Nat
  window : Nat
  frameTimeout : Nat
  highWater : Nat
  rowTolerance : Nat
  axleLimit : Nat
  grossLimit : Nat
  margin : Nat
  scanPeriod : Nat
deriving DecidableEq, Repr

/-- One STRIPMAP entry (R1): `lane` is absent for an unmapped channel (lane 0 on the wire). -/
structure StripEntry where
  lane : Option LaneIx
  row : StripRow
  side : StripSide
  trigger : Nat
  width : Nat
  k : Nat
  clipLimit : Nat
deriving DecidableEq, Repr

/-- One LANES entry; an absent alternate is "none" (255 on the wire). -/
structure LaneEntry where
  enabled : Bool
  rowSpacing : Nat
  loopSpacing : Nat
  loopLength : Nat
  rejectMs : Nat
  stallS : Nat
  primary : ProbeIx
  alternate : Option ProbeIx
  fA : Nat
deriving DecidableEq, Repr

/-- One probe's entry in PROBES. -/
structure ProbeEntry where
  enabled : Bool
  trim : Int
deriving DecidableEq, Repr

/-- The PROBES section: eight entries and the 17-point curve (R50). -/
structure ProbesSec where
  entries : Vector ProbeEntry 8
  curve : Vector Int 17
deriving DecidableEq, Repr

/-- The single-track test of a class entry (R122). -/
inductive TrackTest where
  | any
  | required
  | forbidden
deriving DecidableEq, Repr

/-- One entry of the class table (R122). A range is a minimum and a maximum. -/
structure ClassEntry where
  code : Nat
  minAxles : Nat
  maxAxles : Nat
  track : TrackTest
  ranges : List (Nat × Nat)
  gross : Option (Nat × Nat)
  length : Option (Nat × Nat)
deriving DecidableEq, Repr

/-- The AUTOCAL section (R134). -/
structure AutocalSec where
  enable : Bool
  refClass : Nat
  target : Nat
  speedMin : Nat
  speedMax : Nat
  grossMin : Nat
  grossMax : Nat
deriving DecidableEq, Repr

/-- The complete set of site settings in its eight sections. -/
structure Profile where
  site : SiteSec
  strips : Vector StripEntry 24
  lanes : Vector LaneEntry 6
  tempcomp : Vector Nat 9
  speedcomp : Vector Nat 8
  probes : ProbesSec
  classes : List ClassEntry
  autocal : AutocalSec
deriving DecidableEq, Repr

/-- The names of the eight sections. -/
inductive Sect where
  | site
  | stripmap
  | lanes
  | tempcomp
  | speedcomp
  | probes
  | classes
  | autocal
deriving DecidableEq, Repr

/-! ### Strip channels (chapter 1) -/

/-- Channel states. -/
inductive ChanState where
  | off
  | settling
  | normal
  | degraded
  | dead
deriving DecidableEq, Repr

/-- A hit in progress (R6): what its samples have given so far. -/
structure HitAcc where
  start : Tick
  area : Nat
  peak : Int
  clips : Nat
  samples : Nat
deriving DecidableEq, Repr

/-- An ENDING run (R6): the samples held apart. -/
structure EndRun where
  first : Tick
  run : Nat
  sum : Nat
  clips : Nat
deriving DecidableEq, Repr

/-- The hit detector of a channel (R5 to R8). -/
inductive Detector where
  | quiet
  | arming (tick : Tick) (d : Int) (clipped : Bool)
  | inHit (h : HitAcc)
  | ending (h : HitAcc) (e : EndRun)
  | recovering (run : Nat)
deriving DecidableEq, Repr

/-- One strip channel. The baseline is absent in OFF and SETTLING (R3, R19). -/
structure Channel where
  state : ChanState
  settleSum : Int
  settleCount : Nat
  baseline : Option Int
  detector : Detector
  bucket : Nat
  miss : Nat
  discard : Nat
deriving DecidableEq, Repr

/-- The strip front end: 24 channels and the tick at which the running leak interval began (R13). -/
structure StripFrontEnd where
  channels : Vector Channel 24
  leakStart : Tick
deriving DecidableEq, Repr

/-- The record of a delivered hit (R9). -/
structure HitRec where
  channel : ChanIx
  lane : LaneIx
  row : StripRow
  side : StripSide
  start : Tick
  stop : Tick
  area : Nat
  peak : Int
  samples : Nat
  clips : Nat
  clip : Bool
deriving DecidableEq, Repr

/-! ### Loops and lane presence (chapter 2) -/

/-- Filtered state of a loop. -/
inductive Filtered where
  | free
  | occupied
  | stuck
deriving DecidableEq, Repr

/-- One loop: the level of its pin, its filtered state, the change time of a pending change (R23) and the start of
its stuck timer (R25). -/
structure Loop where
  high : Bool
  filtered : Filtered
  change : Option Tick
  stuckStart : Option Tick
deriving DecidableEq, Repr

/-- States of a lane presence machine (R28). -/
inductive Presence where
  | idle
  | entering
  | spanning
  | leaving
  | reverse
deriving DecidableEq, Repr

/-- One lane of the loop monitor: its two loops, its presence machine with view and passage record (R27), the
current loop speed with the tick of its attempt (R31), the congestion overlay with its timers (R34, R35), the last
length (R32), the frame count of the current U occupancy (R33) and the moment the presence condition last began
to hold (R36), absent while it does not. -/
structure LaneMonitor where
  up : Loop
  down : Loop
  presence : Presence
  uView : Bool
  dView : Bool
  uOnset : Option Tick
  dOnset : Option Tick
  paired : Bool
  uStart : Option Tick
  speed : Option (Nat × Tick)
  congested : Bool
  stallStart : Option Tick
  clearStart : Option Tick
  lastLength : Option Nat
  frameCount : Nat
  idleSince : Option Tick
deriving DecidableEq, Repr

/-! ### Pavement temperature (chapter 3) -/

/-- An input of the converter: a probe or the zero reference. -/
inductive ConvInput where
  | zref
  | probe (p : ProbeIx)
deriving DecidableEq, Repr

/-- Where a selection came from (R42). -/
inductive ConvOrigin where
  | scan
  | slot
deriving DecidableEq, Repr

/-- A conversion in progress. `voided`: a commit has disabled its probe since, so that its result will be discarded
(R45, R55). -/
structure Conversion where
  input : ConvInput
  origin : ConvOrigin
  start : Tick
  voided : Bool := false
deriving DecidableEq, Repr

/-- The request in the immediate-request slot (R48); `selected` once its conversion has been started. -/
structure SlotRequest where
  probe : ProbeIx
  port : Port
  selected : Bool
deriving DecidableEq, Repr

/-- Probe states. -/
inductive ProbeState where
  | absent
  | warmup
  | valid
  | fault
deriving DecidableEq, Repr

/-- What became of a probe result (R49). -/
inductive ProbeOutcome where
  | filtered
  | seeded
  | warmup
  | spike
  | bad
  | zeroFault
deriving DecidableEq, Repr

/-- One probe. -/
structure Probe where
  state : ProbeState
  lastRaw : Option Nat
  lastOutcome : Option ProbeOutcome
  warm : Nat
  spike : Nat
  badRun : Nat
  filtered : Option Int
deriving DecidableEq, Repr

/-- Status of a lane temperature. -/
inductive TempStatus where
  | none
  | live
  | held
  | stale
deriving DecidableEq, Repr

/-- The probe a lane temperature comes from. -/
inductive TempSource where
  | none
  | primary
  | alternate
deriving DecidableEq, Repr

/-- One lane's temperature. `holdAge` counts whole seconds and `holdTicks` the ticks of the second under way
(R57); both are 0 outside HELD and STALE. -/
structure LaneTemp where
  status : TempStatus
  temp : Option Int
  source : TempSource
  holdAge : Nat
  holdTicks : Nat
deriving DecidableEq, Repr

/-- The probe converter and temperature unit. A running pass timer holds the tick of the last pass-start event. -/
structure TempUnit where
  conv : Option Conversion
  passList : List ConvInput
  slot : Option SlotRequest
  offset : Int
  lastZero : Option Int
  zeroFault : Bool
  zeroFaults : Nat
  late : Nat
  lastPass : Option Tick
  probes : Vector Probe 8
  lanes : Vector LaneTemp 6
deriving DecidableEq, Repr

/-! ### Wheels and axles (chapter 4) -/

/-- A wheel as it forms (R64, R65): leading and trailing hit, wheel speed, and whether it is REVERSE. It is ONE_ROW
when it lacks one of the two hits. -/
structure Wheel where
  pos : PosIx
  lead : Option HitRec
  trail : Option HitRec
  speed : Option Nat
  reverse : Bool
deriving DecidableEq, Repr

/-- A side of a candidate: a leading hit still in its pending list, or a wheel. -/
inductive Side where
  | waiting (h : HitRec)
  | formed (w : Wheel)
deriving DecidableEq, Repr

/-- An open axle candidate; its holding lane is the lane whose list it stands in, that of its first side at its opening (log
35). `id` numbers candidates in the
order of opening since the last start, which decides between equal opening ticks (R67). -/
structure Candidate where
  id : Nat
  opened : Tick
  sides : List Side
deriving DecidableEq, Repr

/-- The axle former: 24 pending lists, the candidates held in each lane, and each lane's late count. -/
structure AxleFormer where
  waitA : Vector (List HitRec) 12
  waitB : Vector (List HitRec) 12
  candidates : Vector (List Candidate) 6
  late : Vector Nat 6
  nextId : Nat
deriving DecidableEq, Repr

/-- Where an axle's speed came from (R76). -/
inductive SpeedSource where
  | wheelPair
  | held
  | loop
  | none
deriving DecidableEq, Repr

/-- A hit of a completed axle with its channel's state at completion (R78). -/
structure SeenHit where
  hit : HitRec
  state : ChanState
deriving DecidableEq, Repr

/-- A wheel of a completed axle: its hits, its speed, its load (R96 to R99) and its flags. -/
structure AxleWheel where
  pos : PosIx
  lead : Option SeenHit
  trail : Option SeenHit
  speed : Option Nat
  load : Option Nat
  flags : BitVec 32
deriving DecidableEq, Repr

/-- The axle record (R77) with the fields the load engine adds (R101). -/
structure AxleRec where
  lane : LaneIx
  holding : LaneIx
  time : Tick
  wheels : List AxleWheel
  speed : Option Nat
  source : SpeedSource
  flags : BitVec 32
  generation : Nat
  load : Option Nat
  tempUsed : Int
  tempStatus : TempStatus
deriving DecidableEq, Repr

/-! ### Vehicles and records (chapter 6) -/

/-- An axle in a frame with the spacing to the axle after it, once that axle has joined. -/
structure FrameAxle where
  axle : AxleRec
  spacing : Option Nat
deriving DecidableEq, Repr

/-- An open vehicle frame (R106); its lane is the index it stands at. `overdue` is the model's own mark: the tick of its
timeout had been reached when its last axle was handed on (R111, log 29). -/
structure Frame where
  openTick : Tick
  openSite : BitVec 48
  axles : List FrameAxle
  flags : BitVec 32
  generation : Nat
  length : Option Nat
  shared : Bool
  overdue : Bool
deriving DecidableEq, Repr

/-- An axle entry of a vehicle record (R119). -/
structure AxleEntry where
  speed : Option Nat
  load : Option Nat
  left : Option Nat
  right : Option Nat
  spacing : Option Nat
  tempUsed : Int
  flags : BitVec 32
deriving DecidableEq, Repr

/-- A finished vehicle record (R117 to R120). -/
structure VehicleRec where
  boot : Nat
  seq : BitVec 32
  lane : LaneIx
  openSite : BitVec 48
  closeSite : BitVec 48
  meanSpeed : Option Nat
  classCode : Nat
  tempUsed : Int
  tempStatus : TempStatus
  generation : Nat
  flags : BitVec 32
  length : Option Nat
  gross : Option Nat
  axles : List AxleEntry
deriving DecidableEq, Repr

/-- The vehicle assembler: one open frame per lane at most, each lane's last-closed mean speed, and the sequence
counter. -/
structure Assembler where
  frames : Vector (Option Frame) 6
  lastMean : Vector (Option Nat) 6
  seq : BitVec 32
deriving DecidableEq, Repr

/-! ### Auto-calibration (chapter 7) -/

/-- One entry of a reference window (R135). -/
structure CalEntry where
  load : Nat
  site : BitVec 48
  temp : Int
deriving DecidableEq, Repr

/-- Outcome of an offer (R136). -/
inductive OfferOutcome where
  | disabled
  | classTest
  | speedTest
  | grossTest
  | flagsTest
  | temperatureTest
  | loadTest
  | admitted
  | restarted
  | updated
deriving DecidableEq, Repr

/-- What the auto-calibration unit holds for one lane (R135). -/
structure LaneCal where
  window : List CalEntry
  anchor : Option Int
  fA : Nat
  updates : Nat
  limit : Bool
  outcome : Option OfferOutcome
deriving DecidableEq, Repr

/-! ### The image and the profile store (chapter 8) -/

/-- What the image holds for one lane of the auto-calibration unit. -/
structure ImageCal where
  fA : Nat
  updates : Nat
  limit : Bool
deriving DecidableEq, Repr

/-- The contents of the image (R164), less the CRC, whose agreement is `Medium`'s case `holds`. -/
structure Image where
  profile : Profile
  cal : Vector ImageCal 6
  locked : Bool
  audit : Nat
  boot : Nat
deriving DecidableEq, Repr

/-- The non-volatile medium: never written, torn by a start during a write, left with a failed readback, or holding
an image whose CRC agrees with its contents (R164). -/
inductive Medium where
  | blank
  | torn
  | failed
  | holds (i : Image)
deriving DecidableEq, Repr

/-- The four write reasons. -/
inductive Reason where
  | commit
  | lock
  | boot
  | learned
deriving DecidableEq, Repr

/-- The write-reason set: each reason at most once (R165). -/
structure ReasonSet where
  commit : Bool
  lock : Bool
  boot : Bool
  learned : Bool
deriving DecidableEq, Repr

/-- A write in progress: its reason, the image it carries, and the tick of its start. -/
structure ImageWrite where
  reason : Reason
  content : Image
  start : Tick
deriving DecidableEq, Repr

/-- The transfer buffer: the section being sent and the bytes received so far (R157). -/
structure Transfer where
  sect : Sect
  bytes : List Byte
deriving DecidableEq, Repr

/-- The edit claim: the owning port, the staged set, the transfer in progress, and the tick at which the
ownership timer was last started. The timer runs while no commit is in flight, so its absence shows one (R155, R156). -/
structure Claim where
  owner : Port
  staged : Profile
  transfer : Option Transfer
  timer : Option Tick
deriving DecidableEq, Repr

/-- The profile store. `replaced` is the set that a commit completed at this very tick has replaced: an expiry that the
commit brings forward waits for the next tick (R24, R34, R66, R111). -/
structure ProfileStore where
  active : Profile
  replaced : Option Profile
  claim : Option Claim
  generation : Nat
  audit : Nat
  boot : Nat
  locked : Bool
  lockPending : Bool
  reasons : ReasonSet
  write : Option ImageWrite
  writeFault : Bool
  medium : Medium
deriving DecidableEq, Repr

/-! ### The site controller (chapter 8) -/

/-- Site states. -/
inductive SiteState where
  | init
  | noProfile
  | standby
  | weighing
deriving DecidableEq, Repr

/-- The three start kinds. -/
inductive StartCause where
  | power
  | line
  | restart
deriving DecidableEq, Repr

/-- A pending restart; `replySent` once the reply to the request that asked for it has been sent whole. -/
structure PendingRestart where
  replySent : Bool
deriving DecidableEq, Repr

/-- The site controller. -/
structure SiteCtl where
  state : SiteState
  cause : StartCause
  storeLost : Bool
  strapOpen : Bool
  restart : Option PendingRestart
  closed : Vector Bool 6
  time : BitVec 48
  timePhase : Nat
  epochSet : Bool
deriving DecidableEq, Repr

/-! ### The ports (chapter 9) -/

/-- The thirteen event classes, in the order of their codes 1 to 13. -/
inductive EventClass where
  | wrongWay
  | laneCongested
  | laneClear
  | channelState
  | probeState
  | laneTemp
  | calUpdate
  | calLimit
  | overload
  | storeHigh
  | recordDropped
  | loopStuck
  | linkError
deriving DecidableEq, Repr

/-- Pending count of one event class on one port, and the set of those concerned as its 32-bit list (R181). -/
structure EventCell where
  count : Nat
  list : BitVec 32
deriving DecidableEq, Repr

/-- The six kinds of link error (R176). -/
inductive LinkError where
  | gap
  | framing
  | overrun
  | length
  | check
  | overflow
deriving DecidableEq, Repr

/-- The six link error counts of a port (R176), in the order of STATUS. -/
structure LinkCounts where
  gap : Nat
  framing : Nat
  overrun : Nat
  length : Nat
  check : Nat
  overflow : Nat
deriving DecidableEq, Repr

/-- The receiver of a port (R175), with what it has taken of the frame so far. -/
inductive RxState where
  | hunt
  | length (lo : Option Byte)
  | header (len : Nat) (kind : Option Byte)
  | payload (len : Nat) (kind : Byte) (tag : Byte) (got : List Byte)
  | check (len : Nat) (kind : Byte) (tag : Byte) (got : List Byte) (lo : Option Byte)
deriving DecidableEq, Repr

/-- A reply in a reply list. `endsRestart` marks the reply to the RESTART that made a restart pending. -/
structure Reply where
  kind : Byte
  tag : Byte
  payload : List Byte
  endsRestart : Bool
deriving DecidableEq, Repr

/-- A frame being sent: all its bytes and the tick at which it was begun. -/
structure Sending where
  bytes : List Byte
  start : Tick
  endsRestart : Bool
deriving DecidableEq, Repr

/-- The two deferred requests (R179). -/
inductive DeferredKind where
  | commit
  | probeNow
deriving DecidableEq, Repr

/-- A port's deferred request and the TAG its reply will carry. -/
structure Deferred where
  kind : DeferredKind
  tag : Byte
deriving DecidableEq, Repr

/-- One port. `gapStart` is the tick of the last byte received. `setAfterFrame`: a restart has taken place while a
frame was being sent or the answer to a COMMIT was waiting, and the port's state is set when that has been sent (R171,
R186; log 20). -/
structure PortState where
  rx : RxState
  gapStart : Tick
  replies : List Reply
  tx : Option Sending
  deferred : Option Deferred
  events : Vector EventCell 13
  mask : BitVec 13
  links : LinkCounts
  setAfterFrame : Bool
deriving DecidableEq, Repr

/-- The two port engines and the cabinet link's stream flag. -/
structure Ports where
  cab : PortState
  svc : PortState
  stream : Bool
deriving DecidableEq, Repr

end Sys2Proof.Machine
end

