-- ==== Sys2Proof/Machine/Defaults.lean ====
section
/-! DEFINITION. The default set (R153) and the start values of every block. -/

namespace Sys2Proof.Machine

open Sys2Proof

/-- R153, SITE. -/
def defaultSite : SiteSec :=
  { laneCount := 1, siteNumber := 0, closeDelay := 250, maxSpacing := 1300, window := 40, frameTimeout := 3,
    highWater := 40, rowTolerance := 15, axleLimit := 11500, grossLimit := 44000, margin := 0, scanPeriod := 10 }

/-- R153, STRIPMAP: every channel unmapped. -/
def defaultStrip : StripEntry :=
  { lane := none, row := .rowA, side := .left, trigger := 400, width := 50, k := 4096, clipLimit := 256 }

/-- R153, LANES: the primary probe is the lane number less 1, which is the lane's index. -/
def defaultLane (l : LaneIx) : LaneEntry :=
  { enabled := false, rowSpacing := 3000, loopSpacing := 4000, loopLength := 200, rejectMs := 20, stallS := 6,
    primary := l.castLE (by decide), alternate := none, fA := 4096 }

/-- R153, PROBES: curve point i is −400 + 78 × i. -/
def defaultProbes : ProbesSec :=
  { entries := Vector.replicate 8 { enabled := false, trim := 0 },
    curve := Vector.ofFn (fun i : Fin 17 => -400 + 78 * (i.val : Int)) }

/-- The defaults of the AUTOCAL section (chapter 7, THE AUTOCAL SECTION). -/
def defaultAutocal : AutocalSec :=
  { enable := false, refClass := 11, target := 6500, speedMin := 16000, speedMax := 25000, grossMin := 30000,
    grossMax := 44000 }

/-- R153, the default set. -/
def defaultProfile : Profile :=
  { site := defaultSite,
    strips := Vector.replicate 24 defaultStrip,
    lanes := Vector.ofFn defaultLane,
    tempcomp := Vector.replicate 9 1024,
    speedcomp := Vector.replicate 8 1024,
    probes := defaultProbes,
    classes := [],
    autocal := defaultAutocal }

/-- R22: a channel at a start. -/
def startChannel : Channel :=
  { state := .off, settleSum := 0, settleCount := 0, baseline := none, detector := .quiet, bucket := 0, miss := 0,
    discard := 0 }

/-- R40: a loop at a start is FREE with no pending change and no stuck timer; its pin keeps its level. -/
def startLoop (high : Bool) : Loop :=
  { high := high, filtered := .free, change := none, stuckStart := none }

/-- R40: a lane of the loop monitor at a start. -/
def startLaneMonitor (up down : Bool) : LaneMonitor :=
  { up := startLoop up, down := startLoop down, presence := .idle, uView := false, dView := false, uOnset := none,
    dOnset := none, paired := false, uStart := none, speed := none, congested := false, stallStart := none,
    clearStart := none, lastLength := none, frameCount := 0, idleSince := none }

/-- R61: a probe at a start. -/
def startProbe : Probe :=
  { state := .absent, lastRaw := none, lastOutcome := none, warm := 0, spike := 0, badRun := 0, filtered := none }

/-- R61: a lane temperature at a start. -/
def startLaneTemp : LaneTemp :=
  { status := .none, temp := none, source := .none, holdAge := 0, holdTicks := 0 }

/-- R43, R61: the converter and the temperature unit at a start. -/
def startTemp : TempUnit :=
  { conv := none, passList := [], slot := none, offset := 0, lastZero := none, zeroFault := false, zeroFaults := 0,
    late := 0, lastPass := none, probes := Vector.replicate 8 startProbe, lanes := Vector.replicate 6 startLaneTemp }

/-- R81: the axle former at a start. -/
def startFormer : AxleFormer :=
  { waitA := Vector.replicate 12 [], waitB := Vector.replicate 12 [], candidates := Vector.replicate 6 [],
    late := Vector.replicate 6 0, nextId := 0 }

/-- R149: at a start the window, the anchor and the last offer outcome go; fA, count and limit flag wait for the
image check. -/
def startLaneCal (c : LaneCal) : LaneCal :=
  { c with window := [], anchor := none, outcome := none }

/-- R149: a lane's auto-calibration state under the default set. -/
def defaultLaneCal : LaneCal :=
  { window := [], anchor := none, fA := 4096, updates := 0, limit := false, outcome := none }

/-- The empty write-reason set. -/
def noReasons : ReasonSet :=
  { commit := false, lock := false, boot := false, learned := false }

/-- R182: after each start the cabinet link's mask holds all 13 classes and the service port's none. -/
def startMask : Port → BitVec 13
  | .cab => BitVec.allOnes 13
  | .svc => 0

/-- R176: no link errors counted. -/
def noLinkErrors : LinkCounts :=
  { gap := 0, framing := 0, overrun := 0, length := 0, check := 0, overflow := 0 }

/-- R186: a port after a power-on. -/
def startPort (p : Port) : PortState :=
  { rx := .hunt, gapStart := 0, replies := [], tx := none, deferred := none,
    events := Vector.replicate 13 { count := 0, list := 0 }, mask := startMask p, links := noLinkErrors,
    setAfterFrame := false }

end Sys2Proof.Machine
end

