-- ==== Sys2Proof/Machine/State.lean ====
section
/-! DEFINITION. The state of the part, its updates block by block, the reasons a step can stop, and the state right
after reset. -/

namespace Sys2Proof.Machine

open Sys2Proof

/-- Everything the manual gives the part, block by block, with the queue of waiting commands.

`pending` is the queue, first in first out. `now` is the tick count. `heldLow` says that RESET_N is held low (R170).
`freeReads` is the model's own counter: it numbers the reads of the one free value (log 3). -/
structure State where
  pending : List Instr
  now : Tick
  heldLow : Bool
  strip : StripFrontEnd
  loops : Vector LaneMonitor 6
  temp : TempUnit
  former : AxleFormer
  asm : Assembler
  store : List VehicleRec
  cal : Vector LaneCal 6
  prof : ProfileStore
  site : SiteCtl
  ports : Ports
  freeReads : Nat
deriving DecidableEq, Repr

/-- No command of the part ends in a fault: the manual describes no condition in which the part stops. -/
inductive Fault where
deriving DecidableEq, Repr

/-- Why the model refuses a command. -/
inductive Refusal where
  /-- The command's meaning has not been written yet. Raised by `exec` alone, in an arm without a meaning. Safe: the
  model stops where the part goes on. No arm of this model raises it. -/
  | notModelled (mnemonic : String)
deriving DecidableEq, Repr

namespace State

/-- Replaces the queue. -/
def setPending (s : State) (q : List Instr) : State := { s with pending := q }

/-- Sets the tick count. -/
def setNow (s : State) (t : Tick) : State := { s with now := t }

/-- Sets whether RESET_N is held low. -/
def setHeldLow (s : State) (b : Bool) : State := { s with heldLow := b }

/-- Replaces the strip front end. -/
def setStrip (s : State) (x : StripFrontEnd) : State := { s with strip := x }

/-- Replaces the loop monitor. -/
def setLoops (s : State) (x : Vector LaneMonitor 6) : State := { s with loops := x }

/-- Replaces the converter and temperature unit. -/
def setTemp (s : State) (x : TempUnit) : State := { s with temp := x }

/-- Replaces the axle former. -/
def setFormer (s : State) (x : AxleFormer) : State := { s with former := x }

/-- Replaces the vehicle assembler. -/
def setAsm (s : State) (x : Assembler) : State := { s with asm := x }

/-- Replaces the record store. -/
def setStore (s : State) (x : List VehicleRec) : State := { s with store := x }

/-- Replaces the auto-calibration unit. -/
def setCal (s : State) (x : Vector LaneCal 6) : State := { s with cal := x }

/-- Replaces the profile store. -/
def setProf (s : State) (x : ProfileStore) : State := { s with prof := x }

/-- Replaces the site controller. -/
def setSite (s : State) (x : SiteCtl) : State := { s with site := x }

/-- Replaces the port engines. -/
def setPorts (s : State) (x : Ports) : State := { s with ports := x }

/-- Sets the number of free values read so far. -/
def setFreeReads (s : State) (n : Nat) : State := { s with freeReads := n }

/-- The part right after a power-on with the verification strap low, every loop line low, and a medium that has
never been written: the image is bad, so the site is in NOPROFILE on the default set (R170, R164), and the first
scan pass has just selected the zero reference (R43, R44). Log 2. -/
def reset : State :=
  { pending := [],
    now := 0,
    heldLow := false,
    strip := { channels := Vector.replicate 24 startChannel, leakStart := 0 },
    loops := Vector.replicate 6 { startLaneMonitor false false with idleSince := some 0 },
    temp := { startTemp with
      conv := some { input := .zref, origin := .scan, start := 0 },
      lastPass := some 0 },
    former := startFormer,
    asm := { frames := Vector.replicate 6 none, lastMean := Vector.replicate 6 none, seq := 1 },
    store := [],
    cal := Vector.replicate 6 defaultLaneCal,
    prof :=
      { active := defaultProfile, replaced := none, claim := none, generation := 0, audit := 0, boot := 0, locked := false,
        lockPending := false, reasons := noReasons, write := none, writeFault := false, medium := .blank },
    site :=
      { state := .noProfile, cause := .power, storeLost := true, strapOpen := false, restart := none,
        closed := Vector.replicate 6 false, time := 0, timePhase := 0, epochSet := false },
    ports := { cab := startPort .cab, svc := startPort .svc, stream := false },
    freeReads := 0 }

end State

end Sys2Proof.Machine
end

