-- ==== Sys2Proof/Machine/Arith.lean ====
section
/-! DEFINITION. The arithmetic every block shares: tick differences, the two roundings, interpolation, byte order and
the check of a frame. -/

namespace Sys2Proof.Machine

open Sys2Proof

/-- Forward distance in ticks from `a` to `b`, modulo 2^32 (00_scope, Time). -/
def elapsed (a b : Tick) : Nat :=
  (b - a).toNat

/-- `a` is later than `b`: the forward distance from `b` to `a` is above 0 and below 2^31 (00_scope, Time). -/
def isLater (a b : Tick) : Bool :=
  decide (0 < elapsed b a) && decide (elapsed b a < 2 ^ 31)

/-- At tick `now`, `span` ticks have passed since `start`. A start that lies ahead of `now` has not been reached. -/
def hasPassed (start : Tick) (span : Nat) (now : Tick) : Bool :=
  decide (span ≤ elapsed start now) && decide (elapsed start now < 2 ^ 31)

/-- The distance between two ticks, whichever is earlier. -/
def tickDistance (a b : Tick) : Nat :=
  min (elapsed a b) (elapsed b a)

/-- The later of two ticks. -/
def laterOf (a b : Tick) : Tick :=
  if isLater b a then b else a

/-- 8 ticks to the millisecond (00_scope, Time). -/
def msTicks (ms : Nat) : Nat :=
  8 * ms

/-- 8,000 ticks to the second. -/
def secTicks (s : Nat) : Nat :=
  8000 * s

/-- Round half up (00_scope, Rounding). -/
def roundHalfUp (x d : Nat) : Nat :=
  (x * 2 + d) / (2 * d)

/-- Round half away from zero (00_scope, Rounding). -/
def roundHalfAway (x : Int) (d : Nat) : Int :=
  if x < 0 then -((roundHalfUp x.natAbs d : Nat) : Int) else ((roundHalfUp x.natAbs d : Nat) : Int)

/-- `x` limited to `lo` to `hi`. -/
def clampInt (lo hi x : Int) : Int :=
  max lo (min hi x)

/-- One more, saturating at `limit`. -/
def satSucc (limit n : Nat) : Nat :=
  min (n + 1) limit

/-- The shared interpolation with silent end clamping (R89), over breakpoints with their values in rising order.
An argument on a breakpoint takes its value exactly. -/
def interpolate : List (Int × Int) → Int → Int
  | [], _ => 0
  | [(_, p)], _ => p
  | (x0, p0) :: (x1, p1) :: rest, x =>
    if x ≤ x0 then p0
    else if x < x1 then p0 + roundHalfAway ((p1 - p0) * (x - x0)) (x1 - x0).toNat
    else interpolate ((x1, p1) :: rest) x

/-- A table's values placed on breakpoints `x0`, `x0 + step`, `x0 + 2 × step`, … -/
def onBreakpoints (x0 step : Int) : List Int → List (Int × Int)
  | [] => []
  | p :: rest => (x0, p) :: onBreakpoints (x0 + step) step rest

/-- `n` as `size` bytes, least significant first (chapter 9, FRAME AND PAYLOAD LAYOUTS). -/
def leBytes : Nat → Nat → List Byte
  | 0, _ => []
  | size + 1, n => BitVec.ofNat 8 n :: leBytes size (n / 256)

/-- A signed field in two's complement, least significant byte first. -/
def leSigned (size : Nat) (x : Int) : List Byte :=
  leBytes size (BitVec.ofInt (8 * size) x).toNat

/-- The number bytes spell, least significant first. -/
def leNat : List Byte → Nat
  | [] => 0
  | b :: rest => b.toNat + 256 * leNat rest

/-- `size` bytes of `bs` from `offset`, as a number. -/
def fieldAt (bs : List Byte) (offset size : Nat) : Nat :=
  leNat ((bs.drop offset).take size)

/-- The same bytes as a signed number. -/
def signedAt (bs : List Byte) (offset size : Nat) : Int :=
  (BitVec.ofNat (8 * size) (fieldAt bs offset size)).toInt

/-- An optional field is written as 0 when absent (chapter 9). -/
def orZero (o : Option Nat) : Nat :=
  o.getD 0

/-- A bit of a marks byte. -/
def bitIf (b : Bool) (i : Nat) : Nat :=
  if b then 2 ^ i else 0

/-- One bit through the CRC register, polynomial 0x1021 (R174). -/
def crcBit (crc : BitVec 16) : BitVec 16 :=
  if crc.msb then (crc <<< 1) ^^^ 0x1021 else crc <<< 1

/-- One byte through the CRC register, most significant bit first (R174). -/
def crcByte (crc : BitVec 16) (b : Byte) : BitVec 16 :=
  let c := crc ^^^ ((b.setWidth 16) <<< 8)
  crcBit (crcBit (crcBit (crcBit (crcBit (crcBit (crcBit (crcBit c)))))))

/-- The CRC-16 of R174: initial value 0xFFFF, no reflection, no final inversion. -/
def crc16 (bs : List Byte) : BitVec 16 :=
  bs.foldl crcByte 0xFFFF

/-- A well-formed frame (R174, chapter 9, Frame). -/
def frameBytes (kind tag : Byte) (payload : List Byte) : List Byte :=
  let body := leBytes 2 payload.length ++ [kind, tag] ++ payload
  [0x5A] ++ body ++ leBytes 2 (crc16 body).toNat

/-- An entry of a fixed-length table with entry `i` replaced by `f` of it. -/
def alter {α : Type} {n : Nat} (v : Vector α n) (i : Fin n) (f : α → α) : Vector α n :=
  v.set i (f v[i])

/-- The lanes in ascending number. -/
def allLanes : List LaneIx :=
  [0, 1, 2, 3, 4, 5]

/-- The channels in ascending number. -/
def allChannels : List ChanIx :=
  List.finRange 24

/-- The lateral positions in ascending number. -/
def allPositions : List PosIx :=
  List.finRange 12

/-- The probes in ascending number. -/
def allProbes : List ProbeIx :=
  List.finRange 8

end Sys2Proof.Machine
end

