-- ==== Sys2Proof/Machine/Flags.lean ====
section
/-! DEFINITION. The axle and record flags, which share one numbering (chapter 9, Vehicle record), and the event
classes with the items they name. -/

namespace Sys2Proof.Machine

open Sys2Proof

/-- The 26 flags of axles and records. -/
inductive Flag where
  | straddle
  | single
  | oneRow
  | forced
  | clip
  | rowSplit
  | sat
  | lowSpd
  | highSpd
  | unweighed
  | noSpeed
  | speedHeld
  | speedLoop
  | reverse
  | congested
  | mixed
  | tempHeld
  | tempStale
  | tempNone
  | calLimit
  | overloadAxle
  | overloadGross
  | truncated
  | aborted
  | unclassed
  | timeUnset
deriving DecidableEq, Repr

/-- The bit of each flag in the four flag bytes (chapter 9). -/
def Flag.bit : Flag → Nat
  | .straddle => 0
  | .single => 1
  | .oneRow => 2
  | .forced => 3
  | .clip => 4
  | .rowSplit => 5
  | .sat => 6
  | .lowSpd => 7
  | .highSpd => 8
  | .unweighed => 9
  | .noSpeed => 10
  | .speedHeld => 11
  | .speedLoop => 12
  | .reverse => 13
  | .congested => 14
  | .mixed => 15
  | .tempHeld => 16
  | .tempStale => 17
  | .tempNone => 18
  | .calLimit => 19
  | .overloadAxle => 20
  | .overloadGross => 21
  | .truncated => 22
  | .aborted => 23
  | .unclassed => 24
  | .timeUnset => 25

/-- The set holding one flag. -/
def Flag.one (f : Flag) : BitVec 32 :=
  BitVec.ofNat 32 (2 ^ f.bit)

/-- The set holding `f` when `b`, and empty otherwise. -/
def flagIf (b : Bool) (f : Flag) : BitVec 32 :=
  if b then f.one else 0

/-- Whether a flag is a member of a set. -/
def hasFlag (fs : BitVec 32) (f : Flag) : Bool :=
  fs.getLsbD f.bit

/-- Whether a set holds any of `l`. -/
def hasAnyFlag (fs : BitVec 32) (l : List Flag) : Bool :=
  l.any (hasFlag fs)

/-- The flag a lane temperature status puts on an axle or record (R58, R101, R118). -/
def tempFlag : TempStatus → BitVec 32
  | .none => Flag.tempNone.one
  | .live => 0
  | .held => Flag.tempHeld.one
  | .stale => Flag.tempStale.one

/-- The flag of a speed source (R76). -/
def sourceFlag : SpeedSource → BitVec 32
  | .wheelPair => 0
  | .held => Flag.speedHeld.one
  | .loop => Flag.speedLoop.one
  | .none => Flag.noSpeed.one

/-- The place of an event class in the count lists: its code less 1 (chapter 9, EVENTS). -/
def EventClass.index : EventClass → Fin 13
  | .wrongWay => 0
  | .laneCongested => 1
  | .laneClear => 2
  | .channelState => 3
  | .probeState => 4
  | .laneTemp => 5
  | .calUpdate => 6
  | .calLimit => 7
  | .overload => 8
  | .storeHigh => 9
  | .recordDropped => 10
  | .loopStuck => 11
  | .linkError => 12

/-- A list of those concerned with the one item whose bit is `i` (chapter 9, Event payload). -/
def itemBit (i : Nat) : BitVec 32 :=
  BitVec.ofNat 32 (2 ^ i)

/-- Loop nU is bit 2 × (n − 1), loop nD bit 2 × (n − 1) + 1. -/
def loopBit (l : LaneIx) : LoopPos → BitVec 32
  | .up => itemBit (2 * l.val)
  | .down => itemBit (2 * l.val + 1)

/-- The cabinet link is bit 0 and the service port bit 1. -/
def portBit : Port → BitVec 32
  | .cab => itemBit 0
  | .svc => itemBit 1

end Sys2Proof.Machine
end

