-- ==== Sys2Proof/Machine/Ops.lean ====
section
/-! DEFINITION. The named operations every block uses: reading and writing one entry of a block, raising an event,
lane activation, placing a write reason. -/

namespace Sys2Proof.Machine

open Sys2Proof

/-! ### One entry of a block -/

/-- Replaces one channel. -/
def State.setChannel (s : State) (c : ChanIx) (ch : Channel) : State :=
  s.setStrip { s.strip with channels := s.strip.channels.set c ch }

/-- Replaces one lane of the loop monitor. -/
def State.setLaneMon (s : State) (l : LaneIx) (m : LaneMonitor) : State :=
  s.setLoops (s.loops.set l m)

/-- Replaces one lane's auto-calibration state. -/
def State.setLaneCal (s : State) (l : LaneIx) (c : LaneCal) : State :=
  s.setCal (s.cal.set l c)

/-- Replaces one lane's open frame. -/
def State.setFrame (s : State) (l : LaneIx) (f : Option Frame) : State :=
  s.setAsm { s.asm with frames := s.asm.frames.set l f }

/-- Replaces the candidates held in one lane. -/
def State.setCandidates (s : State) (l : LaneIx) (cs : List Candidate) : State :=
  s.setFormer { s.former with candidates := s.former.candidates.set l cs }

/-- The state of one port. -/
def State.port (s : State) : Port → PortState
  | .cab => s.ports.cab
  | .svc => s.ports.svc

/-- Replaces the state of one port. -/
def State.setPort (s : State) (p : Port) (x : PortState) : State :=
  match p with
  | .cab => s.setPorts { s.ports with cab := x }
  | .svc => s.setPorts { s.ports with svc := x }

/-! ### Events -/

/-- One raise at one port: the count rises by one and stays at 255, the item joins the list (R181). -/
def EventCell.raise (item : BitVec 32) (e : EventCell) : EventCell :=
  { count := satSucc 255 e.count, list := e.list ||| item }

/-- One raise at one port. -/
def PortState.raise (k : EventClass) (item : BitVec 32) (x : PortState) : PortState :=
  { x with events := alter x.events k.index (EventCell.raise item) }

/-- An event is raised: its class count rises on both ports, and the item joins both lists (R181). -/
def State.raise (s : State) (k : EventClass) (item : BitVec 32) : State :=
  s.setPorts { s.ports with cab := s.ports.cab.raise k item, svc := s.ports.svc.raise k item }

/-- An event that names a lane, a channel or a probe by its bit. -/
def State.raiseAt (s : State) (k : EventClass) (i : Nat) : State :=
  s.raise k (itemBit i)

/-! ### The active set and lane activation -/

/-- A channel's entry in the active set. -/
def State.stripEntry (s : State) (c : ChanIx) : StripEntry :=
  s.prof.active.strips[c]

/-- A lane's entry in the active set. -/
def State.laneEntry (s : State) (l : LaneIx) : LaneEntry :=
  s.prof.active.lanes[l]

/-- A span that the active set gives has passed since `start`. At the tick at which a commit completes the span of the
set it replaced must have passed too: what the commit brings forward comes at the first tick after it (R24, R34, R66,
R111). -/
def State.spanPassed (s : State) (start : Tick) (span : Profile → Nat) : Bool :=
  hasPassed start (span s.prof.active) s.now
    && (match s.prof.replaced with
      | some old => hasPassed start (span old) s.now
      | none => true)

/-- The lane is enabled in the active set: its entry has enabled set and its number is at most the lane count
(R37). -/
def State.laneEnabled (s : State) (l : LaneIx) : Bool :=
  (s.laneEntry l).enabled && decide (l.val < s.prof.active.site.laneCount)

/-- A lane is active while the site is WEIGHING, the lane is enabled and not closed (R37). -/
def State.laneActive (s : State) (l : LaneIx) : Bool :=
  decide (s.site.state = .weighing) && s.laneEnabled l && !s.site.closed[l]

/-- The lane of a lateral position: positions 2n − 2 and 2n − 1 lie in lane n (00_scope). -/
def posLane (q : PosIx) : LaneIx :=
  ⟨q.val / 2, by omega⟩

/-- The side of a lateral position: even is left (00_scope). -/
def posSide (q : PosIx) : StripSide :=
  if q.val % 2 = 0 then .left else .right

/-- The lateral position of a lane's segment (R1). -/
def segmentPos (l : LaneIx) : StripSide → PosIx
  | .left => ⟨2 * l.val, by omega⟩
  | .right => ⟨2 * l.val + 1, by omega⟩

/-- The position of a hit (R9). -/
def HitRec.pos (h : HitRec) : PosIx :=
  segmentPos h.lane h.side

/-- The channel mapped at a row and position in the active set, if any (R1). -/
def State.channelAt (s : State) (r : StripRow) (q : PosIx) : Option ChanIx :=
  allChannels.find? (fun c =>
    decide ((s.stripEntry c).lane = some (posLane q)) && decide ((s.stripEntry c).side = posSide q)
      && decide ((s.stripEntry c).row = r))

/-! ### Write reasons -/

/-- Whether a reason is in the set. -/
def ReasonSet.has (r : ReasonSet) : Reason → Bool
  | .commit => r.commit
  | .lock => r.lock
  | .boot => r.boot
  | .learned => r.learned

/-- The set with one reason placed or removed; placing a reason already present changes nothing (R165). -/
def ReasonSet.put (r : ReasonSet) (b : Bool) : Reason → ReasonSet
  | .commit => { r with commit := b }
  | .lock => { r with lock := b }
  | .boot => { r with boot := b }
  | .learned => { r with learned := b }

/-- Places a reason in the write-reason set (R165). -/
def State.placeReason (s : State) (k : Reason) : State :=
  s.setProf { s.prof with reasons := s.prof.reasons.put true k }

/-! ### Lanes and their temperature -/

/-- The temperature the load engine takes for a lane: 200 (20.0 °C) in NONE, the lane temperature otherwise (R58,
R91). -/
def State.tempArgument (s : State) (l : LaneIx) : Int :=
  let t := s.temp.lanes[l]
  match t.status with
  | .none => 200
  | _ => t.temp.getD 200

/-- The status of a lane's temperature. -/
def State.tempStatus (s : State) (l : LaneIx) : TempStatus :=
  s.temp.lanes[l].status

/-! ### Commands and a part held in reset -/

/-- While RESET_N is held low the part does nothing (R170): a command then leaves the state as it is. -/
def whileRunning (s t : State) : Host.Outcome State Fault Refusal :=
  if s.heldLow then .next s else .next t

/-- A command whose condition does not hold finds nothing to do (log 15). -/
def whenDue (s : State) (due : Bool) (t : State) : Host.Outcome State Fault Refusal :=
  whileRunning s (if due then t else s)

end Sys2Proof.Machine
end

