-- ==== Sys2Proof/Machine/Load.lean ====
section
/-! DEFINITION. The load engine (chapter 5): the four stages of a wheel-row load, row combination, axle load, spacing
and gross. It holds nothing between axles (R83). -/

namespace Sys2Proof.Machine

open Sys2Proof

/-- The largest value of Stages 1 and 2. -/
def stageLimit : Nat := 4294967295

/-- The largest load a record carries. -/
def loadLimit : Nat := 65535

/-- The result of a saturating stage: the limited value, and whether it was limited (R95). -/
def saturate (limit x : Nat) : Nat × Bool :=
  if x > limit then (limit, true) else (x, false)

/-- R86: the speed the engine weighs at. -/
def weighSpeed (v : Nat) : Nat :=
  if v < 1500 then 1500 else if v > 60000 then 60000 else v

/-- R86: LOWSPD and HIGHSPD. -/
def speedFlags (v : Nat) : BitVec 32 :=
  flagIf (decide (v < 1500)) .lowSpd ||| flagIf (decide (v > 60000)) .highSpd

/-- Stage 1, the normalised area Q in milli-codes (R87). -/
def stage1 (a v w : Nat) : Nat × Bool :=
  saturate stageLimit ((a * v + 4 * w) / (8 * w))

/-- Stage 2, the base load B in grams (R88). -/
def stage2 (q k : Nat) : Nat × Bool :=
  saturate stageLimit ((q * k + 2048) / 4096)

/-- fT at a temperature (R90): breakpoints −200, −100, …, 600. -/
def tempFactor (t : Vector Nat 9) (x : Int) : Nat :=
  (interpolate (onBreakpoints (-200) 100 (t.toList.map Int.ofNat)) x).toNat

/-- fV at a speed (R90): breakpoints 5,000, 10,000, …, 40,000. -/
def speedFactor (t : Vector Nat 8) (v : Nat) : Nat :=
  (interpolate (onBreakpoints 5000 5000 (t.toList.map Int.ofNat)) v).toNat

/-- Stage 3, the combined factor F (R93). -/
def combinedFactor (fT fV fA : Nat) : Nat :=
  (fT * fV * fA + 524288) / 1048576

/-- Stage 4, the wheel-row load L in kilograms (R94). -/
def stage4 (b f : Nat) : Nat × Bool :=
  saturate loadLimit ((b * f + 2048000) / 4096000)

/-- The estimate of a hit: its load and its SAT mark (R94, R95). -/
structure Estimate where
  load : Nat
  sat : Bool
deriving DecidableEq, Repr

/-- The estimate of one hit at axle speed `v`, with the inputs of R84 as they stand. The lane is the channel's. -/
def State.estimate (s : State) (v : Nat) (h : HitRec) : Estimate :=
  let e := s.stripEntry h.channel
  let u := weighSpeed v
  let q := stage1 h.area u e.width
  let b := stage2 q.1 e.k
  let f := combinedFactor (tempFactor s.prof.active.tempcomp (s.tempArgument h.lane))
    (speedFactor s.prof.active.speedcomp u) s.cal[h.lane].fA
  let l := stage4 b.1 f
  { load := l.1, sat := q.2 || b.2 || l.2 }

/-- The usable rows of a wheel's hits and the CLIP or UNWEIGHED mark (R96). -/
def usableHits (hits : List SeenHit) : List SeenHit × BitVec 32 :=
  let normal := hits.filter (fun h => decide (h.state = .normal))
  let degraded := hits.filter (fun h => decide (h.state = .degraded))
  if normal ≠ [] then (normal, 0)
  else if degraded ≠ [] then (degraded, Flag.clip.one)
  else ([], Flag.unweighed.one)

/-- R97: two rows differ by more than the tolerance. -/
def rowsSplit (tolerance a b : Nat) : Bool :=
  decide ((max a b - min a b) * 100 > tolerance * max a b)

/-- A wheel's load and flags from its usable estimates (R97, R98, R99). -/
def combineRows (tolerance : Nat) : List Estimate → Option Nat × BitVec 32
  | [] => (none, 0)
  | [e] => (some e.load, Flag.oneRow.one ||| flagIf e.sat .sat)
  | e1 :: e2 :: _ =>
    (some ((e1.load + e2.load + 1) / 2),
      flagIf (rowsSplit tolerance e1.load e2.load) .rowSplit ||| flagIf (e1.sat || e2.sat) .sat)

/-- The hits of a completed wheel. -/
def AxleWheel.hits (w : AxleWheel) : List SeenHit :=
  w.lead.toList ++ w.trail.toList

/-- One wheel weighed at axle speed `v`. -/
def State.weighWheel (s : State) (v : Nat) (w : AxleWheel) : AxleWheel :=
  let u := usableHits w.hits
  let c := combineRows s.prof.active.site.rowTolerance (u.1.map (fun h => s.estimate v h.hit))
  { w with load := c.1, flags := w.flags ||| u.2 ||| c.2 ||| (if u.1 = [] then 0 else speedFlags v) }

/-- The sum of loads that are all present. -/
def sumAll : List (Option Nat) → Option Nat
  | [] => some 0
  | none :: _ => none
  | some x :: rest => (sumAll rest).map (x + ·)

/-- The axle load and whether the sum saturated (R100). -/
def axleLoad (ws : List AxleWheel) : Option Nat × Bool :=
  match sumAll (ws.map (·.load)) with
  | none => (none, false)
  | some x => (some (saturate loadLimit x).1, (saturate loadLimit x).2)

/-- The union of flag sets. -/
def unionFlags (l : List (BitVec 32)) : BitVec 32 :=
  l.foldl (· ||| ·) 0

/-- The temperature flags of an axle: those of the lane of any of its wheels (R101). -/
def State.wheelTempFlags (s : State) (ws : List AxleWheel) : BitVec 32 :=
  unionFlags (ws.map (fun w => tempFlag (s.tempStatus (posLane w.pos))))

/-- The load engine's run for one kept axle (R83). An axle without speed is not weighed and takes only the
temperature fields and flags (R85). -/
def State.loadAxle (s : State) (a : AxleRec) : AxleRec :=
  let ws := match a.speed with
    | none => a.wheels
    | some v => a.wheels.map (s.weighWheel v)
  let sum := match a.speed with
    | none => (none, false)
    | some _ => axleLoad ws
  { a with
    wheels := ws,
    load := sum.1,
    flags := a.flags ||| unionFlags (ws.map (fun w => w.flags)) ||| flagIf sum.2 .sat ||| s.wheelTempFlags ws,
    tempUsed := s.tempArgument a.lane,
    tempStatus := s.tempStatus a.lane }

/-- The spacing formula (R102), in centimetres, for a time difference in ticks and two speeds. -/
def spacingCm (dt v1 v2 : Nat) : Nat :=
  min ((dt * (v1 + v2) + 80000) / 160000) loadLimit

/-- The spacing between two axles, absent if either has no speed (R102). -/
def axleSpacing (a b : AxleRec) : Option Nat :=
  match a.speed, b.speed with
  | some v1, some v2 => some (spacingCm (elapsed a.time b.time) v1 v2)
  | _, _ => none

/-- The distance test of R73 and R108 between an earlier and a later time with up to two speeds: within the maximum
spacing, or within 2 s where neither speed is known. -/
def withinSpacing (maxSpacing : Nat) (t1 t2 : Tick) (v1 v2 : Option Nat) : Bool :=
  match v1, v2 with
  | some a, some b => decide (spacingCm (elapsed t1 t2) a b ≤ maxSpacing)
  | some a, none => decide (spacingCm (elapsed t1 t2) a a ≤ maxSpacing)
  | none, some b => decide (spacingCm (elapsed t1 t2) b b ≤ maxSpacing)
  | none, none => decide (elapsed t1 t2 ≤ 16000)

/-- The mean of the speeds that exist, rounded half up (R117). -/
def meanSpeed (axles : List FrameAxle) : Option Nat :=
  let vs := axles.filterMap (fun a => a.axle.speed)
  if vs.length = 0 then none else some ((2 * vs.sum + vs.length) / (2 * vs.length))

end Sys2Proof.Machine
end

