-- ==== Sys2Proof/Machine/AutoCal.lean ====
section
/-! DEFINITION. The auto-calibration unit (chapter 7): offers, the reference window, the update of fA, and clearing. -/

namespace Sys2Proof.Machine

open Sys2Proof

/-- The flags that keep a record out of the reference window (R136, test 5). -/
def barredFlags : List Flag :=
  [.straddle, .single, .oneRow, .clip, .sat, .lowSpd, .highSpd, .forced, .congested, .mixed, .reverse, .noSpeed,
    .speedHeld, .speedLoop, .truncated]

/-- A value that is present and lies within a range, bounds included. -/
def presentWithin (lo hi : Nat) : Option Nat → Bool
  | none => false
  | some x => decide (lo ≤ x) && decide (x ≤ hi)

/-- The load of a record's first axle, if present. -/
def VehicleRec.steerLoad (r : VehicleRec) : Option Nat :=
  (r.axles.head?).bind (fun a => a.load)

/-- The first of R136's tests that a record fails, if any. -/
def State.offerFailure (s : State) (r : VehicleRec) : Option OfferOutcome :=
  let a := s.prof.active.autocal
  if !a.enable then some .disabled
  else if r.classCode ≠ a.refClass then some .classTest
  else if !presentWithin a.speedMin a.speedMax r.meanSpeed then some .speedTest
  else if !presentWithin a.grossMin a.grossMax r.gross then some .grossTest
  else if hasAnyFlag r.flags barredFlags then some .flagsTest
  else if hasAnyFlag r.flags [.tempHeld, .tempStale, .tempNone] || decide (s.tempStatus r.lane ≠ .live) then
    some .temperatureTest
  else if !presentWithin 1 loadLimit r.steerLoad then some .loadTest
  else none

/-- The entry an admitted record gives (R137). -/
def VehicleRec.calEntry (r : VehicleRec) : CalEntry :=
  { load := r.steerLoad.getD 0, site := r.closeSite, temp := r.tempUsed }

/-- Places an entry in a window by temperature band (R138). -/
def LaneCal.place (c : LaneCal) (e : CalEntry) : LaneCal :=
  if c.window = [] then { c with window := [e], anchor := some e.temp, outcome := some .admitted }
  else if (e.temp - c.anchor.getD e.temp).natAbs ≤ 50 then
    { c with window := c.window ++ [e], outcome := some .admitted }
  else { c with window := [e], anchor := some e.temp, outcome := some .restarted }

/-- The trimmed mean of a window's loads (R140): one least and one greatest set aside, the rest averaged and rounded
half up over 14. -/
def trimmedMean (loads : List Nat) : Nat :=
  let least := loads.foldl min (loads.headD 0)
  let greatest := loads.foldl max 0
  (loads.sum - least - greatest + 7) / 14

/-- The proposed factor (R140). -/
def proposedFactor (fA target mean : Nat) : Nat :=
  (fA * target + mean / 2) / mean

/-- The limit in step (R141). -/
def steppedFactor (fA proposal : Nat) : Nat :=
  max (fA - 20) (min (fA + 20) proposal)

/-- The limit in range (R141). -/
def clampFactor (f : Nat) : Nat :=
  max 3686 (min 4506 f)

/-- One lane's state after an update (R140 to R142): the new fA, the count, the limit flag, the emptied window. -/
def LaneCal.update (c : LaneCal) (target : Nat) : LaneCal :=
  let stepped := steppedFactor c.fA (proposedFactor c.fA target (trimmedMean (c.window.map (·.load))))
  let f := clampFactor stepped
  { window := [], anchor := none, fA := f, updates := satSucc 65535 c.updates,
    limit := if f ≠ stepped then true else if f = 3686 ∨ f = 4506 then c.limit else false,
    outcome := some .updated }

/-- The clamp binds: the stepped value lies outside 3,686 to 4,506 (R141). -/
def LaneCal.clampBinds (c : LaneCal) (target : Nat) : Bool :=
  let stepped := steppedFactor c.fA (proposedFactor c.fA target (trimmedMean (c.window.map (·.load))))
  decide (clampFactor stepped ≠ stepped)

/-- The update of a lane whose window has reached 16 entries, with its events and its write reason (R142, R146). -/
def State.updateFactor (s : State) (l : LaneIx) (c : LaneCal) : State :=
  let target := s.prof.active.autocal.target
  let s1 := (s.setLaneCal l (c.update target)).raiseAt .calUpdate l.val
  let s2 := if c.clampBinds target then s1.raiseAt .calLimit l.val else s1
  s2.placeReason .learned

/-- The offer of a closed record to the auto-calibration unit (R136 to R142). -/
def State.offerToCal (s : State) (r : VehicleRec) : State :=
  let c := s.cal[r.lane]
  match s.offerFailure r with
  | some o => s.setLaneCal r.lane { c with outcome := some o }
  | none =>
    let c' := c.place r.calEntry
    if 16 ≤ c'.window.length then s.updateFactor r.lane c' else s.setLaneCal r.lane c'

/-- Clears a lane's window and anchor when its status leaves LIVE (R143). -/
def LaneCal.clear (c : LaneCal) : LaneCal :=
  { c with window := [], anchor := none }

/-- A lane at the completion of a metrological commit (R144): the fA of its committed LANES entry, count 0, flag
clear, window empty. The last offer outcome is kept (R149's table). -/
def LaneCal.metroReset (c : LaneCal) (fA : Nat) : LaneCal :=
  { c with window := [], anchor := none, fA := fA, updates := 0, limit := false }

end Sys2Proof.Machine
end

