-- ==== Sys2Proof/Machine/Vehicles.lean ====
section
/-! DEFINITION. The vehicle assembler, the classifier, the overload screening and the offer to the record store
(chapter 6), with the two commands that close a frame by the clock. -/

namespace Sys2Proof.Machine

open Sys2Proof

/-! ### The record -/

/-- An axle's wheel at a side: the lower position of two is the left one; a single one is left on an even position
(R100). -/
def AxleRec.wheelAt (a : AxleRec) (side : StripSide) : Option AxleWheel :=
  match a.wheels, side with
  | [w], _ => if posSide w.pos = side then some w else none
  | w :: _ :: _, .left => some w
  | _ :: w :: _, .right => some w
  | [], _ => none

/-- The axle entry of a record (R119). -/
def FrameAxle.entry (a : FrameAxle) : AxleEntry :=
  { speed := a.axle.speed, load := a.axle.load, left := (a.axle.wheelAt .left).bind (·.load),
    right := (a.axle.wheelAt .right).bind (·.load), spacing := a.spacing, tempUsed := a.axle.tempUsed,
    flags := a.axle.flags }

/-- The gross of a record (R103): absent if any axle has no load. -/
def grossOf (axles : List AxleEntry) : Option Nat :=
  sumAll (axles.map (·.load))

/-! ### The class table -/

/-- The single-track test of an entry (R123). -/
def TrackTest.passes (t : TrackTest) (axles : List AxleEntry) : Bool :=
  let all := axles.all (fun a => hasFlag a.flags .single)
  match t with
  | .any => true
  | .required => all
  | .forbidden => !all

/-- The spacing ranges of an entry against a record's gaps (R123): range g applies to gap g, and a range beyond the
last gap is not tested. The axles are given from gap 1 on; the last axle has no gap. -/
def rangesPass : List (Nat × Nat) → List AxleEntry → Bool
  | r :: rs, a :: b :: rest => presentWithin r.1 r.2 a.spacing && rangesPass rs (b :: rest)
  | _, _ => true

/-- An optional range against an optional value: a range tested against an absent value fails (R123). -/
def optionalRange (r : Option (Nat × Nat)) (x : Option Nat) : Bool :=
  match r with
  | none => true
  | some (lo, hi) => presentWithin lo hi x

/-- A record matches an entry (R123). -/
def ClassEntry.matchesRecord (e : ClassEntry) (axles : List AxleEntry) (gross length : Option Nat) : Bool :=
  decide (e.minAxles ≤ axles.length) && decide (axles.length ≤ e.maxAxles) && e.track.passes axles
    && rangesPass e.ranges axles && optionalRange e.gross gross && optionalRange e.length length

/-- Classing (R123, R124): REVERSE and ABORTED records are not searched; otherwise the first matching entry, or class
0 with UNCLASSED. -/
def classify (table : List ClassEntry) (flags : BitVec 32) (axles : List AxleEntry) (gross length : Option Nat) :
    Nat × BitVec 32 :=
  if hasAnyFlag flags [.reverse, .aborted] then (0, 0)
  else match table.find? (fun e => e.matchesRecord axles gross length) with
    | some e => (e.code, 0)
    | none => (0, Flag.unclassed.one)

/-! ### Overload screening -/

/-- A load above its limit with the margin (R125). -/
def overLimit (limit margin : Nat) : Option Nat → Bool
  | none => false
  | some x => decide (x * 100 > limit * (100 + margin))

/-- OVERLOAD_AXLE and OVERLOAD_GROSS (R125). -/
def overloadFlags (site : SiteSec) (axles : List AxleEntry) (gross : Option Nat) : BitVec 32 :=
  flagIf (axles.any (fun a => overLimit site.axleLimit site.margin a.load)) .overloadAxle
    ||| flagIf (overLimit site.grossLimit site.margin gross) .overloadGross

/-! ### The record store -/

/-- Axle slots in use (R126). -/
def slotsUsed (rs : List VehicleRec) : Nat :=
  (rs.map (fun r => r.axles.length)).sum

/-- The store would hold no more than 48 records and 256 axle slots with this record (R126). -/
def storeHasRoom (rs : List VehicleRec) (r : VehicleRec) : Bool :=
  decide (rs.length + 1 ≤ 48) && decide (slotsUsed rs + r.axles.length ≤ 256)

/-- The offer of a record to the store (R126, R127). -/
def State.offerToStore (s : State) (r : VehicleRec) : State :=
  if storeHasRoom s.store r then
    let s1 := s.setStore (s.store ++ [r])
    if decide (s.store.length < s.prof.active.site.highWater)
        && decide (s.prof.active.site.highWater ≤ s.store.length + 1) then
      s1.raise .storeHigh 0
    else s1
  else s.raiseAt .recordDropped r.lane.val

/-! ### Closing a frame -/

/-- Why a frame closes, as far as its record shows it (R109, R112). -/
inductive CloseCause where
  | plain
  | truncated
  | aborted
deriving DecidableEq, Repr

/-- The flag a close puts on the record. -/
def CloseCause.flag : CloseCause → BitVec 32
  | .plain => 0
  | .truncated => Flag.truncated.one
  | .aborted => Flag.aborted.one

/-- The sequence number after `n`: from 2^32 − 1 to 1, never 0 (R116). -/
def nextSeq (n : BitVec 32) : BitVec 32 :=
  if n + 1 = 0 then 1 else n + 1

/-- The flags a record carries before it is classed and screened (R115, R117, R118, R120). -/
def State.closeFlags (s : State) (l : LaneIx) (f : Frame) (cause : CloseCause) : BitVec 32 :=
  f.flags ||| cause.flag ||| flagIf (decide (s.prof.generation ≠ f.generation)) .mixed
    ||| tempFlag (s.tempStatus l)
    ||| flagIf (decide (s.cal[l].fA = 3686) || decide (s.cal[l].fA = 4506)) .calLimit
    ||| flagIf (!s.site.epochSet) .timeUnset

/-- The record of a closing frame (R117 to R125). -/
def State.buildRecord (s : State) (l : LaneIx) (f : Frame) (cause : CloseCause) : VehicleRec :=
  let axles := f.axles.map FrameAxle.entry
  let gross := grossOf axles
  let flags := s.closeFlags l f cause
  let cls := classify s.prof.active.classes flags axles gross f.length
  { boot := s.prof.boot, seq := s.asm.seq, lane := l, openSite := f.openSite, closeSite := s.site.time,
    meanSpeed := meanSpeed f.axles, classCode := cls.1,
    tempUsed := (f.axles.head?.map (fun a => a.axle.tempUsed)).getD 200,
    tempStatus := (f.axles.head?.map (fun a => a.axle.tempStatus)).getD .none,
    generation := s.prof.generation,
    flags := flags ||| cls.2 ||| overloadFlags s.prof.active.site axles gross,
    length := f.length, gross := gross, axles := axles }

/-- A frame closes (R121): number, record, class and screening, last-closed mean speed, then the offers to the store
and to the auto-calibration unit. With no open frame nothing happens. -/
def State.closeFrame (s : State) (l : LaneIx) (cause : CloseCause) : State :=
  match s.asm.frames[l] with
  | none => s
  | some f =>
    let r := s.buildRecord l f cause
    let s1 := s.setAsm
      { frames := s.asm.frames.set l none, lastMean := s.asm.lastMean.set l r.meanSpeed, seq := nextSeq s.asm.seq }
    let s2 := if hasAnyFlag r.flags [.overloadAxle, .overloadGross] then s1.raiseAt .overload l.val else s1
    (s2.offerToStore r).offerToCal r

/-! ### Opening and joining -/

/-- The open site time: the site time now less the ticks since the first axle's time divided by 8 (R117). Where site
time has been set to less than that, it wraps modulo 2^48 (log 30). -/
def State.siteTimeOf (s : State) (t : Tick) : BitVec 48 :=
  s.site.time - BitVec.ofNat 48 (elapsed t s.now / 8)

/-- REVERSE, taken when the lane's presence machine is in REVERSE at opening or at a join (R115). -/
def State.reverseFlag (s : State) (l : LaneIx) : BitVec 32 :=
  flagIf (decide (s.loops[l].presence = .reverse)) .reverse

/-- An axle is handed on once the tick at which the frame timeout would close its frame has been reached (R111). -/
def State.axleOverdue (s : State) (a : AxleRec) : Bool :=
  s.spanPassed a.time (fun p => secTicks p.site.frameTimeout)

/-- A frame opens with an axle (R106). The frame count of the U occupancy rises while the machine sees U occupied
(R33). -/
def State.openFrame (s : State) (a : AxleRec) : State :=
  let m := s.loops[a.lane]
  let f : Frame :=
    { openTick := a.time, openSite := s.siteTimeOf a.time, axles := [{ axle := a, spacing := none }],
      flags := a.flags ||| flagIf m.congested .congested ||| s.reverseFlag a.lane
        ||| flagIf (!s.site.epochSet) .timeUnset,
      generation := a.generation, length := none, shared := false, overdue := s.axleOverdue a }
  (s.setFrame a.lane (some f)).setLaneMon a.lane
    (if m.uView then { m with frameCount := satSucc 255 m.frameCount } else m)

/-- Gives the last axle of a list its spacing and appends the next axle. -/
def appendAxle : List FrameAxle → AxleRec → List FrameAxle
  | [], a => [{ axle := a, spacing := none }]
  | [p], a => [{ p with spacing := axleSpacing p.axle a }, { axle := a, spacing := none }]
  | p :: rest, a => p :: appendAxle rest a

/-- An axle joins an open frame (R107). -/
def State.joinFrame (s : State) (f : Frame) (a : AxleRec) : State :=
  s.setFrame a.lane (some
    { f with
      axles := appendAxle f.axles a,
      flags := f.flags ||| a.flags ||| flagIf (decide (a.generation ≠ f.generation)) .mixed
        ||| s.reverseFlag a.lane,
      overdue := s.axleOverdue a })

/-- The last axle of a frame. -/
def Frame.last (f : Frame) : Option AxleRec :=
  f.axles.getLast?.map (·.axle)

/-- The gap test of R108: the new axle is too far from the frame's last axle. -/
def State.gapTooFar (s : State) (f : Frame) (a : AxleRec) : Bool :=
  match f.last with
  | none => false
  | some p => !withinSpacing s.prof.active.site.maxSpacing p.time a.time p.speed a.speed

/-- The frame is one that its timeout should have closed before the axle's time (R111, last sentence; log 29): its last
axle was handed on overdue, and the axle lies further from it than the timeout in force. Any other open frame takes an axle
that passes the gap and count tests (R107, R113). -/
def State.timeoutGone (s : State) (f : Frame) (a : AxleRec) : Bool :=
  match f.last with
  | none => false
  | some p => f.overdue && hasPassed p.time (secTicks s.prof.active.site.frameTimeout + 1) a.time

/-- A loaded axle is handed on to its lane: gap, count, join (R106, R107). Where R111's last sentence keeps an axle out of
a frame that is overdue, the frame closes as the gap test closes it (log 29). -/
def State.handOn (s : State) (a : AxleRec) : State :=
  match s.asm.frames[a.lane] with
  | none => s.openFrame a
  | some f =>
    if s.gapTooFar f a || s.timeoutGone f a then (s.closeFrame a.lane .plain).openFrame a
    else if 15 ≤ f.axles.length then (s.closeFrame a.lane .truncated).openFrame a
    else s.joinFrame f a

/-! ### The closes of the clock -/

/-- The close tick of R110 has been reached, the presence condition holds, and no candidate is open. A close that a
commit's shorter delay brings forward waits for the next tick (R111). -/
def State.presenceCloseDue (s : State) (l : LaneIx) : Bool :=
  match s.asm.frames[l], s.loops[l].idleSince with
  | some f, some t =>
    let base := match f.last with
      | some a => laterOf a.time t
      | none => t
    s.spanPassed base (fun p => msTicks p.site.closeDelay) && s.former.candidates[l].isEmpty
  | _, _ => false

/-- The frame timeout of R111 has been reached. A frame opened by an axle that completes after the tick R111 names is due
at once (log 29). -/
def State.frameTimeoutDue (s : State) (l : LaneIx) : Bool :=
  match (s.asm.frames[l]).bind Frame.last with
  | some a => s.axleOverdue a
  | none => false

/-- PRESENCE_CLOSE (R110). -/
def execPresenceClose (l : LaneIx) (s : State) : Host.Outcome State Fault Refusal :=
  whenDue s (s.presenceCloseDue l) (s.closeFrame l .plain)

/-- FRAME_TIMEOUT (R111). -/
def execFrameTimeout (l : LaneIx) (s : State) : Host.Outcome State Fault Refusal :=
  whenDue s (s.frameTimeoutDue l) (s.closeFrame l .plain)

end Sys2Proof.Machine
end

