-- ==== Sys2Proof/Machine/AxleFormer.lean ====
section
/-! DEFINITION. The axle former (chapter 4): pending lists, pairing, candidates, completion, lane assignment, misses,
speed, and what a lane's deactivation does (R39). -/

namespace Sys2Proof.Machine

open Sys2Proof

/-! ### Pending lists, wheels and sides -/

/-- The pending list of a row and position. -/
def State.waiting (s : State) (r : StripRow) (q : PosIx) : List HitRec :=
  match r with
  | .rowA => s.former.waitA[q]
  | .rowB => s.former.waitB[q]

/-- Replaces a pending list. -/
def State.setWaiting (s : State) (r : StripRow) (q : PosIx) (hs : List HitRec) : State :=
  match r with
  | .rowA => s.setFormer { s.former with waitA := s.former.waitA.set q hs }
  | .rowB => s.setFormer { s.former with waitB := s.former.waitB.set q hs }

/-- The start of a wheel: that of its leading hit, or of its trailing hit alone (chapter 4, FROM HITS TO WHEELS). -/
def Wheel.start (w : Wheel) : Tick :=
  match w.lead, w.trail with
  | some h, _ => h.start
  | none, some h => h.start
  | none, none => 0

/-- A wheel with a hit of one row only (R78). -/
def Wheel.oneRow (w : Wheel) : Bool :=
  w.lead.isNone || w.trail.isNone

/-- The one-row wheel of a leading hit that leaves its list unpaired (R66, R71). Row B leads on reverse lanes only
(R62), so its wheel is REVERSE. -/
def HitRec.leadingWheel (h : HitRec) : Wheel :=
  { pos := h.pos, lead := some h, trail := none, speed := none, reverse := decide (h.row = .rowB) }

/-- The position of a side. -/
def Side.pos : Side → PosIx
  | .waiting h => h.pos
  | .formed w => w.pos

/-- The wheel start of a side. -/
def Side.start : Side → Tick
  | .waiting h => h.start
  | .formed w => w.start

/-- The side is the waiting hit `h`. -/
def Side.awaits (h : HitRec) : Side → Bool
  | .waiting h' => decide (h' = h)
  | .formed _ => false

/-- The wheel of a side at completion (R71). -/
def Side.close : Side → Wheel
  | .waiting h => h.leadingWheel
  | .formed w => w

/-- The earlier of two ticks. -/
def earlierOf (a b : Tick) : Tick :=
  if isLater a b then b else a

/-- A candidate's first start: the earliest wheel start among its sides (chapter 4, AXLE CANDIDATES). -/
def Candidate.firstStart (c : Candidate) : Tick :=
  match c.sides with
  | [] => c.opened
  | x :: rest => rest.foldl (fun t y => earlierOf t y.start) x.start

/-- Two formed sides with both hits each (R69). -/
def Candidate.hasFourHits (c : Candidate) : Bool :=
  decide (c.sides.length = 2) && c.sides.all (fun x => match x with
    | .waiting _ => false
    | .formed w => !w.oneRow)

/-- All open candidates with the lane they are held in. -/
def State.openCandidates (s : State) : List (LaneIx × Candidate) :=
  allLanes.flatMap (fun l => s.former.candidates[l].map (fun c => (l, c)))

/-- The open candidate with a given number. -/
def State.findCandidate (s : State) (id : Nat) : Option (LaneIx × Candidate) :=
  s.openCandidates.find? (fun lc => decide (lc.2.id = id))

/-- The maximum wait Δmax of a row spacing in mm (R66). -/
def maxWaitOf (rowSpacing : Nat) : Nat :=
  rowSpacing * 16000 / 2999

/-- The maximum wait Δmax of a lane (R66). -/
def State.maxWait (s : State) (l : LaneIx) : Nat :=
  maxWaitOf (s.laneEntry l).rowSpacing

/-- A candidate's deadline has been reached (R69). -/
def State.candidateOverdue (s : State) (l : LaneIx) (c : Candidate) : Bool :=
  hasPassed c.firstStart (s.maxWait l + s.prof.active.site.window) s.now

/-- Of two candidates, the one with the earlier first start, or of equal ones the one opened earlier.
R68 states both for capacity. R70 orders by first start only, and R69 does not order the deadlines of one tick: that the
one opened earlier comes first among equal first starts there too is the model's choice (log 34). -/
def firstOfTwo (a b : Candidate) : Candidate :=
  if isLater a.firstStart b.firstStart then b
  else if isLater b.firstStart a.firstStart then a
  else if b.id < a.id then b else a

/-- The candidate of a list that comes first. -/
def firstCandidate : List Candidate → Option Candidate
  | [] => none
  | c :: rest => some (rest.foldl firstOfTwo c)

/-! ### Withdrawal (R63, R72) -/

/-- A candidate without the waiting sides whose hit is withdrawn; a formed side is never withdrawn. -/
def Candidate.without (p : HitRec → Bool) (c : Candidate) : Candidate :=
  { c with sides := c.sides.filter (fun x => match x with
      | .waiting h => !p h
      | .formed _ => true) }

/-- Hits leave the pending lists without forming a wheel, their sides leave their candidates, and a candidate left
with no side is discarded (R72). A candidate left with one side stays held in the lane it opened in, also where its first
side is gone and the other lies in the neighbouring lane: R72 does not say whether the holding lane then moves (model's
choice, log 35). -/
def State.withdrawHits (s : State) (p : HitRec → Bool) : State :=
  s.setFormer { s.former with
    waitA := s.former.waitA.map (fun hs => hs.filter (fun h => !p h)),
    waitB := s.former.waitB.map (fun hs => hs.filter (fun h => !p h)),
    candidates := s.former.candidates.map (fun cs => (cs.map (Candidate.without p)).filter (fun c => !c.sides.isEmpty)) }

/-- The candidates that lose a side, keep one, and are past the deadline so recomputed: they complete at once (R72). -/
def State.overdueAfterWithdrawal (s : State) (p : HitRec → Bool) : List Nat :=
  (s.openCandidates.filter (fun lc =>
    let c := lc.2.without p
    decide (c.sides.length < lc.2.sides.length) && !c.sides.isEmpty && s.candidateOverdue lc.1 c)).map (fun lc => lc.2.id)

/-! ### Misses (R15, R16) -/

/-- The front end takes a miss notice (R15). A count that reaches 32 makes the channel DEAD, and its waiting hits are
withdrawn (R16). The second component names the candidates that then complete at once. -/
def State.missNotice (s : State) (c : ChanIx) : State × List Nat :=
  let ch := s.strip.channels[c]
  match ch.state with
  | .normal | .degraded =>
    let n := satSucc 255 ch.miss
    if 32 ≤ n then
      let s1 := (s.setChannel c { ch with miss := n, state := .dead }).raiseAt .channelState c.val
      let p := fun h : HitRec => decide (h.channel = c)
      (s1.withdrawHits p, s1.overdueAfterWithdrawal p)
    else (s.setChannel c { ch with miss := n }, [])
  | _ => (s, [])

/-- A notice to the channel mapped at a row and position, if one is (R65, R75). -/
def State.missAt (s : State) (r : StripRow) (q : PosIx) : State × List Nat :=
  match s.channelAt r q with
  | none => (s, [])
  | some c => s.missNotice c

/-- The notices of a completed axle: one for each forward wheel with a leading hit and no trailing hit (R75). -/
def State.axleNotices : List Wheel → State → State × List Nat
  | [], s => (s, [])
  | w :: rest, s =>
    if !w.reverse && w.lead.isSome && w.trail.isNone then
      let r := s.missAt .rowB w.pos
      let r' := State.axleNotices rest r.1
      (r'.1, r.2 ++ r'.2)
    else State.axleNotices rest s

/-! ### Lane assignment, speed and the axle record (R73 to R78) -/

/-- A lane qualifies by frame continuation (R73, step 1); the last axle's time is given. -/
def State.continuation (s : State) (l : LaneIx) (time : Tick) (v : Option Nat) : Option Tick :=
  match (s.asm.frames[l]).bind Frame.last with
  | some p =>
    if !isLater p.time time && withinSpacing s.prof.active.site.maxSpacing p.time time p.speed v then some p.time
    else none
  | none => none

/-- The lane of a straddle axle between lanes `n` and `m`, `n` the lower-numbered (R73). -/
def State.assignStraddle (s : State) (n m : LaneIx) (time : Tick) (v : Option Nat) : LaneIx :=
  match s.continuation n time v, s.continuation m time v with
  | some _, none => n
  | none, some _ => m
  | some t1, some t2 => if isLater t2 t1 then m else n
  | none, none =>
    let nOut := decide (s.loops[n].presence ≠ .idle)
    let mOut := decide (s.loops[m].presence ≠ .idle)
    if mOut && !nOut then m else n

/-- The wheel-pair speed: the mean of two wheel speeds rounded half up, or the one there is (R76, source 1). -/
def wheelPairSpeed (ws : List Wheel) : Option Nat :=
  match ws.filterMap (·.speed) with
  | [] => none
  | [v] => some v
  | v1 :: v2 :: _ => some ((v1 + v2 + 1) / 2)

/-- The speed of a kept axle and its source (R76). -/
def State.axleSpeed (s : State) (l : LaneIx) (ws : List Wheel) : Option Nat × SpeedSource :=
  if ws.any (·.reverse) then (none, .none)
  else match wheelPairSpeed ws with
    | some v => (some v, .wheelPair)
    | none =>
      match ((s.asm.frames[l]).bind Frame.last).bind (·.speed) with
      | some v => (some v, .held)
      | none =>
        match s.loops[l].speed with
        | some (v, _) => (some v, .loop)
        | none => (none, .none)

/-- A hit with its channel's state as it stands (R78). -/
def State.see (s : State) (h : HitRec) : SeenHit :=
  { hit := h, state := s.strip.channels[h.channel].state }

/-- A wheel of the axle record before it is weighed (R77). -/
def State.axleWheel (s : State) (w : Wheel) : AxleWheel :=
  { pos := w.pos, lead := w.lead.map s.see, trail := w.trail.map s.see, speed := w.speed, load := none,
    flags := flagIf w.oneRow .oneRow ||| flagIf w.reverse .reverse }

/-- The hits of a wheel. -/
def Wheel.hits (w : Wheel) : List HitRec :=
  w.lead.toList ++ w.trail.toList

/-- The wheels of an axle, the lower position first. -/
def orderWheels : List Wheel → List Wheel
  | [a, b] => if b.pos < a.pos then [b, a] else [a, b]
  | ws => ws

/-- The two lanes of an axle's wheels; they differ for a straddle axle only (R71). -/
def wheelLanes (ws : List Wheel) (holding : LaneIx) : LaneIx × LaneIx :=
  match ws with
  | [] => (holding, holding)
  | [a] => (posLane a.pos, posLane a.pos)
  | a :: b :: _ => (posLane a.pos, posLane b.pos)

/-- The axle flags of the axle former (R78). -/
def formerFlags (ws : List Wheel) (straddle forced : Bool) (src : SpeedSource) : BitVec 32 :=
  flagIf straddle .straddle ||| flagIf (decide (ws.length = 1)) .single ||| flagIf (ws.any Wheel.oneRow) .oneRow
    ||| flagIf forced .forced ||| flagIf (ws.any (·.reverse)) .reverse
    ||| flagIf (ws.any (fun w => w.hits.any (·.clip))) .clip ||| sourceFlag src

/-- A late axle: its lane's frame already holds a later one (R74). -/
def State.isLateAxle (s : State) (l : LaneIx) (time : Tick) : Bool :=
  match (s.asm.frames[l]).bind Frame.last with
  | some p => isLater p.time time
  | none => false

/-- The axle record of a kept axle, before the load engine (R77). `seen` are its wheels with the channel states
recorded before the notices. -/
def State.axleRecord (s : State) (l holding : LaneIx) (time : Tick) (ws : List Wheel) (seen : List AxleWheel)
    (straddle forced : Bool) : AxleRec :=
  let v := s.axleSpeed l ws
  { lane := l, holding := holding, time := time, wheels := seen, speed := v.1, source := v.2,
    flags := formerFlags ws straddle forced v.2, generation := s.prof.generation, load := none, tempUsed := 200,
    tempStatus := .none }

/-! ### Completion (R69 to R79) -/

/-- The candidate leaves its lane and its waiting hits leave their lists (R71). -/
def State.takeOut (s : State) (l : LaneIx) (c : Candidate) : State :=
  let gone := fun h : HitRec => c.sides.any (Side.awaits h)
  s.setFormer { s.former with
    waitA := s.former.waitA.map (fun hs => hs.filter (fun h => !gone h)),
    waitB := s.former.waitB.map (fun hs => hs.filter (fun h => !gone h)),
    candidates := alter s.former.candidates l (fun cs => cs.filter (fun c' => decide (c'.id ≠ c.id))) }

/-- An axle is assigned, and kept or discarded; a kept one is loaded and handed on (R73, R74, R76 to R79). -/
def State.deliverAxle (s : State) (holding : LaneIx) (time : Tick) (ws : List Wheel) (seen : List AxleWheel)
    (forced : Bool) : State :=
  let lanes := wheelLanes ws holding
  let straddle := decide (lanes.1 ≠ lanes.2)
  let l := if straddle then s.assignStraddle lanes.1 lanes.2 time (wheelPairSpeed ws) else lanes.1
  if !s.laneActive l then s
  else if s.isLateAxle l time then
    s.setFormer { s.former with late := alter s.former.late l (satSucc 65535) }
  else s.handOn (s.loadAxle (s.axleRecord l holding time ws seen straddle forced))

/-- One candidate completes (R71 to R79). The second component names the candidates that its notices make complete at
once (R72). -/
def State.completeOne (s : State) (l : LaneIx) (c : Candidate) (forced : Bool) : State × List Nat :=
  let ws := orderWheels (c.sides.map Side.close)
  let s1 := s.takeOut l c
  let r := State.axleNotices ws s1
  (r.1.deliverAxle l c.firstStart ws (ws.map s1.axleWheel) forced, r.2)

/-- Another open candidate held in the lane whose first start is earlier, the earliest of them (R70); of equal ones
the one opened earlier (model's choice, log 34). -/
def State.aheadOf (s : State) (l : LaneIx) (c : Candidate) : Option Candidate :=
  firstCandidate (s.former.candidates[l].filter (fun c' =>
    decide (c'.id ≠ c.id) && isLater c.firstStart c'.firstStart))

/-- Candidates complete in turn, each after the earlier ones of its lane, the earliest first (R70), each one named with its
FORCED mark.
A named candidate completes even if a withdrawal by an earlier completion's miss notice has left it with one side and a
deadline that has not passed (model's choice, log 18).
The first argument bounds the number of turns. -/
def State.completeInTurn : Nat → List (Nat × Bool) → State → State
  | 0, _, s => s
  | _ + 1, [], s => s
  | n + 1, (id, forced) :: rest, s =>
    match s.findCandidate id with
    | none => State.completeInTurn n rest s
    | some (l, c) =>
      match s.aheadOf l c with
      | some c' =>
        let r := s.completeOne l c' false
        State.completeInTurn n (r.2.map (fun i => (i, false)) ++ (id, forced) :: rest) r.1
      | none =>
        let r := s.completeOne l c forced
        State.completeInTurn n (r.2.map (fun i => (i, false)) ++ rest) r.1

/-- Completion of the named candidates: each turn takes out a candidate or drops a name, so this many turns suffice. -/
def State.complete (s : State) (todo : List (Nat × Bool)) : State :=
  State.completeInTurn (6 * s.openCandidates.length + todo.length + 1) todo s

/-- Completion of candidates none of which is FORCED. -/
def State.completeIds (s : State) (ids : List Nat) : State :=
  s.complete (ids.map (fun i => (i, false)))

/-- Hits are withdrawn, and candidates past their recomputed deadline complete at once (R72). -/
def State.withdraw (s : State) (p : HitRec → Bool) : State :=
  (s.withdrawHits p).completeIds (s.overdueAfterWithdrawal p)

/-! ### Wheel-start events (R67, R68) -/

/-- The neighbour of a position on its own lane pair. -/
def ownNeighbour (q : PosIx) : Nat :=
  if q.val % 2 = 1 then q.val - 1 else q.val + 1

/-- A candidate is eligible for a side at `q` starting at `t` (R67). -/
def Candidate.eligible (c : Candidate) (q : PosIx) (t : Tick) (window : Nat) : Bool :=
  match c.sides with
  | [x] =>
    (decide (x.pos.val + 1 = q.val) || decide (x.pos.val = q.val + 1))
      && decide (tickDistance t c.firstStart ≤ window)
  | _ => false

/-- The candidate's one side lies on the own lane pair of `q`. -/
def Candidate.onOwnPair (c : Candidate) (q : PosIx) : Bool :=
  c.sides.any (fun x => decide (x.pos.val = ownNeighbour q))

/-- Of two eligible candidates, the one the side joins: the nearer, then the one on the own pair, then the one opened
earlier (R67). -/
def nearerOfTwo (q : PosIx) (t : Tick) (a b : Candidate) : Candidate :=
  let da := tickDistance t a.firstStart
  let db := tickDistance t b.firstStart
  if db < da then b
  else if da < db then a
  else if b.onOwnPair q && !a.onOwnPair q then b
  else if a.onOwnPair q && !b.onOwnPair q then a
  else if b.id < a.id then b else a

/-- The candidate a new side joins, if any is eligible (R67). -/
def State.chooseCandidate (s : State) (q : PosIx) (t : Tick) : Option Candidate :=
  match (s.openCandidates.map (·.2)).filter (fun c => c.eligible q t s.prof.active.site.window) with
  | [] => none
  | c :: rest => some (rest.foldl (nearerOfTwo q t) c)

/-- Every open candidate with number `id` changed by `f`. -/
def State.mapCandidate (s : State) (id : Nat) (f : Candidate → Candidate) : State :=
  s.setFormer { s.former with
    candidates := s.former.candidates.map (fun cs => cs.map (fun c => if c.id = id then f c else c)) }

/-- The hit of a waiting side still stands in its pending list. -/
def State.sideStands (s : State) (x : Side) : Bool :=
  match x with
  | .waiting h => (s.waiting h.row h.pos).contains h
  | .formed _ => true

/-- A new candidate opens with one side (R67). -/
def State.openCandidate (s : State) (l : LaneIx) (x : Side) : State :=
  s.setFormer { s.former with
    candidates := alter s.former.candidates l (fun cs => cs ++ [{ id := s.former.nextId, opened := s.now, sides := [x] }]),
    nextId := s.former.nextId + 1 }

/-- Room is made in a lane that already holds 4 candidates: the one with the earliest first start completes at once,
FORCED (R68). -/
def State.makeRoom (s : State) (l : LaneIx) : State :=
  if 4 ≤ s.former.candidates[l].length then
    match firstCandidate s.former.candidates[l] with
    | some c => s.complete [(c.id, true)]
    | none => s
  else s

/-- A wheel-start event (R67): the side joins the chosen candidate, which completes at once if its deadline has then
passed (R69), or opens a candidate of its own. -/
def State.wheelStart (s : State) (x : Side) : State :=
  match s.chooseCandidate x.pos x.start with
  | some c =>
    let s1 := s.mapCandidate c.id (fun c => { c with sides := c.sides ++ [x] })
    match s1.findCandidate c.id with
    | some (l, c') => if s1.candidateOverdue l c' then s1.completeIds [c.id] else s1
    | none => s1
  | none =>
    let l := posLane x.pos
    let s1 := s.makeRoom l
    if s1.sideStands x then s1.openCandidate l x else s1

/-! ### Arrival of a hit (R62 to R65) -/

/-- The lane runs backward for a hit that arrives now (R29, R62). -/
def State.runsReverse (s : State) (l : LaneIx) : Bool :=
  decide (s.loops[l].presence = .reverse)

/-- The leading row of a lane (R62). -/
def leadingRow (reverse : Bool) : StripRow :=
  if reverse then .rowB else .rowA

/-- The discard count of a channel rises by one, saturating (R17). -/
def State.countDiscard (s : State) (c : ChanIx) : State :=
  let ch := s.strip.channels[c]
  s.setChannel c { ch with discard := satSucc 65535 ch.discard }

/-- A leading hit arrives (R62): a full list evicts its oldest hit first, the new hit is placed at the tail and offered
to the candidates. -/
def State.leadingArrival (s : State) (h : HitRec) : State :=
  let s1 := match s.waiting h.row h.pos with
    | old :: rest =>
      if 4 ≤ (old :: rest).length then
        (s.countDiscard old.channel).withdraw (fun x => decide (x = old))
      else s
    | [] => s
  (s1.setWaiting h.row h.pos (s1.waiting h.row h.pos ++ [h])).wheelStart (.waiting h)

/-- The speed of a wheel from its two hits: row spacing × 8,000 / Δ rounded half up, if Δ is positive and the speed
lies in the weighing range (R64). -/
def pairSpeed (spacing : Nat) (lead trail : HitRec) : Option Nat :=
  if isLater trail.start lead.start then
    let v := roundHalfUp (spacing * 8000) (elapsed lead.start trail.start)
    if 1500 ≤ v ∧ v ≤ 60000 then some v else none
  else none

/-- A trailing hit pairs with a waiting one (R64): the hit leaves its list, its side becomes a formed wheel, and a
candidate with four hits completes. -/
def State.pairHits (s : State) (lead trail : HitRec) (v : Nat) (reverse : Bool) : State :=
  let w : Wheel := { pos := trail.pos, lead := some lead, trail := some trail, speed := if reverse then none else some v,
                     reverse := reverse }
  let s1 := s.setWaiting lead.row lead.pos ((s.waiting lead.row lead.pos).filter (fun h => decide (h ≠ lead)))
  match s1.openCandidates.find? (fun lc => lc.2.sides.any (Side.awaits lead)) with
  | none => s1
  | some (l, c) =>
    let c' : Candidate := { c with sides := c.sides.map (fun x => if Side.awaits lead x then .formed w else x) }
    let s2 := s1.setCandidates l (s1.former.candidates[l].map (fun x => if x.id = c.id then c' else x))
    if c'.hasFourHits then s2.completeIds [c.id] else s2

/-- A trailing hit arrives (R64, R65): it pairs with the oldest waiting hit that passes the test, or forms a one-row
wheel by itself; on a forward lane that wheel's notice goes out at its forming (log 11). -/
def State.trailingArrival (s : State) (h : HitRec) (reverse : Bool) : State :=
  let spacing := (s.laneEntry (posLane h.pos)).rowSpacing
  match (s.waiting (leadingRow reverse) h.pos).find? (fun x => (pairSpeed spacing x h).isSome) with
  | some lead => s.pairHits lead h ((pairSpeed spacing lead h).getD 0) reverse
  | none =>
    let w : Wheel := { pos := h.pos, lead := none, trail := some h, speed := none, reverse := reverse }
    let r := if reverse then (s, []) else s.missAt .rowA h.pos
    (r.1.completeIds r.2).wheelStart (.formed w)

/-- A delivered hit arrives at the axle former (R62). -/
def State.hitArrival (s : State) (h : HitRec) : State :=
  let reverse := s.runsReverse (posLane h.pos)
  if h.row = leadingRow reverse then s.leadingArrival h else s.trailingArrival h reverse

/-! ### Lane deactivation (R39) -/

/-- The candidates held in the lanes `ls` are discarded with their wheels and hits (R39, R72; log 12). -/
def State.discardCandidates (s : State) (ls : List LaneIx) : State :=
  let gone := ls.flatMap (fun l => s.former.candidates[l])
  let out := fun h : HitRec => gone.any (fun c => c.sides.any (Side.awaits h))
  s.setFormer { s.former with
    waitA := s.former.waitA.map (fun hs => hs.filter (fun h => !out h)),
    waitB := s.former.waitB.map (fun hs => hs.filter (fun h => !out h)),
    candidates := Vector.ofFn (fun l => if ls.contains l then [] else s.former.candidates[l]) }

/-- The frames of the lanes `ls` close ABORTED, one after another (R39, R112). -/
def State.abortFrames (s : State) (ls : List LaneIx) : State :=
  ls.foldl (fun t l => t.closeFrame l .aborted) s

/-- The lanes `ls`, in ascending number, have become inactive (R39). -/
def State.deactivate (s : State) (ls : List LaneIx) : State :=
  ((s.abortFrames ls).discardCandidates ls).withdraw (fun h => ls.contains h.lane)

/-- The lanes active in `before` and not active in `s`. -/
def State.deactivatedSince (s before : State) : List LaneIx :=
  allLanes.filter (fun l => before.laneActive l && !s.laneActive l)

/-- Activation is recomposed after an input of it has changed (R37): lanes that became inactive lose their frames,
candidates and waiting hits. -/
def State.recompose (s before : State) : State :=
  let ls := s.deactivatedSince before
  if ls.isEmpty then s else s.deactivate ls

/-! ### The commands of the clock -/

/-- The oldest hit of a list has waited longer than Δmax (R66); one that a commit's shorter row spacing makes overdue
waits for the next tick. -/
def State.leadingExpired (s : State) (r : StripRow) (q : PosIx) : Option HitRec :=
  match s.waiting r q with
  | h :: _ =>
    if s.spanPassed h.start (fun p => maxWaitOf p.lanes[posLane q].rowSpacing + 1) then some h else none
  | [] => none

/-- LEADING_HIT_EXPIRY (R66): the hit leaves its list and its side becomes a one-row wheel. No notice is sent. -/
def State.expireLeading (s : State) (r : StripRow) (q : PosIx) (h : HitRec) : State :=
  let s1 := s.setWaiting r q ((s.waiting r q).filter (fun x => decide (x ≠ h)))
  s1.setFormer { s1.former with
    candidates := s1.former.candidates.map (fun cs => cs.map (fun c =>
      { c with sides := c.sides.map (fun x => if Side.awaits h x then .formed h.leadingWheel else x) })) }

/-- LEADING_HIT_EXPIRY (R66). -/
def execLeadingHitExpiry (r : StripRow) (q : PosIx) (s : State) : Host.Outcome State Fault Refusal :=
  whileRunning s (match s.leadingExpired r q with
    | some h => s.expireLeading r q h
    | none => s)

/-- The candidate of a lane whose deadline has been reached (R69). Of several at one tick it is the one with the earliest
first start (R70), and of equal ones the one opened earlier (model's choice, log 34). -/
def State.overdueCandidate (s : State) (l : LaneIx) : Option Candidate :=
  firstCandidate (s.former.candidates[l].filter (s.candidateOverdue l))

/-- CANDIDATE_DEADLINE (R69). -/
def execCandidateDeadline (l : LaneIx) (s : State) : Host.Outcome State Fault Refusal :=
  whileRunning s (match s.overdueCandidate l with
    | some c => s.completeIds [c.id]
    | none => s)

end Sys2Proof.Machine
end

