-- ==== Sys2Proof/Machine/Strip.lean ====
section
/-! DEFINITION. The strip front end (chapter 1): samples, settling, baseline, hit detection, disposal, the clip bucket,
and entry to SETTLING. -/

namespace Sys2Proof.Machine

open Sys2Proof

/-! ### The detector (R4 to R8) -/

/-- What a sample brings about beyond the channel's own fields. -/
inductive SampleEvent where
  | none
  | settled
  | hit (start stop : Tick) (area : Nat) (peak : Int) (clips : Nat)
  | long
  | recovered
deriving DecidableEq, Repr

/-- The deviation of a sample (R4). -/
def deviation (baseline x : Int) : Int :=
  clampInt (-32768) 32767 (x - baseline)

/-- A sample equal to either extreme is clipped (R2). -/
def isClipped (x : Int) : Bool :=
  decide (x = -32768) || decide (x = 32767)

/-- The baseline after a quiet sample (R4); the difference is exact. -/
def trackBaseline (baseline x : Int) : Int :=
  baseline + roundHalfAway (x - baseline) 256

/-- A sample is taken into a hit (R6). -/
def HitAcc.take (h : HitAcc) (d : Int) (clipped : Bool) : HitAcc :=
  { h with area := h.area + d.toNat, peak := max h.peak d, clips := h.clips + (if clipped then 1 else 0),
           samples := h.samples + 1 }

/-- The hit that an arming's two samples begin (R5, R6). -/
def beginHit (tick : Tick) (d0 : Int) (c0 : Bool) (d : Int) (clipped : Bool) : HitAcc :=
  (HitAcc.take { start := tick, area := 0, peak := d0, clips := 0, samples := 0 } d0 c0).take d clipped

/-- A sample held apart by an ENDING run (R6). -/
def EndRun.hold (e : EndRun) (d : Int) (clipped : Bool) : EndRun :=
  { e with run := e.run + 1, sum := e.sum + d.toNat, clips := e.clips + (if clipped then 1 else 0) }

/-- The held samples join the hit (R6). -/
def HitAcc.join (h : HitAcc) (e : EndRun) : HitAcc :=
  { h with area := h.area + e.sum, clips := h.clips + e.clips, samples := h.samples + e.run }

/-- The number of the sample, counted from the start sample, at which an open hit is cut off (R8). -/
def longLimit : Nat := 2048

/-- After a sample that leaves a hit open: cut off as LONG when `examined` samples have been examined (R8). -/
def cutIfLong (examined : Nat) (det : Detector) : Detector × SampleEvent :=
  if longLimit ≤ examined then (.recovering 0, .long) else (det, .none)

/-- One sample through the detector (R4 to R8): the detector after it, the baseline after it, and what it brings
about. -/
def detectorStep (trigger : Nat) (now : Tick) (baseline x : Int) (det : Detector) : Detector × Int × SampleEvent :=
  let d := deviation baseline x
  let clipped := isClipped x
  let high := decide ((trigger : Int) ≤ d)
  let low := decide (d < ((trigger / 2 : Nat) : Int))
  match det with
  | .quiet =>
    if high then (.arming now d clipped, baseline, .none) else (.quiet, trackBaseline baseline x, .none)
  | .arming t d0 c0 =>
    if high then (.inHit (beginHit t d0 c0 d clipped), baseline, .none)
    else (.quiet, trackBaseline baseline x, .none)
  | .inHit h =>
    if low then
      let r := cutIfLong (h.samples + 1)
        (.ending h { first := now, run := 1, sum := d.toNat, clips := if clipped then 1 else 0 })
      (r.1, baseline, r.2)
    else
      let h' := h.take d clipped
      let r := cutIfLong h'.samples (.inHit h')
      (r.1, baseline, r.2)
  | .ending h e =>
    if low then
      if e.run + 1 ≥ 4 then (.quiet, baseline, .hit h.start e.first h.area h.peak h.clips)
      else
        let r := cutIfLong (h.samples + e.run + 1) (.ending h (e.hold d clipped))
        (r.1, baseline, r.2)
    else
      let h' := (h.join e).take d clipped
      let r := cutIfLong h'.samples (.inHit h')
      (r.1, baseline, r.2)
  | .recovering n =>
    if low then
      if n + 1 ≥ 4 then (.quiet, baseline, .recovered) else (.recovering (n + 1), baseline, .none)
    else (.recovering 0, baseline, .none)

/-- The number of samples that settle a channel (R3). -/
def settleLimit : Nat := 256

/-- One settling sample (R3). -/
def Channel.settle (ch : Channel) (x : Int) : Channel × SampleEvent :=
  let sum := ch.settleSum + x
  let n := ch.settleCount + 1
  if settleLimit ≤ n then
    ({ ch with state := .normal, settleSum := 0, settleCount := 0, baseline := some (roundHalfAway sum 256),
               detector := .quiet }, .settled)
  else ({ ch with settleSum := sum, settleCount := n }, .none)

/-- One sample through a channel: an OFF channel takes none (R2), a SETTLING one sums it (R3), the others detect (R4).
-/
def Channel.sample (trigger : Nat) (now : Tick) (ch : Channel) (x : Int) : Channel × SampleEvent :=
  match ch.state with
  | .off => (ch, .none)
  | .settling => ch.settle x
  | .normal | .degraded | .dead =>
    let r := detectorStep trigger now (ch.baseline.getD 0) x ch.detector
    ({ ch with detector := r.1, baseline := some r.2.1 }, r.2.2)

/-! ### Disposal (R10 to R12) -/

/-- The channel's lane is active. -/
def State.channelLaneActive (s : State) (c : ChanIx) : Bool :=
  match (s.stripEntry c).lane with
  | none => false
  | some l => s.laneActive l

/-- A LONG hit: counted as a discard in an active lane, and nothing else (R10, cases 1 and 2). -/
def State.disposeLong (s : State) (c : ChanIx) : State :=
  if s.channelLaneActive c then s.countDiscard c else s

/-- The bucket after a hit's addition (R12). -/
def bucketAfter (level clips : Nat) : Nat :=
  min (level + min clips 64) 1023

/-- The bucket addition, the degrade test and the cleared miss count of a delivered hit (R10 case 4, R12). -/
def State.pourBucket (s : State) (c : ChanIx) (clips : Nat) : State :=
  let ch := s.strip.channels[c]
  let n := bucketAfter ch.bucket clips
  if decide (ch.state = .normal) && decide ((s.stripEntry c).clipLimit < n) then
    (s.setChannel c { ch with bucket := n, miss := 0, state := .degraded }).raiseAt .channelState c.val
  else s.setChannel c { ch with bucket := n, miss := 0 }

/-- The record of a delivered hit (R9), built from the channel's entry and health as they stand at delivery. -/
def State.hitRecord (s : State) (c : ChanIx) (l : LaneIx) (start stop : Tick) (area : Nat) (peak : Int) (clips : Nat) :
    HitRec :=
  { channel := c, lane := l, row := (s.stripEntry c).row, side := (s.stripEntry c).side, start := start, stop := stop,
    area := area, peak := peak, samples := elapsed start stop, clips := clips,
    clip := decide (s.strip.channels[c].state = .degraded) }

/-- Disposal of a hit that ended (R10). -/
def State.disposeHit (s : State) (c : ChanIx) (start stop : Tick) (area : Nat) (peak : Int) (clips : Nat) : State :=
  match (s.stripEntry c).lane with
  | none => s
  | some l =>
    if !s.laneActive l then s
    else match s.strip.channels[c].state with
      | .dead => s.countDiscard c
      | .normal | .degraded =>
        let s1 := s.pourBucket c clips
        s1.hitArrival (s1.hitRecord c l start stop area peak clips)
      | .off | .settling => s

/-! ### Samples -/

/-- What the sample `x` of channel `c` brings about. -/
def State.sampleEvent (s : State) (c : ChanIx) (x : BitVec 16) : SampleEvent :=
  (Channel.sample (s.stripEntry c).trigger s.now s.strip.channels[c] x.toInt).2

/-- The channel after the sample `x`. -/
def State.sampled (s : State) (c : ChanIx) (x : BitVec 16) : State :=
  s.setChannel c (Channel.sample (s.stripEntry c).trigger s.now s.strip.channels[c] x.toInt).1

/-- One sample of one channel, with the disposal of a hit it ends or cuts off and the event of a channel it settles. -/
def State.takeSample (s : State) (c : ChanIx) (x : BitVec 16) : State :=
  let s1 := s.sampled c x
  match s.sampleEvent c x with
  | .none => s1
  | .recovered => s1
  | .settled => s1.raiseAt .channelState c.val
  | .long => s1.disposeLong c
  | .hit start stop area peak clips => s1.disposeHit c start stop area peak clips

/-- The sample ends a hit. -/
def SampleEvent.endsHit : SampleEvent → Bool
  | .hit _ _ _ _ _ => true
  | _ => false

/-- STRIP_SAMPLE (R2, R4 to R8): the channel's sample of the tick, whatever it brings about. -/
def execStripSample (c : ChanIx) (x : BitVec 16) (s : State) : Host.Outcome State Fault Refusal :=
  whileRunning s (s.takeSample c x)

/-- SETTLING_COMPLETE (R3): the settling sample that is the 256th. -/
def execSettlingComplete (c : ChanIx) (x : BitVec 16) (s : State) : Host.Outcome State Fault Refusal :=
  whenDue s (decide (s.sampleEvent c x = .settled)) (s.takeSample c x)

/-- HIT_END (R7): the sample that brings an ENDING run to length 4. -/
def execHitEnd (c : ChanIx) (x : BitVec 16) (s : State) : Host.Outcome State Fault Refusal :=
  whenDue s (s.sampleEvent c x).endsHit (s.takeSample c x)

/-- HIT_LONG (R8): the 2,048th sample of a hit that it leaves open. -/
def execHitLong (c : ChanIx) (x : BitVec 16) (s : State) : Host.Outcome State Fault Refusal :=
  whenDue s (decide (s.sampleEvent c x = .long)) (s.takeSample c x)

/-- RECOVERY_END (R8): the sample that brings a recovery run to 4. -/
def execRecoveryEnd (c : ChanIx) (x : BitVec 16) (s : State) : Host.Outcome State Fault Refusal :=
  whenDue s (decide (s.sampleEvent c x = .recovered)) (s.takeSample c x)

/-! ### The leak (R13) -/

/-- A channel's leak: a level above 0 falls by 1, and a DEGRADED channel at or below half its limit recovers. -/
def Channel.leak (clipLimit : Nat) (ch : Channel) : Channel :=
  match ch.state with
  | .off => ch
  | .degraded =>
    if ch.bucket - 1 ≤ clipLimit / 2 then { ch with bucket := ch.bucket - 1, state := .normal }
    else { ch with bucket := ch.bucket - 1 }
  | .settling | .normal | .dead => { ch with bucket := ch.bucket - 1 }

/-- The leak of one channel, with CHANNEL_STATE where its state changes. -/
def State.leakChannel (s : State) (c : ChanIx) : State :=
  let ch := s.strip.channels[c]
  let ch' := ch.leak (s.stripEntry c).clipLimit
  let s1 := s.setChannel c ch'
  if ch'.state ≠ ch.state then s1.raiseAt .channelState c.val else s1

/-- The 400-tick leak interval has run out (R13). -/
def State.leakDue (s : State) : Bool :=
  hasPassed s.strip.leakStart 400 s.now

/-- BUCKET_LEAK (R13): every channel leaks, and the next interval begins. -/
def execBucketLeak (s : State) : Host.Outcome State Fault Refusal :=
  whenDue s s.leakDue
    (allChannels.foldl State.leakChannel (s.setStrip { s.strip with leakStart := s.strip.leakStart + 400 }))

/-! ### Entry to SETTLING and OFF (R3, R20 to R22) -/

/-- A channel entering SETTLING (R3); the discard count is kept (R20). -/
def Channel.enterSettling (ch : Channel) : Channel :=
  { state := .settling, settleSum := 0, settleCount := 0, baseline := none, detector := .quiet, bucket := 0, miss := 0,
    discard := ch.discard }

/-- A channel at the completion of a commit that changes STRIPMAP (R21). -/
def remappedChannel (e : StripEntry) : Channel :=
  if e.lane.isSome then { startChannel with state := .settling } else startChannel

/-- One channel's restart at a STRIPMAP commit: CHANNEL_STATE where the state differs or the channel settles again
(R18, R21). -/
def State.remapChannel (s : State) (c : ChanIx) : State :=
  let old := s.strip.channels[c]
  let new := remappedChannel (s.stripEntry c)
  let s1 := s.setChannel c new
  if decide (new.state ≠ old.state) || decide (new.state = .settling) then s1.raiseAt .channelState c.val else s1

/-- A commit completes with a different STRIPMAP: every channel restarts, the pending lists and candidates are emptied
without count (R21, R72). The active set is already the new one. -/
def State.remapChannels (s : State) : State :=
  let s1 := allChannels.foldl State.remapChannel s
  s1.setFormer { s1.former with
    waitA := Vector.replicate 12 [], waitB := Vector.replicate 12 [], candidates := Vector.replicate 6 [] }

/-- At the end of the image check each channel mapped in the active set enters SETTLING, without an event (R22). -/
def State.startChannels (s : State) : State :=
  s.setStrip { s.strip with channels := Vector.ofFn (fun c => remappedChannel (s.stripEntry c)) }

end Sys2Proof.Machine
end

