-- ==== Sys2Proof/Machine/Loops.lean ====
section
/-! DEFINITION. The loop monitor (chapter 2): filtering, stuck loops, the presence machine, loop speed, occupancy
length and congestion. -/

namespace Sys2Proof.Machine

open Sys2Proof

/-- One loop of a lane. -/
def LaneMonitor.loop (m : LaneMonitor) : LoopPos → Loop
  | .up => m.up
  | .down => m.down

/-- Replaces one loop of a lane. -/
def LaneMonitor.setLoop (m : LaneMonitor) (d : LoopPos) (x : Loop) : LaneMonitor :=
  match d with
  | .up => { m with up := x }
  | .down => { m with down := x }

/-- A STUCK loop counts as OCCUPIED (R23). -/
def Filtered.high : Filtered → Bool
  | .free => false
  | .occupied | .stuck => true

/-! ### The presence machine (R27 to R36) -/

/-- The machine enters a state at tick `now` by a change with change time `ct`: the stall timer runs in SPANNING
(R34), the clear timer in IDLE of a CONGESTED lane (R35), and the presence condition in IDLE of any other (R36). -/
def LaneMonitor.enter (m : LaneMonitor) (p : Presence) (ct now : Tick) : LaneMonitor :=
  { m with
    presence := p,
    stallStart := if p = .spanning then some now else none,
    clearStart := if p = .idle ∧ m.congested then some now else none,
    idleSince := if p = .idle ∧ !m.congested then some ct else none }

/-- The loop speed of an attempt with difference `dt` (R30). -/
def loopSpeed (spacing dt : Nat) : Option Nat :=
  if dt = 0 then none
  else
    let v := roundHalfUp (spacing * 8000) dt
    if 1500 ≤ v ∧ v ≤ 60000 then some v else none

/-- A loop speed attempt on the move from ENTERING to SPANNING (R30): made only with a U onset and the paired mark
clear. -/
def LaneMonitor.attempt (m : LaneMonitor) (spacing : Nat) (now : Tick) : LaneMonitor :=
  match m.uOnset, m.dOnset, m.paired with
  | some u, some d, false =>
    { m with paired := true, speed := (loopSpeed spacing (elapsed u d)).map (fun v => (v, now)) }
  | _, _, _ => m

/-- The length of an occupancy (R32). -/
def occupancyLength (occupancy speed loopLength : Nat) : Nat :=
  (clampInt 0 4000 ((roundHalfUp (occupancy * speed) 80000 : Nat) - (loopLength : Int))).toNat

/-- The mean speed a report uses: the open frame's, or with no frame open the last-closed one (R32, R114). -/
def State.reportSpeed (s : State) (l : LaneIx) : Option Nat :=
  match s.asm.frames[l] with
  | some f => meanSpeed f.axles
  | none => s.asm.lastMean[l]

/-- A frame takes an occupancy report (R32, R33, R114). -/
def Frame.report (f : Frame) (length : Option Nat) (shared : Bool) : Frame :=
  if f.shared then f
  else if shared then { f with shared := true, length := none }
  else { f with length := length }

/-- An occupancy report of lane `l` at a U FREE with change time `ct` (R32, R33). Without an occupancy start there is
none. -/
def State.occupancyReport (s : State) (l : LaneIx) (ct : Tick) : State :=
  let m := s.loops[l]
  match m.uStart with
  | none => s
  | some t =>
    let shared := decide (1 < m.frameCount)
    let length :=
      if shared then none
      else (s.reportSpeed l).map (fun v => occupancyLength (elapsed t ct) v (s.laneEntry l).loopLength)
    (s.setLaneMon l { m with lastLength := length }).setFrame l ((s.asm.frames[l]).map (fun f => f.report length shared))

/-- U OCCUPIED is given to a lane's machine (R27, R28, R33). -/
def State.upOccupied (s : State) (l : LaneIx) (ct : Tick) : State :=
  let m := s.loops[l]
  let m1 := { m with
    uView := true, uOnset := some ct, uStart := some ct, paired := false,
    frameCount := if (s.asm.frames[l]).isSome then 1 else 0 }
  match m.presence with
  | .idle => s.setLaneMon l (m1.enter .entering ct s.now)
  | .leaving => s.setLaneMon l (m1.enter .spanning ct s.now)
  | .reverse => s.setLaneMon l m1
  | .entering | .spanning => s

/-- U FREE is given to a lane's machine (R28). `report` is false at a stuck expiry (R25). -/
def State.upFree (s : State) (l : LaneIx) (ct : Tick) (report : Bool) : State :=
  let m := s.loops[l]
  let s1 := if report then s.occupancyReport l ct else s
  let m1 := { s1.loops[l] with uView := false }
  match m.presence with
  | .entering => s1.setLaneMon l (m1.enter .idle ct s.now)
  | .spanning => s1.setLaneMon l (m1.enter .leaving ct s.now)
  | .reverse =>
    s.setLaneMon l (if m.dView then { m with uView := false } else LaneMonitor.enter { m with uView := false } .idle ct s.now)
  | .idle | .leaving => s

/-- D OCCUPIED is given to a lane's machine (R27 to R30). In IDLE it makes the machine REVERSE, raises WRONG_WAY and
makes the loop speed absent (R29). -/
def State.downOccupied (s : State) (l : LaneIx) (ct : Tick) : State :=
  let m := s.loops[l]
  let m1 := { m with dView := true, dOnset := some ct }
  match m.presence with
  | .idle => (s.setLaneMon l (LaneMonitor.enter { m1 with speed := none } .reverse ct s.now)).raiseAt .wrongWay l.val
  | .entering => s.setLaneMon l ((m1.attempt (s.laneEntry l).loopSpacing s.now).enter .spanning ct s.now)
  | .reverse => s.setLaneMon l m1
  | .spanning | .leaving => s

/-- D FREE is given to a lane's machine (R28). -/
def State.downFree (s : State) (l : LaneIx) (ct : Tick) : State :=
  let m := s.loops[l]
  let m1 := { m with dView := false }
  match m.presence with
  | .spanning => s.setLaneMon l (m1.enter .entering ct s.now)
  | .leaving => s.setLaneMon l (m1.enter .idle ct s.now)
  | .reverse => s.setLaneMon l (if m.uView then m1 else m1.enter .idle ct s.now)
  | .idle | .entering => s

/-- An accepted change is given to the lane's presence machine. -/
def State.presenceTakes (s : State) (l : LaneIx) (d : LoopPos) (occupied : Bool) (ct : Tick) (report : Bool) : State :=
  match d, occupied with
  | .up, true => s.upOccupied l ct
  | .up, false => s.upFree l ct report
  | .down, true => s.downOccupied l ct
  | .down, false => s.downFree l ct

/-! ### Filtering (R23 to R26) -/

/-- A loop's pin takes a level. While the part runs, a level that differs from the filtered state begins a pending
change or lets it run on, and the filtered level cancels it (R23). -/
def Loop.read (x : Loop) (high : Bool) (now : Tick) : Loop :=
  if high = x.filtered.high then { x with high := high, change := none }
  else { x with high := high, change := some (x.change.getD now) }

/-- LOOP_LINE_CHANGE (R23). The pin follows the line even while the part is held in reset. R23 has one reading a tick and
does not say at which instant of it; each change of the line is taken as a reading, so that a pulse within one tick cancels
a pending change and begins a new one at that tick (model's choice, log 33). -/
def execLoopLineChange (l : LaneIx) (d : LoopPos) (high : Bool) (s : State) : Host.Outcome State Fault Refusal :=
  let m := s.loops[l]
  if s.heldLow then .next (s.setLaneMon l (m.setLoop d { m.loop d with high := high }))
  else .next (s.setLaneMon l (m.setLoop d ((m.loop d).read high s.now)))

/-- The change time of a pending change whose run has reached the lane's reject time (R23, R24): the run at tick t has
t − change time + 1 readings. One that a commit's shorter reject time makes long enough waits for the next reading. -/
def State.acceptedChange (s : State) (l : LaneIx) (d : LoopPos) : Option Tick :=
  match (s.loops[l].loop d).change with
  | some ct => if s.spanPassed ct (fun p => msTicks p.lanes[l].rejectMs - 1) then some ct else none
  | none => none

/-- A pending change of a loop is accepted (R23, R25, R26): the FREE that ends STUCK is not passed on. -/
def State.acceptChange (s : State) (l : LaneIx) (d : LoopPos) (ct : Tick) : State :=
  let m := s.loops[l]
  let x := m.loop d
  match x.filtered with
  | .free =>
    (s.setLaneMon l (m.setLoop d { x with filtered := .occupied, change := none, stuckStart := some ct })).presenceTakes
      l d true ct true
  | .occupied =>
    (s.setLaneMon l (m.setLoop d { x with filtered := .free, change := none, stuckStart := none })).presenceTakes
      l d false ct true
  | .stuck => s.setLaneMon l (m.setLoop d { x with filtered := .free, change := none, stuckStart := none })

/-- LOOP_CHANGE_ACCEPT (R23). -/
def execLoopChangeAccept (l : LaneIx) (d : LoopPos) (s : State) : Host.Outcome State Fault Refusal :=
  whileRunning s (match s.acceptedChange l d with
    | some ct => s.acceptChange l d ct
    | none => s)

/-- 300 s have passed since the loop's accepted OCCUPIED (R25). -/
def State.stuckDue (s : State) (l : LaneIx) (d : LoopPos) : Bool :=
  match (s.loops[l].loop d).stuckStart with
  | some t => hasPassed t 2400000 s.now
  | none => false

/-- STUCK_EXPIRY (R25): the loop enters STUCK, LOOP_STUCK is raised, and the machine takes a FREE change with the
expiry tick as its change time, without an occupancy report. -/
def execStuckExpiry (l : LaneIx) (d : LoopPos) (s : State) : Host.Outcome State Fault Refusal :=
  let m := s.loops[l]
  let s1 := s.setLaneMon l (m.setLoop d { m.loop d with filtered := .stuck, stuckStart := none })
  whenDue s (s.stuckDue l d)
    ((s1.raise .loopStuck (loopBit l d)).presenceTakes l d false s.now false)

/-! ### Timers of a lane -/

/-- 80,000 ticks have passed since the attempt that set the loop speed (R31). -/
def State.loopSpeedDue (s : State) (l : LaneIx) : Bool :=
  match s.loops[l].speed with
  | some (_, t) => hasPassed t 80000 s.now
  | none => false

/-- LOOP_SPEED_EXPIRY (R31). -/
def execLoopSpeedExpiry (l : LaneIx) (s : State) : Host.Outcome State Fault Refusal :=
  whenDue s (s.loopSpeedDue l) (s.setLaneMon l { s.loops[l] with speed := none })

/-- The stall time has passed since the entry to SPANNING (R34). A lane already CONGESTED runs its timer to no
effect. -/
def State.stallDue (s : State) (l : LaneIx) : Bool :=
  match s.loops[l].stallStart with
  | some t => s.spanPassed t (fun p => secTicks p.lanes[l].stallS)
  | none => false

/-- The lane becomes CONGESTED, and its open frame takes the flag (R34, R36). -/
def State.congest (s : State) (l : LaneIx) : State :=
  let m := s.loops[l]
  if m.congested then s.setLaneMon l { m with stallStart := none }
  else
    let s1 := s.setLaneMon l { m with stallStart := none, congested := true, idleSince := none }
    (s1.setFrame l ((s.asm.frames[l]).map (fun f => { f with flags := f.flags ||| Flag.congested.one }))).raiseAt
      .laneCongested l.val

/-- STALL_EXPIRY (R34). -/
def execStallExpiry (l : LaneIx) (s : State) : Host.Outcome State Fault Refusal :=
  whenDue s (s.stallDue l) (s.congest l)

/-- 2 s have passed since the CONGESTED lane's machine entered IDLE (R35). -/
def State.clearDue (s : State) (l : LaneIx) : Bool :=
  match s.loops[l].clearStart with
  | some t => hasPassed t 16000 s.now
  | none => false

/-- CLEAR_EXPIRY (R35): the lane ceases to be CONGESTED, and the presence condition holds from this tick (R36). -/
def execClearExpiry (l : LaneIx) (s : State) : Host.Outcome State Fault Refusal :=
  whenDue s (s.clearDue l)
    ((s.setLaneMon l { s.loops[l] with congested := false, clearStart := none, idleSince := some s.now }).raiseAt
      .laneClear l.val)

/-! ### The end of the image check (R40) -/

/-- A loop takes its line's level at once; an occupied loop starts its stuck timer. -/
def Loop.readAtStart (x : Loop) (now : Tick) : Loop :=
  { high := x.high, filtered := if x.high then .occupied else .free, change := none,
    stuckStart := if x.high then some now else none }

/-- The state of a machine's view (R40): never REVERSE. -/
def presenceOfView (u d : Bool) : Presence :=
  match u, d with
  | false, false => .idle
  | true, false => .entering
  | true, true => .spanning
  | false, true => .leaving

/-- A lane at the end of the image check: every line read once, the machine in the state of its view (R40; log 6). -/
def LaneMonitor.readAtStart (m : LaneMonitor) (now : Tick) : LaneMonitor :=
  { (startLaneMonitor m.up.high m.down.high) with
    up := m.up.readAtStart now, down := m.down.readAtStart now,
    presence := presenceOfView m.up.high m.down.high, uView := m.up.high, dView := m.down.high,
    stallStart := if m.up.high && m.down.high then some now else none,
    idleSince := if !m.up.high && !m.down.high then some now else none }

/-- A lane at its start values, its pins as they stand (R40). -/
def LaneMonitor.atStart (m : LaneMonitor) : LaneMonitor :=
  startLaneMonitor m.up.high m.down.high

end Sys2Proof.Machine
end

