-- ==== Sys2Proof/Machine/Receiver.lean ====
section
/-! DEFINITION. The receiver of a port (chapter 9): what a byte, a lost byte and a gap make of it. -/

namespace Sys2Proof.Machine

open Sys2Proof

/-! ### The receiver (R175, R176) -/

/-- The sync byte (R174). -/
def syncByte : Byte := 0x5A

/-- What a received byte makes of the receiver: its next state, and the frame or the error it brings about. -/
inductive RxOutcome where
  | none
  | error (e : LinkError)
  | frame (kind tag : Byte) (payload : List Byte)
deriving DecidableEq, Repr

/-- The check a frame should carry (R174). -/
def frameCheck (len : Nat) (kind tag : Byte) (payload : List Byte) : List Byte :=
  leBytes 2 (crc16 (leBytes 2 len ++ [kind, tag] ++ payload)).toNat

/-- A received byte is taken by the state the receiver is in (R175). -/
def RxState.take (x : RxState) (b : Byte) : RxState × RxOutcome :=
  match x with
  | .hunt => if b = syncByte then (.length none, .none) else (.hunt, .none)
  | .length none => (.length (some b), .none)
  | .length (some lo) =>
    let len := lo.toNat + 256 * b.toNat
    if len ≤ 1024 then (.header len none, .none) else (.hunt, .error .length)
  | .header len none => (.header len (some b), .none)
  | .header len (some kind) =>
    if 0 < len then (.payload len kind b [], .none) else (.check len kind b [] none, .none)
  | .payload len kind tag got =>
    let all := got ++ [b]
    if len ≤ all.length then (.check len kind tag all none, .none) else (.payload len kind tag all, .none)
  | .check len kind tag got none => (.check len kind tag got (some b), .none)
  | .check len kind tag got (some lo) =>
    if frameCheck len kind tag got = [lo, b] then (.hunt, .frame kind tag got) else (.hunt, .error .check)

/-- A frame is in progress: the receiver is not in HUNT. -/
def RxState.inFrame : RxState → Bool
  | .hunt => false
  | .length _ | .header _ _ | .payload _ _ _ _ | .check _ _ _ _ _ => true

/-- The port after a byte: the receiver's next state, the gap timer restarted (R175). -/
def PortState.received (x : PortState) (b : Byte) (now : Tick) : PortState :=
  { x with rx := (x.rx.take b).1, gapStart := now }

/-- The port after any frame in progress has been abandoned: the receiver is in HUNT. -/
def PortState.abandoned (x : PortState) : PortState :=
  { x with rx := .hunt }

/-- 10 ms have passed since the last byte of a frame in progress (R175). -/
def PortState.gapDue (x : PortState) (now : Tick) : Bool :=
  x.rx.inFrame && hasPassed x.gapStart (msTicks 10) now

end Sys2Proof.Machine
end

