-- ==== Sys2Proof/Machine/Replies.lean ====
section
/-! DEFINITION. The catalogue of requests, the tests every request passes (R177), the replies (R178), and link errors
(R176). -/

namespace Sys2Proof.Machine

open Sys2Proof

/-- The eighteen requests of the catalogue (chapter 9, THE REQUESTS). -/
inductive ReqKind where
  | ident
  | status
  | timeSet
  | siteRun
  | laneSet
  | editBegin
  | editPut
  | editDiscard
  | commit
  | readSection
  | take
  | peek
  | stream
  | probeNow
  | channelRearm
  | lock
  | eventEnable
  | restart
deriving DecidableEq, Repr

/-- The requests in the order of their KIND codes, 0x01 to 0x12. -/
def catalogue : List ReqKind :=
  [.ident, .status, .timeSet, .siteRun, .laneSet, .editBegin, .editPut, .editDiscard, .commit, .readSection, .take,
    .peek, .stream, .probeNow, .channelRearm, .lock, .eventEnable, .restart]

/-- The KIND code of a request. -/
def ReqKind.code (k : ReqKind) : Byte :=
  BitVec.ofNat 8 (catalogue.idxOf k + 1)

/-- The request a KIND code names, if it is in the catalogue. -/
def requestOfKind (kind : Byte) : Option ReqKind :=
  if kind.toNat = 0 then none else catalogue[kind.toNat - 1]?

/-- The payload length the catalogue gives a request; EDIT_PUT takes any length from 4 to 964 (R177, test 6). -/
def ReqKind.lengthFits (k : ReqKind) (n : Nat) : Bool :=
  match k with
  | .ident | .status | .editBegin | .editDiscard | .commit | .lock | .restart => decide (n = 0)
  | .timeSet => decide (n = 6)
  | .siteRun | .take | .stream | .probeNow | .channelRearm => decide (n = 1)
  | .laneSet | .peek | .eventEnable => decide (n = 2)
  | .readSection => decide (n = 4)
  | .editPut => decide (4 ≤ n) && decide (n ≤ 964)

/-- The status codes (chapter 9, Status and section codes). -/
inductive Status where
  | ok
  | busy
  | notReady
  | notOwner
  | locked
  | badLength
  | badValue
  | badSequence
  | inconsistent
  | noProfile
  | storeFault
  | unknownKind
  | wrongPort
deriving DecidableEq, Repr

/-- Status codes 0 to 12. -/
def Status.code : Status → Nat
  | .ok => 0
  | .busy => 1
  | .notReady => 2
  | .notOwner => 3
  | .locked => 4
  | .badLength => 5
  | .badValue => 6
  | .badSequence => 7
  | .inconsistent => 8
  | .noProfile => 9
  | .storeFault => 10
  | .unknownKind => 11
  | .wrongPort => 12

/-- What the block that owns a request gives: OK with a result, a refusal with section code and index, a reply that is
deferred, or the OK of a RESTART, which marks whether it is the one the restart waits for. -/
inductive Answer where
  | ok (result : List Byte)
  | refused (st : Status) (sect index : Nat)
  | deferred (k : DeferredKind)
  | restart (marked : Bool)
deriving DecidableEq, Repr

/-- The payload of a reply with OK: the status, then the result (R178). -/
def okPayload (result : List Byte) : List Byte :=
  leBytes 1 Status.ok.code ++ result

/-- The payload of a refusal: the status, a section code and an index (R178). -/
def refusalPayload (st : Status) (sect index : Nat) : List Byte :=
  leBytes 1 st.code ++ leBytes 1 sect ++ leBytes 1 index

/-- The KIND of a reply: the request's with 0x80 added (R174). -/
def replyKind (kind : Byte) : Byte :=
  kind + 0x80

/-- Places a reply at the tail of a port's reply list (R177). -/
def State.placeReply (s : State) (p : Port) (r : Reply) : State :=
  let x := s.port p
  s.setPort p { x with replies := x.replies ++ [r] }

/-- A reply without mark. -/
def plainReply (kind tag : Byte) (payload : List Byte) : Reply :=
  { kind := replyKind kind, tag := tag, payload := payload, endsRestart := false }

/-- Refuses a request. -/
def State.refuse (s : State) (p : Port) (kind tag : Byte) (st : Status) : State :=
  s.placeReply p (plainReply kind tag (refusalPayload st 0 0))

/-- One more link error of a kind, saturating at 65,535 (R176). -/
def LinkCounts.count (c : LinkCounts) : LinkError → LinkCounts
  | .gap => { c with gap := satSucc 65535 c.gap }
  | .framing => { c with framing := satSucc 65535 c.framing }
  | .overrun => { c with overrun := satSucc 65535 c.overrun }
  | .length => { c with length := satSucc 65535 c.length }
  | .check => { c with check := satSucc 65535 c.check }
  | .overflow => { c with overflow := satSucc 65535 c.overflow }

/-- A link error on a port: its count rises and LINK_ERROR is raised naming the port (R176). -/
def State.linkError (s : State) (p : Port) (e : LinkError) : State :=
  let x := s.port p
  (s.setPort p { x with links := x.links.count e }).raise .linkError (portBit p)

/-- The reply list already holds 4 replies (R177, test 1). -/
def State.replyListFull (s : State) (p : Port) : Bool :=
  decide (4 ≤ (s.port p).replies.length)

/-- The refusal of the port engine, if tests 3 to 6 of R177 give one. -/
def State.portRefusal (s : State) (p : Port) (k : ReqKind) (length : Nat) : Option Status :=
  if s.site.state = .init ∧ k ≠ .ident then some .notReady
  else if (s.port p).deferred.isSome ∧ k ≠ .ident ∧ k ≠ .status then some .busy
  else if p = .svc ∧ (k = .take ∨ k = .stream) then some .wrongPort
  else if !k.lengthFits length then some .badLength
  else none

/-! ### Requests of both ports at one moment (R48, chapter 8: THE EDIT CLAIM) -/

/-- A command that does not part two moments: the road, the probe bridge, the part's clock and the transmitters leave alone
what decides whether a waiting request of the cabinet link's is granted. What a serial line receives comes at a moment of its
own, and so do a start, the end of a write and the setting of a port (log 32). -/
def keepsMoment : Instr → Bool
  | .stripSample .. | .settlingComplete .. | .hitEnd .. | .hitLong .. | .recoveryEnd .. | .bucketLeak
  | .loopLineChange .. | .loopChangeAccept .. | .stuckExpiry .. | .loopSpeedExpiry .. | .stallExpiry .. | .clearExpiry ..
  | .passStart | .conversionComplete .. | .holdAgeStale .. | .leadingHitExpiry .. | .candidateDeadline ..
  | .presenceClose .. | .frameTimeout .. | .ownershipTimeout | .imageWriteStart | .replySend .. | .eventFrame ..
  | .vehicleFrame => true
  | .powerOn .. | .lineReset .. | .resetNHeldLow | .restartTakesPlace | .imageWriteComplete .. | .transmitComplete ..
  | .rxByte .. | .rxLineError .. | .rxGapTimeout .. | .unknownKindRequest .. | .ident .. | .status .. | .timeSet ..
  | .siteRun .. | .laneSet .. | .editBegin .. | .editPut .. | .editDiscard .. | .readSection .. | .commit .. | .take ..
  | .peek .. | .stream .. | .probeNow .. | .channelRearm .. | .lock .. | .eventEnable .. | .restart .. => false

/-- The payload of the request of kind `k` that a command brings to the cabinet link, whose receiver stands in `rx`: the
request's own command, or the byte that ends its frame (R175). -/
def broughtRequest (k : ReqKind) (rx : RxState) : Instr → Option (List Byte)
  | .probeNow .cab _ payload => if k = .probeNow then some payload else none
  | .editBegin .cab _ payload => if k = .editBegin then some payload else none
  | .rxByte .cab b =>
    match (rx.take b).2 with
    | .frame kind _ payload => if kind = k.code then some payload else none
    | _ => none
  | _ => none

/-- The payload of the request of kind `k` that the waiting commands bring to the cabinet link at this same moment: that of
the first command that may part two moments, if it is one (log 32). -/
def awaitedRequest (k : ReqKind) (rx : RxState) : List Instr → Option (List Byte)
  | [] => none
  | c :: rest => if keepsMoment c then awaitedRequest k rx rest else broughtRequest k rx c

/-- At this moment the cabinet link takes a request of kind `k` as well, of which the owner says that it `fits`: the
request waits behind the one being taken and passes the port's tests (R177). Of the two, the cabinet link's is then
granted, whichever stands first in the queue (log 32). -/
def State.cabinetContends (s : State) (k : ReqKind) (fits : List Byte → Bool) : Bool :=
  match awaitedRequest k s.ports.cab.rx s.pending with
  | some payload =>
    !s.replyListFull .cab && (s.portRefusal .cab k payload.length).isNone && fits payload
  | none => false

/-- The service port's request of kind `k` gives way to the cabinet link's of the same moment (R48, log 32). -/
def State.yields (s : State) (p : Port) (k : ReqKind) (fits : List Byte → Bool) : Bool :=
  match p with
  | .cab => false
  | .svc => s.cabinetContends k fits

/-- The port acts on its block's answer: a reply is placed, or the request is held as the deferred one (R177, R179). -/
def State.answer (s : State) (p : Port) (kind tag : Byte) (a : Answer) : State :=
  match a with
  | .ok result => s.placeReply p (plainReply kind tag (okPayload result))
  | .refused st sect index => s.placeReply p (plainReply kind tag (refusalPayload st sect index))
  | .deferred k => s.setPort p { s.port p with deferred := some { kind := k, tag := tag } }
  | .restart marked => s.placeReply p { plainReply kind tag (okPayload []) with endsRestart := marked }

/-- A request of the catalogue is taken (R177): the port's tests in turn, then the block that owns it. -/
def State.takeRequest (s : State) (k : ReqKind) (p : Port) (tag : Byte) (payload : List Byte)
    (owner : State → State × Answer) : State :=
  if s.replyListFull p then s.linkError p .overflow
  else match s.portRefusal p k payload.length with
    | some st => s.refuse p k.code tag st
    | none =>
      let r := owner s
      r.1.answer p k.code tag r.2

/-- The request a deferred one was taken as. -/
def DeferredKind.request : DeferredKind → ReqKind
  | .commit => .commit
  | .probeNow => .probeNow

/-- The reply of the port's deferred request of a kind joins the reply list, even a full one, and the request ends
(R179). A port whose hold a restart has dropped gets none (log 20). -/
def State.endDeferred (s : State) (p : Port) (k : DeferredKind) (payload : List Byte) : State :=
  let x := s.port p
  match x.deferred with
  | none => s
  | some d =>
    if d.kind = k then
      (s.setPort p { x with deferred := none }).placeReply p (plainReply k.request.code d.tag payload)
    else s

/-- UNKNOWN_KIND_REQUEST (R177, tests 1 and 2): a good frame whose KIND is outside the catalogue. -/
def State.unknownKind (s : State) (p : Port) (kind tag : Byte) : State :=
  if s.replyListFull p then s.linkError p .overflow else s.refuse p kind tag .unknownKind

/-- UNKNOWN_KIND_REQUEST (R177). A KIND of the catalogue is not this command's (log 15). -/
def execUnknownKindRequest (p : Port) (kind tag : Byte) (_payload : List Byte) (s : State) :
    Host.Outcome State Fault Refusal :=
  whenDue s (requestOfKind kind).isNone (s.unknownKind p kind tag)

/-- The first payload byte as a number. -/
def byte0 (payload : List Byte) : Nat :=
  fieldAt payload 0 1

/-- The second payload byte as a number. -/
def byte1 (payload : List Byte) : Nat :=
  fieldAt payload 1 1

/-! ### CHANNEL_REARM (R20) -/

/-- The front end's part of CHANNEL_REARM: a number outside 1 to 24 or an OFF channel is refused; otherwise the channel
enters SETTLING and CHANNEL_STATE is raised. -/
def rearmOwner (payload : List Byte) (s : State) : State × Answer :=
  let n := byte0 payload
  if h : 1 ≤ n ∧ n ≤ 24 then
    let c : ChanIx := ⟨n - 1, by omega⟩
    let ch := s.strip.channels[c]
    if ch.state = .off then (s, .refused .badValue 0 0)
    else ((s.setChannel c ch.enterSettling).raiseAt .channelState c.val, .ok [])
  else (s, .refused .badValue 0 0)

/-- CHANNEL_REARM (R20). -/
def execChannelRearm (p : Port) (tag : Byte) (payload : List Byte) (s : State) : Host.Outcome State Fault Refusal :=
  whileRunning s (s.takeRequest .channelRearm p tag payload (rearmOwner payload))

/-! ### EVENT_ENABLE (R182) -/

/-- The port engine's part of EVENT_ENABLE: a mask with a bit above bit 12 is refused; otherwise it replaces the
requesting port's mask. -/
def eventEnableOwner (p : Port) (payload : List Byte) (s : State) : State × Answer :=
  let n := fieldAt payload 0 2
  if n < 2 ^ 13 then (s.setPort p { s.port p with mask := BitVec.ofNat 13 n }, .ok (leBytes 2 n))
  else (s, .refused .badValue 0 0)

/-- EVENT_ENABLE (R182). -/
def execEventEnable (p : Port) (tag : Byte) (payload : List Byte) (s : State) : Host.Outcome State Fault Refusal :=
  whileRunning s (s.takeRequest .eventEnable p tag payload (eventEnableOwner p payload))

end Sys2Proof.Machine
end

