-- ==== Sys2Proof/Machine/Temperature.lean ====
section
/-! DEFINITION. The probe converter and the temperature unit (chapter 3). -/

namespace Sys2Proof.Machine

open Sys2Proof

/-! ### Lane temperature (R56, R57) -/

/-- The filtered value of a probe that is VALID. -/
def Probe.value (x : Probe) : Option Int :=
  if x.state = .valid then x.filtered else none

/-- The source a lane finds and its value (R56). An alternate equal to the primary acts as none. -/
def State.findSource (s : State) (l : LaneIx) : Option (TempSource × Int) :=
  let e := s.laneEntry l
  match s.temp.probes[e.primary].value with
  | some v => some (.primary, v)
  | none =>
    match e.alternate with
    | none => none
    | some q =>
      if q = e.primary then none
      else (s.temp.probes[q].value).map (fun v => (.alternate, v))

/-- A lane temperature re-evaluated with the source it finds (R56). -/
def LaneTemp.evaluate (t : LaneTemp) (found : Option (TempSource × Int)) : LaneTemp :=
  match found with
  | some (src, v) => { status := .live, temp := some v, source := src, holdAge := 0, holdTicks := 0 }
  | none =>
    match t.status with
    | .live => { t with status := .held, source := .none, holdAge := 0, holdTicks := 0 }
    | .none | .held | .stale => t

/-- A lane's temperature is replaced: LANE_TEMP is raised where its status changes (R59), and a change out of LIVE
clears the lane's reference window (R58, R143). -/
def State.setLaneTemp (s : State) (l : LaneIx) (t : LaneTemp) : State :=
  let old := s.temp.lanes[l]
  let s1 := s.setTemp { s.temp with lanes := s.temp.lanes.set l t }
  let s2 := if t.status ≠ old.status then s1.raiseAt .laneTemp l.val else s1
  if old.status = .live ∧ t.status ≠ .live then s2.setLaneCal l s2.cal[l].clear else s2

/-- One lane is re-evaluated (R56). -/
def State.evaluateLane (s : State) (l : LaneIx) : State :=
  s.setLaneTemp l (s.temp.lanes[l].evaluate (s.findSource l))

/-- Every lane is re-evaluated from the same probe states (R56). -/
def State.evaluateLanes (s : State) : State :=
  allLanes.foldl State.evaluateLane s

/-- The hold age at which a HELD lane becomes STALE (R57). -/
def staleAge : Nat := 1800

/-- A HELD lane's hold age has reached 1,800 s (R57). -/
def State.staleDue (s : State) (l : LaneIx) : Bool :=
  let t := s.temp.lanes[l]
  decide (t.status = .held) && decide (staleAge ≤ t.holdAge)

/-- HOLD_AGE_STALE (R57). -/
def execHoldAgeStale (l : LaneIx) (s : State) : Host.Outcome State Fault Refusal :=
  whenDue s (s.staleDue l) (s.setLaneTemp l { s.temp.lanes[l] with status := .stale })

/-- One tick of a lane's hold age (R57): a second each 8,000 ticks, at most 2^32 − 1. -/
def LaneTemp.tick (t : LaneTemp) : LaneTemp :=
  match t.status with
  | .held | .stale =>
    if 7999 ≤ t.holdTicks then { t with holdAge := satSucc 4294967295 t.holdAge, holdTicks := 0 }
    else { t with holdTicks := t.holdTicks + 1 }
  | .none | .live => t

/-! ### From raw code to temperature (R50) -/

/-- A raw code less the offset, limited to 0 to 4,095 (R50). -/
def correctedRaw (offset : Int) (raw : Nat) : Nat :=
  (clampInt 0 4095 ((raw : Int) - offset)).toNat

/-- The temperature t of a corrected raw code (R50). -/
def curveTemp (probes : ProbesSec) (p : ProbeIx) (corrected : Nat) : Int :=
  clampInt (-400) 850
    (interpolate (onBreakpoints 0 256 probes.curve.toList) corrected + probes.entries[p].trim)

/-- A code below 16 is a short, one above 4,079 an open circuit (R50). -/
def codeIsBad (n : Nat) : Bool :=
  decide (n < 16) || decide (4079 < n)

/-! ### Processing a result (R47, R52 to R54) -/

/-- A good result in VALID (R54): near, spike, or third spike. -/
def Probe.goodValid (x : Probe) (t : Int) : Probe × ProbeOutcome :=
  let f := x.filtered.getD t
  if (t - f).natAbs ≤ 100 then
    ({ x with filtered := some (f + roundHalfAway (t - f) 8), spike := 0 }, .filtered)
  else if x.spike ≤ 1 then ({ x with spike := x.spike + 1 }, .spike)
  else ({ x with filtered := some t, spike := 0 }, .seeded)

/-- A good result (R52, R53, R54). -/
def Probe.good (x : Probe) (t : Int) : Probe × ProbeOutcome :=
  match x.state with
  | .warmup =>
    if x.warm ≤ 2 then ({ x with badRun := 0, warm := x.warm + 1 }, .warmup)
    else ({ x with state := .valid, badRun := 0, warm := 0, spike := 0, filtered := some t }, .seeded)
  | .valid => Probe.goodValid { x with badRun := 0 } t
  | .fault => ({ x with state := .warmup, warm := 1 }, .warmup)
  | .absent => (x, .warmup)

/-- A bad result (R52). -/
def Probe.bad (x : Probe) : Probe × ProbeOutcome :=
  match x.state with
  | .warmup | .valid =>
    if x.badRun = 0 then ({ x with badRun := 1 }, .bad)
    else ({ x with state := .fault, badRun := 0, warm := 0, spike := 0, filtered := none }, .bad)
  | .fault | .absent => (x, .bad)

/-- A probe result processed (R47, R50 to R54): the probe after it, its last raw and outcome set. -/
def Probe.process (x : Probe) (zeroFault : Bool) (raw corrected : Nat) (t : Int) : Probe × ProbeOutcome :=
  let r :=
    if zeroFault then (x, .zeroFault)
    else if codeIsBad raw || codeIsBad corrected then x.bad
    else x.good t
  ({ r.1 with lastRaw := some raw, lastOutcome := some r.2 }, r.2)

/-- A probe's entry is replaced, with PROBE_STATE where its state changes (R59). -/
def State.setProbe (s : State) (p : ProbeIx) (x : Probe) : State :=
  let old := s.temp.probes[p]
  let s1 := s.setTemp { s.temp with probes := s.temp.probes.set p x }
  if x.state ≠ old.state then s1.raiseAt .probeState p.val else s1

/-! ### Selection (R42) -/

/-- A selection moment: an IDLE converter selects the slot's waiting probe, or the first input of the pass list. -/
def State.selectInput (s : State) : State :=
  match s.temp.conv with
  | some _ => s
  | none =>
    let fromList : State :=
      match s.temp.passList with
      | [] => s
      | i :: rest =>
        s.setTemp { s.temp with conv := some { input := i, origin := .scan, start := s.now }, passList := rest }
    match s.temp.slot with
    | some r =>
      if r.selected then fromList
      else s.setTemp { s.temp with
        conv := some { input := .probe r.probe, origin := .slot, start := s.now },
        slot := some { r with selected := true } }
    | none => fromList

/-! ### The scan pass (R44, R45) -/

/-- A pass is in progress while inputs wait in its list or one of them is being converted (R45). -/
def TempUnit.passInProgress (t : TempUnit) : Bool :=
  !t.passList.isEmpty || (match t.conv with
    | some c => decide (c.origin = .scan)
    | none => false)

/-- The list of a new pass: the zero reference, then each enabled probe in ascending number (R44). -/
def State.newPassList (s : State) : List ConvInput :=
  .zref :: (allProbes.filter (fun p => s.prof.active.probes.entries[p].enabled)).map ConvInput.probe

/-- A pass-start event (R44). -/
def State.startPass (s : State) : State :=
  if s.temp.passInProgress then
    s.setTemp { s.temp with late := satSucc 65535 s.temp.late, lastPass := some s.now }
  else (s.setTemp { s.temp with passList := s.newPassList, lastPass := some s.now }).selectInput

/-- The pass timer has expired: one scan period after the last pass-start event (R44). -/
def State.passDue (s : State) : Bool :=
  match s.temp.lastPass with
  | some t => hasPassed t (secTicks s.prof.active.site.scanPeriod) s.now
  | none => false

/-- PASS_START (R44). -/
def execPassStart (s : State) : Host.Outcome State Fault Refusal :=
  whenDue s s.passDue s.startPass

/-! ### Completion of a conversion (R42, R46 to R49, R55) -/

/-- A zero reference result (R46). -/
def TempUnit.takeZero (t : TempUnit) (z : Int) : TempUnit :=
  if z.natAbs ≤ 64 then { t with lastZero := some z, offset := z, zeroFault := false }
  else { t with lastZero := some z, zeroFault := true, zeroFaults := satSucc 65535 t.zeroFaults }

/-- The code of a probe state in PROBE_NOW and STATUS. -/
def ProbeState.code : ProbeState → Nat
  | .absent => 0
  | .warmup => 1
  | .valid => 2
  | .fault => 3

/-- The code of an outcome in PROBE_NOW and STATUS. -/
def ProbeOutcome.code : ProbeOutcome → Nat
  | .filtered => 0
  | .seeded => 1
  | .warmup => 2
  | .spike => 3
  | .bad => 4
  | .zeroFault => 5

/-- The result of a PROBE_NOW reply (R49; chapter 9, Reply results). -/
def probeNowResult (p : ProbeIx) (raw corrected : Nat) (t : Int) (out : ProbeOutcome) (x : Probe) : List Byte :=
  leBytes 1 p.val ++ leBytes 2 raw ++ leBytes 2 corrected ++ leSigned 2 t ++ leBytes 1 out.code ++ leBytes 1 x.state.code
    ++ leBytes 1 (bitIf x.value.isSome 0) ++ leSigned 2 (x.value.getD 0)

/-- A probe result that is not discarded is processed (R47, R50, R55): under ZERO_FAULT the lanes do not move, otherwise
every lane is re-evaluated (R56). -/
def State.takeProbeResult (s : State) (p : ProbeIx) (raw : Nat) : State :=
  let corrected := correctedRaw s.temp.offset raw
  let t := curveTemp s.prof.active.probes p corrected
  let r := s.temp.probes[p].process s.temp.zeroFault raw corrected t
  let s1 := s.setProbe p r.1
  if s.temp.zeroFault then s1 else s1.evaluateLanes

/-- The reply to the slot's request: OK with the result of R49, built after the result has been processed; the slot is
emptied. `before` is the state at the completion. -/
def State.replyFromSlot (s before : State) (r : SlotRequest) (raw : Nat) : State :=
  let corrected := correctedRaw before.temp.offset raw
  let t := curveTemp before.prof.active.probes r.probe corrected
  let x := s.temp.probes[r.probe]
  (s.setTemp { s.temp with slot := none }).endDeferred r.port .probeNow
    (okPayload (probeNowResult r.probe raw corrected t (x.lastOutcome.getD .zeroFault) x))

/-- The result of a conversion is delivered (R42, R49, R55). A result for a probe that a commit has disabled meanwhile,
enabled again or not, or for a slot request that has been dropped, is discarded. -/
def State.deliverResult (s : State) (c : Conversion) (code : BitVec 12) : State :=
  match c.input, c.origin with
  | .zref, _ => s.setTemp (s.temp.takeZero code.toInt)
  | .probe p, .scan =>
    if c.voided ∨ s.temp.probes[p].state = .absent then s else s.takeProbeResult p code.toNat
  | .probe p, .slot =>
    match s.temp.slot with
    | some r =>
      if r.selected ∧ s.temp.probes[p].state ≠ .absent then
        (s.takeProbeResult p code.toNat).replyFromSlot s r code.toNat
      else s
    | none => s

/-- The conversion in progress, once its 160 ticks have passed (R42). -/
def State.conversionDone (s : State) : Option Conversion :=
  match s.temp.conv with
  | some c => if hasPassed c.start 160 s.now then some c else none
  | none => none

/-- CONVERSION_COMPLETE (R42): the result is delivered, the converter returns to IDLE, and the next input is selected.
The zero reference is converted bipolar, so its code is read as signed. -/
def execConversionComplete (code : BitVec 12) (s : State) : Host.Outcome State Fault Refusal :=
  whileRunning s (match s.conversionDone with
    | some c =>
      let s1 := s.deliverResult c code
      (s1.setTemp { s1.temp with conv := none }).selectInput
    | none => s)

/-! ### PROBE_NOW (R48) -/

/-- The payload of a PROBE_NOW names an enabled probe (R48). -/
def State.namesEnabledProbe (s : State) (payload : List Byte) : Bool :=
  let n := byte0 payload
  if h : n < 8 then s.prof.active.probes.entries[(⟨n, h⟩ : ProbeIx)].enabled else false

/-- The probe converter's part of PROBE_NOW (R48). Where requests of both ports find the slot empty at one moment, the
cabinet link's is placed and the service port's is refused BUSY (log 32). -/
def probeNowOwner (p : Port) (payload : List Byte) (s : State) : State × Answer :=
  let n := byte0 payload
  if h : n < 8 then
    let q : ProbeIx := ⟨n, h⟩
    if !s.prof.active.probes.entries[q].enabled then (s, .refused .badValue 0 0)
    else if s.temp.slot.isSome || s.yields p .probeNow s.namesEnabledProbe then (s, .refused .busy 0 0)
    else
      ((s.setTemp { s.temp with slot := some { probe := q, port := p, selected := false } }).selectInput,
        .deferred .probeNow)
  else (s, .refused .badValue 0 0)

/-- PROBE_NOW (R48). -/
def execProbeNow (p : Port) (tag : Byte) (payload : List Byte) (s : State) : Host.Outcome State Fault Refusal :=
  whileRunning s (s.takeRequest .probeNow p tag payload (probeNowOwner p payload))

/-! ### A commit that changes PROBES (R45, R49, R51) -/

/-- A probe at the completion of a commit, from its old and new entry and whether the curve changed (R51). -/
def Probe.atCommit (x : Probe) (old new : ProbeEntry) (curveChanged : Bool) : Probe :=
  if !new.enabled then (if old.enabled then startProbe else x)
  else if !old.enabled then { startProbe with state := .warmup }
  else if curveChanged || decide (old.trim ≠ new.trim) then
    { x with state := .warmup, warm := 0, spike := 0, badRun := 0, filtered := none }
  else x

/-- A slot request for a probe the active set no longer enables is answered BAD_VALUE and the slot is emptied (R49). -/
def State.dropSlot (s : State) : State :=
  match s.temp.slot with
  | some r =>
    if s.prof.active.probes.entries[r.probe].enabled then s
    else (s.setTemp { s.temp with slot := none }).endDeferred r.port .probeNow (refusalPayload .badValue 0 0)
  | none => s

/-- An input still waiting that the active set keeps: the zero reference, and enabled probes (R45). -/
def State.keepsInput (s : State) : ConvInput → Bool
  | .zref => true
  | .probe p => s.prof.active.probes.entries[p].enabled

/-- A conversion at the completion of a commit: one of a probe the new set disables is voided (R45, R55). -/
def Conversion.atCommit (c : Conversion) (new : ProbesSec) : Conversion :=
  match c.input with
  | .zref => c
  | .probe p => { c with voided := c.voided || !new.entries[p].enabled }

/-- The temperature unit at the completion of a commit (R45, R49, R51, R56): probes, the conversion in progress, pass
list, slot, then every lane.
The active set is already the new one; `old` is the one it replaced. -/
def State.commitProbes (s : State) (old : ProbesSec) : State :=
  let new := s.prof.active.probes
  let changed := decide (old.curve ≠ new.curve)
  let s1 := allProbes.foldl (fun t p => t.setProbe p (t.temp.probes[p].atCommit old.entries[p] new.entries[p] changed)) s
  let s2 := s1.setTemp { s1.temp with
    conv := s1.temp.conv.map (fun c => c.atCommit new), passList := s1.temp.passList.filter s1.keepsInput }
  s2.dropSlot.selectInput.evaluateLanes

/-- At the end of the image check each enabled probe enters WARMUP without an event, the pass timer starts and the first
pass starts (R43, R61). -/
def State.startProbes (s : State) : State :=
  (s.setTemp { s.temp with
    probes := Vector.ofFn (fun p =>
      if s.prof.active.probes.entries[p].enabled then { startProbe with state := .warmup } else startProbe) }).startPass

end Sys2Proof.Machine
end

