-- ==== Sys2Proof/Machine/Operands.lean ====
section
/-! DEFINITION. The operand forms of the requests that carry profile sections: the section layouts (R151, chapter 9),
their validation (R1, R50, R90, R122, R134, R154) and the cross-checks of COMMIT (R161). -/

namespace Sys2Proof.Machine

open Sys2Proof

/-! ### Section names and sizes -/

/-- The eight sections in the order of their codes 1 to 8. -/
def allSections : List Sect :=
  [.site, .stripmap, .lanes, .tempcomp, .speedcomp, .probes, .classes, .autocal]

/-- The code of a section (chapter 9, Status and section codes). -/
def Sect.code (k : Sect) : Nat :=
  allSections.idxOf k + 1

/-- The section a code names. -/
def sectOfCode (n : Nat) : Option Sect :=
  if n = 0 then none else allSections[n - 1]?

/-- The size of a section; for CLASSES the largest it can take (R151, R157). -/
def Sect.size : Sect → Nat
  | .site => 32
  | .stripmap => 288
  | .lanes => 108
  | .tempcomp => 18
  | .speedcomp => 16
  | .probes => 50
  | .classes => 2369
  | .autocal => 16

/-- The metrological sections (R152). -/
def Sect.metrological : Sect → Bool
  | .site | .classes => false
  | .stripmap | .lanes | .tempcomp | .speedcomp | .probes | .autocal => true

/-- Two profiles differ in a metrological section (R152). -/
def metroDiffer (a b : Profile) : Bool :=
  decide (a.strips ≠ b.strips) || decide (a.lanes ≠ b.lanes) || decide (a.tempcomp ≠ b.tempcomp)
    || decide (a.speedcomp ≠ b.speedcomp) || decide (a.probes ≠ b.probes) || decide (a.autocal ≠ b.autocal)

/-! ### Writing a section out (READ_SECTION) -/

/-- A yes or no code. -/
def boolByte (b : Bool) : List Byte :=
  leBytes 1 (if b then 1 else 0)

/-- Reserved bytes read back as 0 (R151). -/
def reserved (n : Nat) : List Byte :=
  List.replicate n 0

/-- SITE (chapter 9, Profile sections). -/
def siteBytes (x : SiteSec) : List Byte :=
  leBytes 1 x.laneCount ++ leBytes 4 x.siteNumber ++ leBytes 2 x.closeDelay ++ leBytes 2 x.maxSpacing
    ++ leBytes 2 x.window ++ leBytes 1 x.frameTimeout ++ leBytes 1 x.highWater ++ leBytes 1 x.rowTolerance
    ++ leBytes 2 x.axleLimit ++ leBytes 4 x.grossLimit ++ leBytes 1 x.margin ++ leBytes 1 x.scanPeriod ++ reserved 10

/-- The code of a row. -/
def rowCode : StripRow → Nat
  | .rowA => 0
  | .rowB => 1

/-- The code of a side. -/
def sideCode : StripSide → Nat
  | .left => 0
  | .right => 1

/-- The lane number of a STRIPMAP entry; 0 is unmapped (R1). -/
def laneNumber : Option LaneIx → Nat
  | none => 0
  | some l => l.val + 1

/-- One STRIPMAP entry. -/
def stripBytes (e : StripEntry) : List Byte :=
  leBytes 1 (laneNumber e.lane) ++ leBytes 1 (rowCode e.row) ++ leBytes 1 (sideCode e.side) ++ reserved 1
    ++ leBytes 2 e.trigger ++ leBytes 2 e.width ++ leBytes 2 e.k ++ leBytes 2 e.clipLimit

/-- The code of an alternate probe; 255 is none. -/
def alternateCode : Option ProbeIx → Nat
  | none => 255
  | some p => p.val

/-- One LANES entry. -/
def laneBytes (e : LaneEntry) : List Byte :=
  boolByte e.enabled ++ leBytes 2 e.rowSpacing ++ leBytes 2 e.loopSpacing ++ leBytes 2 e.loopLength
    ++ leBytes 1 e.rejectMs ++ leBytes 1 e.stallS ++ leBytes 1 e.primary.val ++ leBytes 1 (alternateCode e.alternate)
    ++ leBytes 2 e.fA ++ reserved 5

/-- PROBES. -/
def probesBytes (x : ProbesSec) : List Byte :=
  x.entries.toList.flatMap (fun e => boolByte e.enabled ++ leSigned 1 e.trim) ++ x.curve.toList.flatMap (leSigned 2)

/-- The code of a single-track test (R151). -/
def TrackTest.code : TrackTest → Nat
  | .any => 0
  | .required => 1
  | .forbidden => 2

/-- An optional range, each bound in `size` bytes. -/
def rangeBytes (size : Nat) : Option (Nat × Nat) → List Byte
  | none => []
  | some (lo, hi) => leBytes size lo ++ leBytes size hi

/-- One class entry (R151). -/
def classBytes (e : ClassEntry) : List Byte :=
  leBytes 1 e.code ++ leBytes 1 e.minAxles ++ leBytes 1 e.maxAxles ++ leBytes 1 e.track.code ++ leBytes 1 e.ranges.length
    ++ leBytes 1 (bitIf e.gross.isSome 0 + bitIf e.length.isSome 1)
    ++ e.ranges.flatMap (fun r => rangeBytes 2 (some r)) ++ rangeBytes 4 e.gross ++ rangeBytes 2 e.length

/-- AUTOCAL. -/
def autocalBytes (x : AutocalSec) : List Byte :=
  boolByte x.enable ++ leBytes 1 x.refClass ++ leBytes 2 x.target ++ leBytes 2 x.speedMin ++ leBytes 2 x.speedMax
    ++ leBytes 4 x.grossMin ++ leBytes 4 x.grossMax

/-- The bytes of a section of a profile. -/
def sectionBytes (p : Profile) : Sect → List Byte
  | .site => siteBytes p.site
  | .stripmap => p.strips.toList.flatMap stripBytes
  | .lanes => p.lanes.toList.flatMap laneBytes
  | .tempcomp => p.tempcomp.toList.flatMap (leBytes 2)
  | .speedcomp => p.speedcomp.toList.flatMap (leBytes 2)
  | .probes => probesBytes p.probes
  | .classes => leBytes 1 p.classes.length ++ p.classes.flatMap classBytes
  | .autocal => autocalBytes p.autocal

/-! ### Ranges -/

/-- `lo ≤ x ≤ hi`. -/
def within (lo hi x : Nat) : Bool :=
  decide (lo ≤ x) && decide (x ≤ hi)

/-- The same for a signed value. -/
def withinInt (lo hi x : Int) : Bool :=
  decide (lo ≤ x) && decide (x ≤ hi)

/-- The index of the first check that fails. -/
def firstFailing (checks : List Bool) : Option Nat :=
  checks.findIdx? (fun b => !b)

/-- SITE's checks in the order of their indexes 0 to 11 (R154). -/
def siteChecks (x : SiteSec) : List Bool :=
  [within 1 6 x.laneCount, within 0 4294967295 x.siteNumber, within 50 2000 x.closeDelay, within 300 2500 x.maxSpacing,
    within 8 256 x.window, within 1 10 x.frameTimeout, within 1 48 x.highWater, within 1 50 x.rowTolerance,
    within 1000 65535 x.axleLimit, within 1000 983025 x.grossLimit, within 0 50 x.margin, within 1 60 x.scanPeriod]

/-- A STRIPMAP entry's ranges (R154). -/
def stripOk (e : StripEntry) : Bool :=
  within 20 8000 e.trigger && within 20 200 e.width && within 1 65535 e.k && within 16 1000 e.clipLimit

/-- Two mapped entries name the same lane, row and side (R1). -/
def sameSegment (a b : StripEntry) : Bool :=
  a.lane.isSome && decide (a.lane = b.lane) && decide (a.row = b.row) && decide (a.side = b.side)

/-- STRIPMAP's checks: channel i is in range and repeats no lower-numbered channel's segment (R1, R154). An entry with
a code that has no meaning is absent and fails (R151). -/
def stripChecks : List (Option StripEntry) → List (Option StripEntry) → List Bool
  | _, [] => []
  | before, e :: rest =>
    (match e with
      | none => false
      | some x => stripOk x && !(before.any (fun b => match b with
        | none => false
        | some y => sameSegment y x))) :: stripChecks (before ++ [e]) rest

/-- A LANES entry's ranges (R134, R154). -/
def laneOk (e : LaneEntry) : Bool :=
  within 500 6000 e.rowSpacing && within 1000 10000 e.loopSpacing && within 0 1000 e.loopLength && within 5 100 e.rejectMs
    && within 2 30 e.stallS && within 3686 4506 e.fA

/-- A check on an entry that may be absent, a code of it having no meaning. -/
def presentOk {α : Type} (f : α → Bool) : Option α → Bool
  | none => false
  | some x => f x

/-- A temperature or speed factor's range (R90). -/
def factorOk (f : Nat) : Bool :=
  within 512 2047 f

/-- PROBES' checks: index p for a trim of probe p, 8 + i for curve point i (R50).
R151 puts an enable code other than 0 and 1 out of range, and R50 gives no index for it: that it is refused with its
probe's number, as a trim is, is the model's choice (log 9). -/
def probesChecks (entries : List (Option ProbeEntry)) (curve : List Int) : List Bool :=
  entries.map (presentOk (fun e => withinInt (-50) 50 e.trim)) ++ curve.map (withinInt (-400) 850)

/-- A range's bounds lie in order and within limits. -/
def rangeOk (limit : Nat) (r : Nat × Nat) : Bool :=
  decide (r.1 ≤ r.2) && decide (r.2 ≤ limit)

/-- A class entry is valid (R122). -/
def classOk (e : ClassEntry) : Bool :=
  within 1 31 e.code && within 1 15 e.minAxles && within 1 15 e.maxAxles && decide (e.minAxles ≤ e.maxAxles)
    && decide (e.ranges.length ≤ 14) && decide (e.ranges.length ≤ e.maxAxles - 1) && e.ranges.all (rangeOk 65535)
    && e.gross.all (rangeOk 983025) && e.length.all (rangeOk 4000)

/-- AUTOCAL's checks in the order of their indexes 0 to 6 (R134). A window whose minimum exceeds its maximum has the
index of the maximum. -/
def autocalChecks (enableOk : Bool) (x : AutocalSec) : List Bool :=
  [enableOk, within 1 31 x.refClass, within 1000 20000 x.target, within 1500 60000 x.speedMin,
    within 1500 60000 x.speedMax && decide (x.speedMin ≤ x.speedMax), within 0 983025 x.grossMin,
    within 0 983025 x.grossMax && decide (x.grossMin ≤ x.grossMax)]

/-! ### Reading a section in (EDIT_PUT with END) -/

/-- A yes or no code. -/
def parseBool (n : Nat) : Option Bool :=
  if n = 0 then some false else if n = 1 then some true else none

/-- SITE from its bytes. -/
def parseSite (bs : List Byte) : SiteSec :=
  { laneCount := fieldAt bs 0 1, siteNumber := fieldAt bs 1 4, closeDelay := fieldAt bs 5 2, maxSpacing := fieldAt bs 7 2,
    window := fieldAt bs 9 2, frameTimeout := fieldAt bs 11 1, highWater := fieldAt bs 12 1, rowTolerance := fieldAt bs 13 1,
    axleLimit := fieldAt bs 14 2, grossLimit := fieldAt bs 16 4, margin := fieldAt bs 20 1, scanPeriod := fieldAt bs 21 1 }

/-- A lane number 0 to 6; 0 is unmapped. -/
def parseLane (n : Nat) : Option (Option LaneIx) :=
  if h : n ≤ 6 then
    if h0 : n = 0 then some none else some (some ⟨n - 1, by omega⟩)
  else none

/-- A row code. -/
def parseRow (n : Nat) : Option StripRow :=
  if n = 0 then some .rowA else if n = 1 then some .rowB else none

/-- A side code. -/
def parseSide (n : Nat) : Option StripSide :=
  if n = 0 then some .left else if n = 1 then some .right else none

/-- The STRIPMAP entry at an offset, absent if a code of it has no meaning. -/
def parseStrip (bs : List Byte) (o : Nat) : Option StripEntry :=
  match parseLane (fieldAt bs o 1), parseRow (fieldAt bs (o + 1) 1), parseSide (fieldAt bs (o + 2) 1) with
  | some lane, some row, some side =>
    some { lane := lane, row := row, side := side, trigger := fieldAt bs (o + 4) 2, width := fieldAt bs (o + 6) 2,
           k := fieldAt bs (o + 8) 2, clipLimit := fieldAt bs (o + 10) 2 }
  | _, _, _ => none

/-- A probe number. -/
def parseProbe (n : Nat) : Option ProbeIx :=
  if h : n < 8 then some ⟨n, h⟩ else none

/-- An alternate probe: 0 to 7, or 255 for none. -/
def parseAlternate (n : Nat) : Option (Option ProbeIx) :=
  if n = 255 then some none else (parseProbe n).map some

/-- The LANES entry at an offset, absent if a code of it has no meaning. -/
def parseLaneEntry (bs : List Byte) (o : Nat) : Option LaneEntry :=
  match parseBool (fieldAt bs o 1), parseProbe (fieldAt bs (o + 9) 1), parseAlternate (fieldAt bs (o + 10) 1) with
  | some en, some primary, some alternate =>
    some { enabled := en, rowSpacing := fieldAt bs (o + 1) 2, loopSpacing := fieldAt bs (o + 3) 2,
           loopLength := fieldAt bs (o + 5) 2, rejectMs := fieldAt bs (o + 7) 1, stallS := fieldAt bs (o + 8) 1,
           primary := primary, alternate := alternate, fA := fieldAt bs (o + 11) 2 }
  | _, _, _ => none

/-- The PROBES entry of a probe, absent if its enable code has no meaning. -/
def parseProbeEntry (bs : List Byte) (o : Nat) : Option ProbeEntry :=
  (parseBool (fieldAt bs o 1)).map (fun en => { enabled := en, trim := signedAt bs (o + 1) 1 })

/-- A single-track code. -/
def parseTrack (n : Nat) : Option TrackTest :=
  if n = 0 then some .any else if n = 1 then some .required else if n = 2 then some .forbidden else none

/-- `n` ranges of 2-byte bounds from an offset. -/
def parseRanges (bs : List Byte) : Nat → Nat → List (Nat × Nat)
  | 0, _ => []
  | n + 1, o => (fieldAt bs o 2, fieldAt bs (o + 2) 2) :: parseRanges bs n (o + 4)

/-- How reading one class entry ends: the bytes run out, the entry is invalid, or it is good and the rest follows. -/
inductive ClassRead where
  | short
  | invalid
  | good (e : ClassEntry) (rest : List Byte)
deriving DecidableEq, Repr

/-- The first class entry of `bs` (R151, R122). Its six fixed bytes are judged before its ranges are read. -/
def parseClass (bs : List Byte) : ClassRead :=
  if bs.length < 6 then .short
  else
    let n := fieldAt bs 4 1
    let marks := fieldAt bs 5 1
    let maxAxles := fieldAt bs 2 1
    match parseTrack (fieldAt bs 3 1) with
    | none => .invalid
    | some track =>
      if 14 < n ∨ 3 < marks ∨ maxAxles - 1 < n ∨ !within 1 31 (fieldAt bs 0 1) ∨ !within 1 15 (fieldAt bs 1 1)
          ∨ !within 1 15 maxAxles ∨ maxAxles < fieldAt bs 1 1 then .invalid
      else
        let hasGross := decide (marks % 2 = 1)
        let hasLength := decide (2 ≤ marks)
        let og := 6 + 4 * n
        let ol := og + (if hasGross then 8 else 0)
        let size := ol + (if hasLength then 4 else 0)
        if bs.length < size then .short
        else
          let e : ClassEntry :=
            { code := fieldAt bs 0 1, minAxles := fieldAt bs 1 1, maxAxles := maxAxles, track := track,
              ranges := parseRanges bs n 6,
              gross := if hasGross then some (fieldAt bs og 4, fieldAt bs (og + 4) 4) else none,
              length := if hasLength then some (fieldAt bs ol 2, fieldAt bs (ol + 2) 2) else none }
          if classOk e then .good e (bs.drop size) else .invalid

/-- `n` class entries, the first with index `i`: the entries and the bytes left over, or the index refused (R122). -/
def parseEntries : Nat → Nat → List Byte → Except Nat (List ClassEntry × List Byte)
  | 0, _, bs => .ok ([], bs)
  | n + 1, i, bs =>
    match parseClass bs with
    | .short => .error 32
    | .invalid => .error i
    | .good e rest =>
      match parseEntries n (i + 1) rest with
      | .ok (es, left) => .ok (e :: es, left)
      | .error j => .error j

/-- CLASSES from its bytes, or the index refused: the first invalid entry's, or 32 for a count or size fault (R122). -/
def parseClasses (bs : List Byte) : Except Nat (List ClassEntry) :=
  match bs with
  | [] => .error 32
  | b :: rest =>
    match parseEntries (min b.toNat 32) 0 rest with
    | .error j => .error j
    | .ok (es, left) => if 32 < b.toNat ∨ left ≠ [] then .error 32 else .ok es

/-- AUTOCAL from its bytes. -/
def parseAutocal (bs : List Byte) : AutocalSec :=
  { enable := decide (fieldAt bs 0 1 = 1), refClass := fieldAt bs 1 1, target := fieldAt bs 2 2, speedMin := fieldAt bs 4 2,
    speedMax := fieldAt bs 6 2, grossMin := fieldAt bs 8 4, grossMax := fieldAt bs 12 4 }

/-- A profile with its STRIPMAP read from bytes. -/
def putStrips (p : Profile) (bs : List Byte) : Except Nat Profile :=
  let es := Vector.ofFn (fun c : ChanIx => parseStrip bs (12 * c.val))
  match firstFailing (stripChecks [] es.toList) with
  | some i => .error i
  | none => .ok { p with strips := es.map (fun e => e.getD defaultStrip) }

/-- A profile with its LANES read from bytes. -/
def putLanes (p : Profile) (bs : List Byte) : Except Nat Profile :=
  let es := Vector.ofFn (fun l : LaneIx => parseLaneEntry bs (18 * l.val))
  match firstFailing (es.toList.map (presentOk laneOk)) with
  | some i => .error i
  | none => .ok { p with lanes := Vector.ofFn (fun l => (es[l]).getD (defaultLane l)) }

/-- A profile with its PROBES read from bytes. -/
def putProbes (p : Profile) (bs : List Byte) : Except Nat Profile :=
  let es := Vector.ofFn (fun q : ProbeIx => parseProbeEntry bs (2 * q.val))
  let curve := Vector.ofFn (fun i : Fin 17 => signedAt bs (16 + 2 * i.val) 2)
  match firstFailing (probesChecks es.toList curve.toList) with
  | some i => .error i
  | none => .ok { p with probes := { entries := es.map (fun e => e.getD { enabled := false, trim := 0 }), curve := curve } }

/-- A profile with one section read from the bytes of a whole transfer, or the index refused (R154, R158). -/
def putSection (p : Profile) (k : Sect) (bs : List Byte) : Except Nat Profile :=
  match k with
  | .site =>
    let x := parseSite bs
    match firstFailing (siteChecks x) with
    | some i => .error i
    | none => .ok { p with site := x }
  | .stripmap => putStrips p bs
  | .lanes => putLanes p bs
  | .tempcomp =>
    let v := Vector.ofFn (fun i : Fin 9 => fieldAt bs (2 * i.val) 2)
    match firstFailing (v.toList.map factorOk) with
    | some i => .error i
    | none => .ok { p with tempcomp := v }
  | .speedcomp =>
    let v := Vector.ofFn (fun i : Fin 8 => fieldAt bs (2 * i.val) 2)
    match firstFailing (v.toList.map factorOk) with
    | some i => .error i
    | none => .ok { p with speedcomp := v }
  | .probes => putProbes p bs
  | .classes =>
    match parseClasses bs with
    | .error i => .error i
    | .ok es => .ok { p with classes := es }
  | .autocal =>
    let x := parseAutocal bs
    match firstFailing (autocalChecks (parseBool (fieldAt bs 0 1)).isSome x) with
    | some i => .error i
    | none => .ok { p with autocal := x }

/-- Validation at END (R154, R158): a fixed-size section with fewer bytes than its size is BAD_LENGTH; a section that
fails its checks is BAD_VALUE with the lowest offending index. -/
def validateSection (p : Profile) (k : Sect) (bs : List Byte) : Except (Status × Nat) Profile :=
  if k ≠ .classes ∧ bs.length ≠ k.size then .error (.badLength, 0)
  else match putSection p k bs with
    | .ok q => .ok q
    | .error i => .error (.badValue, i)

/-! ### The whole profile -/

/-- A row of a lane has a channel mapped on both sides (R161). -/
def rowComplete (p : Profile) (l : LaneIx) (r : StripRow) : Bool :=
  let has := fun side => p.strips.toList.any (fun e =>
    decide (e.lane = some l) && decide (e.row = r) && decide (e.side = side))
  has .left && has .right

/-- The lane is enabled with a number no greater than the lane count. -/
def laneCounts (p : Profile) (l : LaneIx) : Bool :=
  p.lanes[l].enabled && decide (l.val < p.site.laneCount)

/-- A channel names no lane above the lane count (R161). -/
def channelInCount (p : Profile) (e : StripEntry) : Bool :=
  decide (laneNumber e.lane ≤ p.site.laneCount)

/-- The three cross-checks of COMMIT, taken in turn: the section and index of the first failure (R161). -/
def inconsistency (p : Profile) : Option (Sect × Nat) :=
  match firstFailing (p.strips.toList.map (channelInCount p)) with
  | some i => some (.stripmap, i)
  | none =>
    match firstFailing (allLanes.map (fun l => !laneCounts p l || rowComplete p l .rowA || rowComplete p l .rowB)) with
    | some i => some (.lanes, i)
    | none =>
      match firstFailing (allLanes.map (fun l => !laneCounts p l || p.probes.entries[p.lanes[l].primary].enabled)) with
      | some i => some (.lanes, i)
      | none => none

/-- A profile that passes every check of R154 and R161, as a good image's must (R164). -/
def profileGood (p : Profile) : Bool :=
  (firstFailing (siteChecks p.site)).isNone
    && (firstFailing (stripChecks [] (p.strips.toList.map some))).isNone
    && p.lanes.toList.all laneOk && p.tempcomp.toList.all factorOk && p.speedcomp.toList.all factorOk
    && (firstFailing (probesChecks (p.probes.entries.toList.map some) p.probes.curve.toList)).isNone
    && decide (p.classes.length ≤ 32) && p.classes.all classOk
    && (firstFailing (autocalChecks true p.autocal)).isNone && (inconsistency p).isNone

end Sys2Proof.Machine
end

