-- ==== Sys2Proof/Machine/Profile.lean ====
section
/-! DEFINITION. The edit claim, chunked transfers, READ_SECTION, COMMIT as far as its acceptance, LOCK, and the
ownership timeout (chapter 8). -/

namespace Sys2Proof.Machine

open Sys2Proof

/-- Replaces the edit claim. -/
def State.setClaim (s : State) (c : Option Claim) : State :=
  s.setProf { s.prof with claim := c }

/-- The claim, if the port owns it. -/
def State.claimOf (s : State) (p : Port) : Option Claim :=
  s.prof.claim.filter (fun c => decide (c.owner = p))

/-- A commit of the claim's owner is in flight: the ownership timer is stopped (R156). -/
def Claim.inFlight (c : Claim) : Bool :=
  c.timer.isNone

/-- What an edit request of the owner does to the claim. While a commit is in flight the staged set stands as it was judged
(R161, R162): a request that the port does not turn away itself, because a restart has dropped its hold of the COMMIT, is
refused BUSY (log 20). -/
def State.onClaim (s : State) (c : Claim) (edit : State × Answer) : State × Answer :=
  if c.inFlight then (s, .refused .busy 0 0) else edit

/-- A request of the owner that the profile store takes restarts the ownership timer, whatever its outcome (R156). -/
def Claim.touch (c : Claim) (now : Tick) : Claim :=
  { c with timer := some now }

/-- The transfer in progress is dropped. -/
def Claim.drop (c : Claim) : Claim :=
  { c with transfer := none }

/-- The claim after the transfer in progress, if it is one of section `k`, is dropped. -/
def Claim.dropIf (c : Claim) (k : Sect) : Claim :=
  { c with transfer := c.transfer.filter (fun t => decide (t.sect ≠ k)) }

/-! ### EDIT_BEGIN and EDIT_DISCARD (R155, R159) -/

/-- A fresh claim: the staged set is a copy of the active set, no transfer, and the timer starts (R155). -/
def State.newClaim (s : State) (p : Port) : Claim :=
  { owner := p, staged := s.prof.active, transfer := none, timer := some s.now }

/-- The profile store's part of EDIT_BEGIN (R155). Where requests of both ports find the set free at one moment, the
cabinet link claims it and the service port is refused NOT_OWNER (log 32). -/
def editBeginOwner (p : Port) (s : State) : State × Answer :=
  match s.prof.claim with
  | none =>
    if s.yields p .editBegin (fun _ => true) then (s, .refused .notOwner 0 0)
    else (s.setClaim (some (s.newClaim p)), .ok [])
  | some c => if c.owner = p then (s, .refused .busy 0 0) else (s, .refused .notOwner 0 0)

/-- EDIT_BEGIN (R155). -/
def execEditBegin (p : Port) (tag : Byte) (payload : List Byte) (s : State) : Host.Outcome State Fault Refusal :=
  whileRunning s (s.takeRequest .editBegin p tag payload (editBeginOwner p))

/-- The profile store's part of EDIT_DISCARD (R159). -/
def editDiscardOwner (p : Port) (s : State) : State × Answer :=
  match s.claimOf p with
  | none => (s, .refused .notOwner 0 0)
  | some c => s.onClaim c (s.setClaim none, .ok [])

/-- EDIT_DISCARD (R159). -/
def execEditDiscard (p : Port) (tag : Byte) (payload : List Byte) (s : State) : Host.Outcome State Fault Refusal :=
  whileRunning s (s.takeRequest .editDiscard p tag payload (editDiscardOwner p))

/-! ### EDIT_PUT (R157, R158) -/

/-- The fields of an EDIT_PUT (chapter 9, Request payloads). -/
structure PutFields where
  sect : Nat
  offset : Nat
  begins : Bool
  ends : Bool
  chunk : List Byte
deriving DecidableEq, Repr

/-- EDIT_PUT's payload read. -/
def putFields (payload : List Byte) : PutFields :=
  { sect := fieldAt payload 0 1, offset := fieldAt payload 1 2,
    begins := decide (fieldAt payload 3 1 % 2 = 1), ends := decide (fieldAt payload 3 1 / 2 % 2 = 1),
    chunk := payload.drop 4 }

/-- A transfer at its END (R158): the section that passes validation replaces the staged one; either way the transfer
ends. -/
def Claim.finish (c : Claim) (k : Sect) (bytes : List Byte) : Claim × Answer :=
  match validateSection c.staged k bytes with
  | .ok q => ({ c with staged := q, transfer := none }, .ok (leBytes 2 bytes.length))
  | .error (st, i) => (c.drop, .refused st k.code i)

/-- The chunk has been taken: the bytes received so far, and what END makes of them (R157, R158). -/
def Claim.received (c : Claim) (k : Sect) (bytes : List Byte) (ends : Bool) : Claim × Answer :=
  if ends then c.finish k bytes
  else ({ c with transfer := some { sect := k, bytes := bytes } }, .ok (leBytes 2 bytes.length))

/-- Case 4 of R157, Begin. Section and index bytes of BAD_SEQUENCE and BAD_LENGTH: log 9. -/
def Claim.putBegin (c : Claim) (k : Sect) (f : PutFields) : Claim × Answer :=
  if f.offset ≠ 0 then (c.drop, .refused .badSequence 0 0)
  else if k.size < f.chunk.length then (c.drop, .refused .badLength k.code 0)
  else c.drop.received k f.chunk f.ends

/-- Case 5 of R157, Continue. -/
def Claim.putContinue (c : Claim) (k : Sect) (f : PutFields) : Claim × Answer :=
  match c.transfer with
  | none => (c, .refused .badSequence 0 0)
  | some t =>
    if t.sect ≠ k then (c, .refused .badSequence 0 0)
    else if t.bytes.length ≠ f.offset then (c.drop, .refused .badSequence 0 0)
    else if k.size < t.bytes.length + f.chunk.length then (c.drop, .refused .badLength k.code 0)
    else c.received k (t.bytes ++ f.chunk) f.ends

/-- Cases 2 to 5 of R157 on a claim the port owns. -/
def Claim.put (c : Claim) (locked : Bool) (f : PutFields) : Claim × Answer :=
  match sectOfCode f.sect with
  | none => (c, .refused .badValue 0 0)
  | some k =>
    if k.metrological && locked then (c.dropIf k, .refused .locked 0 0)
    else if f.begins then c.putBegin k f
    else c.putContinue k f

/-- The profile store's part of EDIT_PUT (R157). -/
def editPutOwner (p : Port) (payload : List Byte) (s : State) : State × Answer :=
  match s.claimOf p with
  | none => (s, .refused .notOwner 0 0)
  | some c =>
    let r := (c.touch s.now).put s.prof.locked (putFields payload)
    s.onClaim c (s.setClaim (some r.1), r.2)

/-- EDIT_PUT (R157, R158). -/
def execEditPut (p : Port) (tag : Byte) (payload : List Byte) (s : State) : Host.Outcome State Fault Refusal :=
  whileRunning s (s.takeRequest .editPut p tag payload (editPutOwner p payload))

/-! ### READ_SECTION (R160) -/

/-- What READ_SECTION answers from a set: size, generation, and up to 960 bytes from the offset. -/
def readAnswer (prof : Profile) (generation code offset : Nat) : Answer :=
  match sectOfCode code with
  | none => .refused .badValue 0 0
  | some k =>
    let bs := sectionBytes prof k
    if bs.length < offset then .refused .badValue k.code 0
    else .ok (leBytes 2 bs.length ++ leBytes 4 generation ++ (bs.drop offset).take 960)

/-- The profile store's part of READ_SECTION (R160). The order of its checks is the model's choice (log 10), and so are
section 0 and index 0 of the BAD_VALUE that refuses a choice other than active or staged (log 9). -/
def readSectionOwner (p : Port) (payload : List Byte) (s : State) : State × Answer :=
  let code := byte1 payload
  let offset := fieldAt payload 2 2
  match byte0 payload with
  | 0 => (s, readAnswer s.prof.active s.prof.generation code offset)
  | 1 =>
    match s.claimOf p with
    | none => (s, .refused .notOwner 0 0)
    | some c => s.onClaim c (s.setClaim (some (c.touch s.now)), readAnswer c.staged 0 code offset)
  | _ => (s, .refused .badValue 0 0)

/-- READ_SECTION (R160). -/
def execReadSection (p : Port) (tag : Byte) (payload : List Byte) (s : State) : Host.Outcome State Fault Refusal :=
  whileRunning s (s.takeRequest .readSection p tag payload (readSectionOwner p payload))

/-! ### COMMIT (R161) -/

/-- The lock is set or pending. -/
def ProfileStore.sealed (x : ProfileStore) : Bool :=
  x.locked || x.lockPending

/-- The first check of R161 that a claimed staged set fails, if any. -/
def State.commitFailure (s : State) (c : Claim) : Option Answer :=
  if c.transfer.isSome then some (.refused .badSequence 0 0)
  else if s.prof.sealed && metroDiffer c.staged s.prof.active then some (.refused .locked 0 0)
  else match inconsistency c.staged with
    | some (k, i) => some (.refused .inconsistent k.code i)
    | none => none

/-- The profile store's part of COMMIT (R161): an accepted one stops the ownership timer, places COMMIT and defers its
reply. A second one, while an earlier one whose hold a restart has dropped is in flight, is refused BUSY (log 20). -/
def commitOwner (p : Port) (s : State) : State × Answer :=
  match s.claimOf p with
  | none => (s, .refused .notOwner 0 0)
  | some c =>
    s.onClaim c (match s.commitFailure c with
      | some a => (s.setClaim (some (c.touch s.now)), a)
      | none => ((s.setClaim (some { c with timer := none })).placeReason .commit, .deferred .commit))

/-- COMMIT (R161). -/
def execCommit (p : Port) (tag : Byte) (payload : List Byte) (s : State) : Host.Outcome State Fault Refusal :=
  whileRunning s (s.takeRequest .commit p tag payload (commitOwner p))

/-! ### The ownership timeout (R156) -/

/-- The tick at which the running ownership timer was last started. -/
def State.ownershipStart (s : State) : Option Tick :=
  s.prof.claim.bind (fun c => c.timer)

/-- 120 s have passed since the ownership timer was last started. -/
def State.ownershipDue (s : State) : Bool :=
  match s.ownershipStart with
  | some t => hasPassed t 960000 s.now
  | none => false

/-- OWNERSHIP_TIMEOUT (R156): staged set and transfer are dropped and the claim is released. -/
def execOwnershipTimeout (s : State) : Host.Outcome State Fault Refusal :=
  whenDue s s.ownershipDue (s.setClaim none)

/-! ### LOCK (R167) -/

/-- The profile store's part of LOCK (R167). -/
def lockOwner (s : State) : State × Answer :=
  if s.site.state = .noProfile then (s, .refused .noProfile 0 0)
  else if s.prof.sealed then (s, .refused .locked 0 0)
  else ((s.setProf { s.prof with lockPending := true }).placeReason .lock, .ok [])

/-- LOCK (R167). -/
def execLock (p : Port) (tag : Byte) (payload : List Byte) (s : State) : Host.Outcome State Fault Refusal :=
  whileRunning s (s.takeRequest .lock p tag payload lockOwner)

end Sys2Proof.Machine
end

