-- ==== Sys2Proof/Machine/Image.lean ====
section
/-! DEFINITION. The writes of the image (chapter 8): what starts one, what it carries, and what its completion brings
about for the owner of its reason. -/

namespace Sys2Proof.Machine

open Sys2Proof

/-- The largest value of the audit, boot and generation counts (R152, R163, R170). -/
def countLimit : Nat := 4294967295

/-! ### The start of a write (R165) -/

/-- The working factors as the image holds them. -/
def State.workingCal (s : State) : Vector ImageCal 6 :=
  s.cal.map (fun c => { fA := c.fA, updates := c.updates, limit := c.limit })

/-- The factors a metrological commit sets (R144, R165). -/
def committedCal (p : Profile) : Vector ImageCal 6 :=
  p.lanes.map (fun e => { fA := e.fA, updates := 0, limit := false })

/-- The state standing, as an image carries it. -/
def State.standingImage (s : State) : Image :=
  { profile := s.prof.active, cal := s.workingCal, locked := s.prof.locked, audit := s.prof.audit, boot := s.prof.boot }

/-- The staged set; without a claim there is none, and the active set stands for it. -/
def State.stagedSet (s : State) : Profile :=
  match s.prof.claim with
  | some c => c.staged
  | none => s.prof.active

/-- The image a COMMIT write carries (R165). -/
def State.commitImage (s : State) : Image :=
  let new := s.stagedSet
  let metro := metroDiffer new s.prof.active
  { s.standingImage with
    profile := new,
    audit := if metro then satSucc countLimit s.prof.audit else s.prof.audit,
    cal := if metro then committedCal new else s.workingCal }

/-- The image a write carries by its reason (R165). -/
def State.writeContent (s : State) : Reason → Image
  | .commit => s.commitImage
  | .lock => { s.standingImage with locked := true, audit := satSucc countLimit s.prof.audit }
  | .boot => s.standingImage
  | .learned => s.standingImage

/-- The first reason present in the order COMMIT, LOCK, BOOT, LEARNED (R165). -/
def ReasonSet.first (r : ReasonSet) : Option Reason :=
  if r.commit then some .commit
  else if r.lock then some .lock
  else if r.boot then some .boot
  else if r.learned then some .learned
  else none

/-- The reason a write starts for now: the first one present, while no write is in progress (R165). -/
def State.dueWrite (s : State) : Option Reason :=
  match s.prof.write with
  | some _ => none
  | none => s.prof.reasons.first

/-- A write starts, and its reason leaves the set (R165). -/
def State.startWrite (s : State) (k : Reason) : State :=
  s.setProf { s.prof with
    reasons := s.prof.reasons.put false k,
    write := some { reason := k, content := s.writeContent k, start := s.now } }

/-- IMAGE_WRITE_START (R165). -/
def execImageWriteStart (s : State) : Host.Outcome State Fault Refusal :=
  whileRunning s (match s.dueWrite with
    | some k => s.startWrite k
    | none => s)

/-! ### The completion of a write (R166) -/

/-- The medium and the write-fault mark after the readback (R166). -/
def State.readBack (s : State) (w : ImageWrite) (agrees : Bool) : State :=
  s.setProf { s.prof with
    write := none, medium := if agrees then .holds w.content else .failed, writeFault := !agrees }

/-- The auto-calibration unit at the completion of a metrological commit: every lane afresh (R144). -/
def State.resetCal (s : State) (new : Profile) : State :=
  s.setCal (Vector.ofFn (fun l : LaneIx => s.cal[l].metroReset new.lanes[l].fA))

/-- A site in NOPROFILE enters STANDBY (R162). -/
def State.leaveNoProfile (s : State) : State :=
  if s.site.state = .noProfile then s.setSite { s.site with state := .standby } else s

/-- The profile store at the completion of a successful commit: the new active set, the raised counts, LEARNED removed
by a metrological one, and the claim released (R162, R163, R147). -/
def State.takeActive (s : State) (new : Profile) (metro : Bool) : State :=
  s.setProf { s.prof with
    active := new, replaced := some s.prof.active, claim := none, generation := satSucc countLimit s.prof.generation,
    audit := if metro then satSucc countLimit s.prof.audit else s.prof.audit,
    reasons := if metro then s.prof.reasons.put false .learned else s.prof.reasons }

/-- Candidates whose deadline, by the new active set, has passed complete at once (R69, R80): lane after lane in ascending
number, those of a lane by first start (R70). The order among lanes, and the order of opening among equal first starts,
is the model's choice (log 28). -/
def State.completeOverdue (s : State) : State :=
  s.completeIds ((s.openCandidates.filter (fun lc => s.candidateOverdue lc.1 lc.2)).map (fun lc => lc.2.id))

/-- The blocks act on the new active set (R162): auto-calibration, the site state, the channels, the probes, lane
activation, the axle former. `before` is the state before the commit. -/
def State.blocksFollow (s before : State) (metro : Bool) : State :=
  let new := s.prof.active
  let old := before.prof.active
  let s1 := (if metro then s.resetCal new else s).leaveNoProfile
  let s2 := if new.strips ≠ old.strips then s1.remapChannels else s1
  ((s2.commitProbes old.probes).recompose before).completeOverdue

/-- The reply to the commit in flight; none where a restart has dropped the port's hold of it (log 20). -/
def State.replyToCommit (s : State) (owner : Option Port) (payload : List Byte) : State :=
  match owner with
  | some p => s.endDeferred p .commit payload
  | none => s

/-- A commit completes (R162, write succeeded). The write carries the staged set, which cannot change in flight. -/
def State.commitDone (s : State) (w : ImageWrite) : State :=
  let new := w.content.profile
  let metro := metroDiffer new s.prof.active
  let s1 := (s.takeActive new metro).blocksFollow s metro
  s1.replyToCommit (s.prof.claim.map (·.owner)) (okPayload (leBytes 4 s1.prof.generation))

/-- A commit fails (R162, write failed): the claim is kept and its timer starts again. -/
def State.commitFailed (s : State) : State :=
  (s.setClaim (s.prof.claim.map (fun c => c.touch s.now))).replyToCommit (s.prof.claim.map (·.owner))
    (refusalPayload .storeFault 0 0)

/-- A lock write completes (R167). -/
def State.lockDone (s : State) (agrees : Bool) : State :=
  if agrees then
    s.setProf { s.prof with lockPending := false, locked := true, audit := satSucc countLimit s.prof.audit }
  else s.setProf { s.prof with lockPending := false }

/-- A BOOT write completes: the site leaves INIT either way (R170). -/
def State.bootDone (s : State) : State :=
  if s.site.state = .init then s.setSite { s.site with state := .standby } else s

/-- The owner of the reason takes the outcome (R166). -/
def State.serveReason (s : State) (w : ImageWrite) (agrees : Bool) : State :=
  match w.reason with
  | .commit => if agrees then s.commitDone w else s.commitFailed
  | .lock => s.lockDone agrees
  | .boot => s.bootDone
  | .learned => s

/-- The write in progress, once a tick has passed since its start (R166). -/
def State.writeEnding (s : State) : Option ImageWrite :=
  s.prof.write.filter (fun w => hasPassed w.start 1 s.now)

/-- IMAGE_WRITE_COMPLETE (R166), with the outcome of the readback. -/
def execImageWriteComplete (agrees : Bool) (s : State) : Host.Outcome State Fault Refusal :=
  whileRunning s (match s.writeEnding with
    | some w => (s.readBack w agrees).serveReason w agrees
    | none => s)

end Sys2Proof.Machine
end

