-- ==== Sys2Proof/Machine/Site.lean ====
section
/-! DEFINITION. The site controller (chapter 8): SITE_RUN, LANE_SET, TIME_SET, IDENT, RESTART, and the three starts with
the start values of every block. -/

namespace Sys2Proof.Machine

open Sys2Proof

/-! ### Requests -/

/-- The code of a site state (chapter 9, Reply results). -/
def SiteState.code : SiteState → Nat
  | .init => 0
  | .noProfile => 1
  | .standby => 2
  | .weighing => 3

/-- The code of a start's cause. -/
def StartCause.code : StartCause → Nat
  | .power => 0
  | .line => 1
  | .restart => 2

/-- The site enters a state, and every lane's activation is recomposed (R169). -/
def State.enterSite (s : State) (x : SiteState) : State :=
  (s.setSite { s.site with state := x }).recompose s

/-- The state SITE_RUN's value asks for. -/
def runTarget (n : Nat) : Option SiteState :=
  if n = 0 then some .standby else if n = 1 then some .weighing else none

/-- The site controller's part of SITE_RUN (R169): in NOPROFILE on and off are refused, and in every state any other
value is BAD_VALUE. -/
def siteRunOwner (payload : List Byte) (s : State) : State × Answer :=
  match runTarget (byte0 payload) with
  | none => (s, .refused .badValue 0 0)
  | some x =>
    if s.site.state = .noProfile then (s, .refused .noProfile 0 0)
    else (s.enterSite x, .ok (leBytes 1 x.code))

/-- SITE_RUN (R169). -/
def execSiteRun (p : Port) (tag : Byte) (payload : List Byte) (s : State) : Host.Outcome State Fault Refusal :=
  whileRunning s (s.takeRequest .siteRun p tag payload (siteRunOwner payload))

/-- A lane's closure is set, and activation is recomposed (R38). -/
def State.setClosure (s : State) (l : LaneIx) (closed : Bool) : State :=
  (s.setSite { s.site with closed := s.site.closed.set l closed }).recompose s

/-- The site controller's part of LANE_SET (R38). -/
def laneSetOwner (payload : List Byte) (s : State) : State × Answer :=
  match parseLane (byte0 payload), parseBool (byte1 payload) with
  | some (some l), some closed => (s.setClosure l closed, .ok (leBytes 1 (bitIf closed 0)))
  | _, _ => (s, .refused .badValue 0 0)

/-- LANE_SET (R38). -/
def execLaneSet (p : Port) (tag : Byte) (payload : List Byte) (s : State) : Host.Outcome State Fault Refusal :=
  whileRunning s (s.takeRequest .laneSet p tag payload (laneSetOwner payload))

/-- The site controller's part of TIME_SET (R172). The running millisecond begins afresh: log 7. -/
def timeSetOwner (payload : List Byte) (s : State) : State × Answer :=
  (s.setSite { s.site with time := BitVec.ofNat 48 (fieldAt payload 0 6), timePhase := 0, epochSet := true }, .ok [])

/-- TIME_SET (R172). -/
def execTimeSet (p : Port) (tag : Byte) (payload : List Byte) (s : State) : Host.Outcome State Fault Refusal :=
  whileRunning s (s.takeRequest .timeSet p tag payload (timeSetOwner payload))

/-- The result of IDENT (R173; chapter 9, Reply results). -/
def State.identResult (s : State) : List Byte :=
  leBytes 1 s.site.cause.code ++ leBytes 1 s.site.state.code
    ++ leBytes 1 (bitIf s.site.storeLost 0 + bitIf s.site.strapOpen 1 + bitIf s.prof.locked 2 + bitIf s.prof.lockPending 3)
    ++ leBytes 4 s.prof.audit ++ leBytes 4 s.prof.boot ++ leBytes 4 s.prof.generation
    ++ leBytes 4 s.prof.active.site.siteNumber

/-- IDENT (R173). -/
def execIdent (p : Port) (tag : Byte) (payload : List Byte) (s : State) : Host.Outcome State Fault Refusal :=
  whileRunning s (s.takeRequest .ident p tag payload (fun t => (t, .ok t.identResult)))

/-- The site controller's part of RESTART (R171): a second one while one is pending changes nothing. -/
def restartOwner (s : State) : State × Answer :=
  match s.site.restart with
  | none => (s.setSite { s.site with restart := some { replySent := false } }, .restart true)
  | some _ => (s, .restart false)

/-- RESTART (R171). -/
def execRestart (p : Port) (tag : Byte) (payload : List Byte) (s : State) : Host.Outcome State Fault Refusal :=
  whileRunning s (s.takeRequest .restart p tag payload restartOwner)

/-! ### Start values (R22, R40, R43, R61, R81, R132, R149, R170) -/

/-- What every start does to the blocks, whatever its kind: all but the store, the sequence counter, the profile store's
kept values and the ports. -/
def State.startBlocks (s : State) (cause : StartCause) : State :=
  { s with
    strip := { channels := Vector.replicate 24 startChannel, leakStart := s.now },
    loops := s.loops.map LaneMonitor.atStart,
    temp := startTemp,
    former := startFormer,
    asm := { frames := Vector.replicate 6 none, lastMean := Vector.replicate 6 none, seq := s.asm.seq },
    cal := s.cal.map startLaneCal,
    prof := { s.prof with replaced := none, claim := none, lockPending := false },
    site := { state := .init, cause := cause, storeLost := false, strapOpen := s.site.strapOpen, restart := none,
              closed := Vector.replicate 6 false, time := 0, timePhase := 0, epochSet := false } }

/-- A write cut short leaves a torn image (R166). -/
def ProfileStore.cutShort (x : ProfileStore) : Medium :=
  match x.write with
  | some _ => .torn
  | none => x.medium

/-- The start values at a power-on and at a line reset (R132, R152, R166, R186). -/
def State.hardStart (s : State) (cause : StartCause) : State :=
  let t := s.startBlocks cause
  { t with
    asm := { t.asm with seq := 1 },
    store := [],
    prof := { t.prof with
      generation := 0, reasons := noReasons, write := none, writeFault := false, medium := s.prof.cutShort },
    site := { t.site with strapOpen := false },
    ports := { cab := startPort .cab, svc := startPort .svc, stream := false } }

/-! ### The image check (R164, R170, R171) -/

/-- The image, if it is good (R164). -/
def Medium.goodImage : Medium → Option Image
  | .holds i => if profileGood i.profile then some i else none
  | .blank | .torn | .failed => none

/-- The blocks begin at the end of the image check: channels settle, the loops are read, the first pass starts
(R170). -/
def State.beginBlocks (s : State) : State :=
  let t := s.startChannels
  (t.setLoops (t.loops.map (fun m => m.readAtStart t.now))).startProbes

/-- The lane factors an image holds (R149). -/
def imageCal (i : Image) : Vector LaneCal 6 :=
  i.cal.map (fun c =>
    { window := [], anchor := none, fA := c.fA, updates := c.updates, limit := c.limit, outcome := none })

/-- The bad image's outcome (R170): the default set, factors 4,096, the lock clear, audit and boot count 0, NOPROFILE
and STORE_LOST. -/
def State.loseStore (s : State) : State :=
  { s with
    prof := { s.prof with active := defaultProfile, locked := false, audit := 0, boot := 0 },
    cal := Vector.replicate 6 defaultLaneCal,
    site := { s.site with state := .noProfile, storeLost := true } }

/-- The good image's outcome at a power-on or line reset (R168, R170): the image's values after the strap's clearing,
the boot count raised, and BOOT placed. The site stays in INIT. -/
def State.loadImage (s : State) (i : Image) (strap : Bool) : State :=
  { s with
    prof := { s.prof with
      active := i.profile, locked := i.locked && !strap,
      audit := if strap && i.locked then satSucc countLimit i.audit else i.audit,
      boot := satSucc countLimit i.boot, reasons := s.prof.reasons.put true .boot },
    cal := imageCal i }

/-- The image check of a power-on or line reset, with the strap read first (R168, R170). -/
def State.checkAtPower (s : State) (strap : Bool) : State :=
  let t := s.setSite { s.site with strapOpen := strap }
  (match t.prof.medium.goodImage with
    | some i => t.loadImage i strap
    | none => t.loseStore).beginBlocks

/-- The image check of a restart (R171): no strap, no BOOT write, and lock, audit count and boot count kept on a good
image; the generation rises by one on a bad one. -/
def State.checkAtRestart (s : State) : State :=
  (match s.prof.medium.goodImage with
    | some i =>
      { s with
        prof := { s.prof with active := i.profile },
        cal := imageCal i,
        site := { s.site with state := .standby } }
    | none =>
      let t := s.loseStore
      t.setProf { t.prof with generation := satSucc countLimit t.prof.generation }).beginBlocks

/-! ### The starts -/

/-- A power-on with the strap at a level. -/
def State.powerUp (s : State) (strap : Bool) : State :=
  if s.heldLow then s.hardStart .power
  else (s.hardStart .power).checkAtPower strap

/-- POWER_ON (R170). With RESET_N held low the part stays at its start values until the line is released (log 16). -/
def execPowerOn (strap : Bool) (s : State) : Host.Outcome State Fault Refusal :=
  .next (s.powerUp strap)

/-- LINE_RESET (R170): RESET_N is released, and the start is taken. -/
def execLineReset (strap : Bool) (s : State) : Host.Outcome State Fault Refusal :=
  .next (((s.hardStart .line).setHeldLow false).checkAtPower strap)

/-- RESET_N_HELD_LOW (R170): the part stays at its start values and does nothing. -/
def execResetNHeldLow (s : State) : Host.Outcome State Fault Refusal :=
  .next ((s.hardStart .line).setHeldLow true)

/-- A port at a restart (R171, R177, R186): its receiver enters HUNT, its reply list is emptied and a held PROBE_NOW is
dropped. Its state is set when a frame being sent has been sent, at once if there is none (log 20). -/
def PortState.atRestart (p : Port) (x : PortState) : PortState :=
  if x.tx.isNone then startPort p
  else { x with rx := .hunt, replies := [], deferred := none, setAfterFrame := true }

/-- The moment of a pending restart (R171): its reply has been sent, no write is in progress and no reason waits. -/
def State.restartDue (s : State) : Bool :=
  (match s.site.restart with
    | some r => r.replySent
    | none => false) && s.prof.write.isNone && s.prof.reasons.first.isNone

/-- The restart (R171): every block takes its start values but for the store, the sequence counter, the generation and
the write-fault mark; the image check follows. -/
def State.restartNow (s : State) : State :=
  let t := s.startBlocks .restart
  (t.setPorts { cab := s.ports.cab.atRestart .cab, svc := s.ports.svc.atRestart .svc, stream := false }).checkAtRestart

/-- RESTART_TAKES_PLACE (R171). -/
def execRestartTakesPlace (s : State) : Host.Outcome State Fault Refusal :=
  whenDue s s.restartDue s.restartNow

end Sys2Proof.Machine
end

