-- ==== Sys2Proof/Machine/Store.lean ====
section
/-! DEFINITION. The record store's requests (chapter 6): TAKE, PEEK and STREAM, and the layout of a vehicle record
(chapter 9, Vehicle record). -/

namespace Sys2Proof.Machine

open Sys2Proof

/-! ### The layout of a record -/

/-- The code of a temperature status (chapter 9). -/
def TempStatus.code : TempStatus → Nat
  | .none => 0
  | .live => 1
  | .held => 2
  | .stale => 3

/-- One axle entry, 17 bytes. -/
def axleEntryBytes (a : AxleEntry) : List Byte :=
  leBytes 1 (bitIf a.speed.isSome 0 + bitIf a.load.isSome 1 + bitIf a.left.isSome 2 + bitIf a.right.isSome 3
      + bitIf a.spacing.isSome 4)
    ++ leBytes 2 (orZero a.speed) ++ leBytes 2 (orZero a.load) ++ leBytes 2 (orZero a.left) ++ leBytes 2 (orZero a.right)
    ++ leBytes 2 (orZero a.spacing) ++ leSigned 2 a.tempUsed ++ leBytes 4 a.flags.toNat

/-- A vehicle record, 43 bytes and 17 for each axle. -/
def recordBytes (r : VehicleRec) : List Byte :=
  leBytes 4 r.boot ++ leBytes 4 r.seq.toNat ++ leBytes 1 (r.lane.val + 1) ++ leBytes 1 r.axles.length
    ++ leBytes 1 r.classCode ++ leBytes 1 (bitIf r.meanSpeed.isSome 0 + bitIf r.length.isSome 1 + bitIf r.gross.isSome 2)
    ++ leBytes 6 r.openSite.toNat ++ leBytes 6 r.closeSite.toNat ++ leBytes 2 (orZero r.meanSpeed)
    ++ leBytes 2 (orZero r.length) ++ leBytes 4 (orZero r.gross) ++ leSigned 2 r.tempUsed ++ leBytes 1 r.tempStatus.code
    ++ leBytes 4 r.generation ++ leBytes 4 r.flags.toNat ++ r.axles.flatMap axleEntryBytes

/-- The size of a record of n axles (chapter 9, THE REQUESTS). -/
def VehicleRec.size (r : VehicleRec) : Nat :=
  43 + 17 * r.axles.length

/-- The oldest records that fit whole in `budget` bytes, up to `n` (R128, R130). -/
def carried : Nat → Nat → List VehicleRec → List VehicleRec
  | _, _, [] => []
  | _, 0, _ :: _ => []
  | budget, n + 1, r :: rest => if r.size ≤ budget then r :: carried (budget - r.size) n rest else []

/-- Records in their layout, one after another. -/
def recordsBytes (rs : List VehicleRec) : List Byte :=
  rs.flatMap recordBytes

/-! ### TAKE (R128) -/

/-- The bytes a TAKE reply has for records (chapter 9). -/
def takeBudget : Nat := 1021

/-- The records a TAKE of `n` carries. -/
def State.takes (s : State) (n : Nat) : List VehicleRec :=
  carried takeBudget n s.store

/-- The record store's part of TAKE. -/
def takeOwner (payload : List Byte) (s : State) : State × Answer :=
  let n := byte0 payload
  if 1 ≤ n ∧ n ≤ 48 then
    let out := s.takes n
    let left := s.store.drop out.length
    (s.setStore left, .ok (leBytes 1 out.length ++ leBytes 1 left.length ++ recordsBytes out))
  else (s, .refused .badValue 0 0)

/-- TAKE (R128). -/
def execTake (p : Port) (tag : Byte) (payload : List Byte) (s : State) : Host.Outcome State Fault Refusal :=
  whileRunning s (s.takeRequest .take p tag payload (takeOwner payload))

/-! ### PEEK (R130) -/

/-- The bytes a PEEK reply has for records (chapter 9). -/
def peekBudget : Nat := 1017

/-- The sequence number of the oldest record, 0 when the store is empty (chapter 9). -/
def oldestSeq (rs : List VehicleRec) : Nat :=
  match rs.head? with
  | some r => r.seq.toNat
  | none => 0

/-- The sequence number of the youngest record, 0 when the store is empty. -/
def youngestSeq (rs : List VehicleRec) : Nat :=
  match rs.getLast? with
  | some r => r.seq.toNat
  | none => 0

/-- The record store's part of PEEK: nothing leaves the store. -/
def peekOwner (payload : List Byte) (s : State) : State × Answer :=
  let pos := byte0 payload
  let n := byte1 payload
  if pos ≤ 47 ∧ 1 ≤ n ∧ n ≤ 48 then
    let out := carried peekBudget n (s.store.drop pos)
    (s, .ok (leBytes 1 s.store.length ++ leBytes 4 (oldestSeq s.store) ++ leBytes 1 out.length ++ recordsBytes out))
  else (s, .refused .badValue 0 0)

/-- PEEK (R130). -/
def execPeek (p : Port) (tag : Byte) (payload : List Byte) (s : State) : Host.Outcome State Fault Refusal :=
  whileRunning s (s.takeRequest .peek p tag payload (peekOwner payload))

/-! ### STREAM (R129) -/

/-- The part of STREAM that sets the cabinet link's stream flag. -/
def streamOwner (payload : List Byte) (s : State) : State × Answer :=
  match parseBool (byte0 payload) with
  | some on => (s.setPorts { s.ports with stream := on }, .ok (leBytes 1 (bitIf on 0)))
  | none => (s, .refused .badValue 0 0)

/-- STREAM (R129). -/
def execStream (p : Port) (tag : Byte) (payload : List Byte) (s : State) : Host.Outcome State Fault Refusal :=
  whileRunning s (s.takeRequest .stream p tag payload (streamOwner payload))

end Sys2Proof.Machine
end

