-- ==== Sys2Proof/Machine/Status.lean ====
section
/-! DEFINITION. STATUS (R180): the 693-byte reply with the state of every block, and the clearing of the asking port's
events (chapter 9, STATUS result). -/

namespace Sys2Proof.Machine

open Sys2Proof

/-! ### The blocks, in the order of the layout -/

/-- Channel state codes. -/
def ChanState.code : ChanState → Nat
  | .off => 0
  | .settling => 1
  | .normal => 2
  | .degraded => 3
  | .dead => 4

/-- A channel, 9 bytes (R19). -/
def Channel.status (ch : Channel) : List Byte :=
  leBytes 1 ch.state.code ++ leBytes 1 (bitIf ch.baseline.isSome 0) ++ leSigned 2 (ch.baseline.getD 0)
    ++ leBytes 2 ch.bucket ++ leBytes 1 ch.miss ++ leBytes 2 ch.discard

/-- Filtered state codes. -/
def Filtered.code : Filtered → Nat
  | .free => 0
  | .occupied => 1
  | .stuck => 2

/-- The two loops of a lane, 1 byte each (R41). -/
def LaneMonitor.loopStatus (m : LaneMonitor) : List Byte :=
  leBytes 1 m.up.filtered.code ++ leBytes 1 m.down.filtered.code

/-- Presence state codes. -/
def Presence.code : Presence → Nat
  | .idle => 0
  | .entering => 1
  | .spanning => 2
  | .leaving => 3
  | .reverse => 4

/-- A lane, 6 bytes (R41). -/
def State.laneStatus (s : State) (l : LaneIx) : List Byte :=
  let m := s.loops[l]
  leBytes 1 m.presence.code
    ++ leBytes 1 (bitIf m.congested 0 + bitIf s.site.closed[l] 1 + bitIf (s.laneActive l) 2 + bitIf m.speed.isSome 3
      + bitIf m.lastLength.isSome 4)
    ++ leBytes 2 (orZero (m.speed.map (·.1))) ++ leBytes 2 (orZero m.lastLength)

/-- The code of a converter input: probe 0 to 7, 8 ZREF. -/
def ConvInput.code : ConvInput → Nat
  | .probe p => p.val
  | .zref => 8

/-- The converter, 11 bytes (R60). -/
def TempUnit.converterStatus (t : TempUnit) : List Byte :=
  leBytes 1 (bitIf t.conv.isSome 0) ++ leBytes 1 ((t.conv.map (fun c => c.input.code)).getD 255)
    ++ leBytes 1 ((t.slot.map (fun r => r.probe.val)).getD 255)
    ++ leBytes 1 (bitIf t.zeroFault 0 + bitIf t.lastZero.isSome 1 + bitIf t.passInProgress 2)
    ++ leSigned 1 t.offset ++ leSigned 2 (t.lastZero.getD 0) ++ leBytes 2 t.zeroFaults ++ leBytes 2 t.late

/-- A probe, 9 bytes (R60). -/
def Probe.status (x : Probe) : List Byte :=
  leBytes 1 x.state.code ++ leBytes 1 (bitIf x.lastRaw.isSome 0 + bitIf x.filtered.isSome 1) ++ leBytes 2 (orZero x.lastRaw)
    ++ leBytes 1 (orZero (x.lastOutcome.map ProbeOutcome.code)) ++ leBytes 1 x.warm ++ leBytes 1 x.spike
    ++ leSigned 2 (x.filtered.getD 0)

/-- Source codes. -/
def TempSource.code : TempSource → Nat
  | .none => 0
  | .primary => 1
  | .alternate => 2

/-- A lane temperature, 8 bytes (R60). -/
def LaneTemp.statusBytes (t : LaneTemp) : List Byte :=
  leBytes 1 t.status.code ++ leBytes 1 t.source.code ++ leSigned 2 (t.temp.getD 0) ++ leBytes 4 t.holdAge

/-- The pending lists, 24 bytes (R82). -/
def AxleFormer.waitingStatus (f : AxleFormer) : List Byte :=
  (f.waitA.toList ++ f.waitB.toList).flatMap (fun hs => leBytes 1 hs.length)

/-- A lane of the axle former, 3 bytes (R82). -/
def AxleFormer.laneStatus (f : AxleFormer) (l : LaneIx) : List Byte :=
  leBytes 1 f.candidates[l].length ++ leBytes 2 f.late[l]

/-- A lane of the assembler, 10 bytes (R133). -/
def Assembler.laneStatus (a : Assembler) (l : LaneIx) : List Byte :=
  let f := a.frames[l]
  let mean := a.lastMean[l]
  leBytes 1 (bitIf f.isSome 0 + bitIf (f.bind (·.length)).isSome 1 + bitIf mean.isSome 2)
    ++ leBytes 1 (orZero (f.map (fun x => x.axles.length))) ++ leBytes 6 (orZero (f.map (fun x => x.openSite.toNat)))
    ++ leBytes 2 (orZero mean)

/-- The store and the counter, 17 bytes (R133). -/
def State.storeStatus (s : State) : List Byte :=
  leBytes 1 s.store.length ++ leBytes 2 (slotsUsed s.store) ++ leBytes 4 (oldestSeq s.store)
    ++ leBytes 4 (youngestSeq s.store) ++ leBytes 1 s.prof.active.site.highWater ++ leBytes 4 s.asm.seq.toNat
    ++ leBytes 1 (bitIf s.ports.stream 0)

/-- Offer outcome codes. -/
def OfferOutcome.code : OfferOutcome → Nat
  | .disabled => 0
  | .classTest => 1
  | .speedTest => 2
  | .grossTest => 3
  | .flagsTest => 4
  | .temperatureTest => 5
  | .loadTest => 6
  | .admitted => 7
  | .restarted => 8
  | .updated => 9

/-- A lane of the auto-calibration unit, 15 bytes (R150). -/
def LaneCal.status (c : LaneCal) : List Byte :=
  leBytes 2 c.fA ++ leBytes 2 c.updates
    ++ leBytes 1 (bitIf c.limit 0 + bitIf c.anchor.isSome 1 + bitIf c.outcome.isSome 2) ++ leBytes 1 c.window.length
    ++ leSigned 2 (c.anchor.getD 0) ++ leBytes 6 (orZero (c.window.head?.map (fun e => e.site.toNat)))
    ++ leBytes 1 (orZero (c.outcome.map OfferOutcome.code))

/-- Claim owner codes. -/
def ownerCode : Option Port → Nat
  | none => 0
  | some .cab => 1
  | some .svc => 2

/-- The codes of a write in progress; a reason waits at the bit below its code. -/
def Reason.code : Reason → Nat
  | .commit => 1
  | .learned => 2
  | .lock => 3
  | .boot => 4

/-- The whole seconds of ownership time remaining (R156, R173): none without a claim; while the timer is stopped the
manual states no value, and it is a free one (log 3). -/
def State.ownershipSeconds (s : State) : Nat :=
  match s.prof.claim with
  | none => 0
  | some c =>
    match c.timer with
    | some t => (960000 - elapsed t s.now) / 8000
    | none => (Config.ownershipSecondsWhileStopped s.freeReads).val

/-- The ownership timer is stopped under a claim. -/
def State.ownershipStopped (s : State) : Bool :=
  match s.prof.claim with
  | none => false
  | some c => c.timer.isNone

/-- A commit is in flight (R161, R162), held by its port or not (log 20). -/
def State.commitInFlight (s : State) : Bool :=
  s.prof.claim.any Claim.inFlight

/-- The profile store and the site controller, 8 bytes (R173). STATUS shows the lock and the pending
mark as well (R167); the layout gives them no place, and the model shows them in bits 4 and 5 of the marks (log 31). -/
def State.profileStatus (s : State) : List Byte :=
  let t := s.prof.claim.bind (·.transfer)
  leBytes 1 (ownerCode (s.prof.claim.map (·.owner))) ++ leBytes 1 s.ownershipSeconds
    ++ leBytes 1 (orZero (t.map (fun x => x.sect.code))) ++ leBytes 2 (orZero (t.map (fun x => x.bytes.length)))
    ++ leBytes 1 (bitIf s.commitInFlight 0 + bitIf s.site.restart.isSome 1 + bitIf s.prof.writeFault 2
      + bitIf s.site.epochSet 3 + bitIf s.prof.locked 4 + bitIf s.prof.lockPending 5)
    ++ leBytes 1 (orZero (s.prof.write.map (fun w => w.reason.code)))
    ++ leBytes 1 (bitIf s.prof.reasons.commit 0 + bitIf s.prof.reasons.learned 1 + bitIf s.prof.reasons.lock 2
      + bitIf s.prof.reasons.boot 3)

/-- The six link error counts, in the order of the layout. -/
def LinkCounts.status (c : LinkCounts) : List Byte :=
  leBytes 2 c.gap ++ leBytes 2 c.framing ++ leBytes 2 c.overrun ++ leBytes 2 c.length ++ leBytes 2 c.check
    ++ leBytes 2 c.overflow

/-- The code of a held deferred request. -/
def deferredCode : Option Deferred → Nat
  | none => 0
  | some d => match d.kind with
    | .commit => 1
    | .probeNow => 2

/-- The asking port's own state: events, mask, link errors, deferred request (R180). -/
def PortState.status (x : PortState) : List Byte :=
  x.events.toList.flatMap (fun e => leBytes 1 e.count ++ leBytes 4 e.list.toNat) ++ leBytes 2 x.mask.toNat ++ x.links.status
    ++ leBytes 1 (deferredCode x.deferred)

/-- The result of STATUS on a port: 692 bytes after the status byte (chapter 9, STATUS result). -/
def State.statusResult (s : State) (p : Port) : List Byte :=
  s.strip.channels.toList.flatMap Channel.status
    ++ s.loops.toList.flatMap LaneMonitor.loopStatus
    ++ allLanes.flatMap s.laneStatus
    ++ s.temp.converterStatus
    ++ s.temp.probes.toList.flatMap Probe.status
    ++ s.temp.lanes.toList.flatMap LaneTemp.statusBytes
    ++ s.former.waitingStatus
    ++ allLanes.flatMap s.former.laneStatus
    ++ allLanes.flatMap s.asm.laneStatus
    ++ s.storeStatus
    ++ s.cal.toList.flatMap LaneCal.status
    ++ s.profileStatus
    ++ (s.port p).status

/-! ### STATUS -/

/-- An event cell with nothing pending. -/
def emptyCell : EventCell :=
  { count := 0, list := 0 }

/-- A port's thirteen counts become 0 and its lists empty, whether enabled or not (R180). -/
def PortState.clearEvents (x : PortState) : PortState :=
  { x with events := Vector.replicate 13 emptyCell }

/-- The free value of a stopped ownership timer counts as read (log 3). -/
def State.countFreeRead (s : State) : State :=
  if s.ownershipStopped then s.setFreeReads (s.freeReads + 1) else s

/-- The port engine's part of STATUS: the result is built, then the asking port's events are cleared (R180). -/
def statusOwner (p : Port) (s : State) : State × Answer :=
  ((s.setPort p (s.port p).clearEvents).countFreeRead, .ok (s.statusResult p))

/-- STATUS (R180). -/
def execStatus (p : Port) (tag : Byte) (payload : List Byte) (s : State) : Host.Outcome State Fault Refusal :=
  whileRunning s (s.takeRequest .status p tag payload (statusOwner p))

end Sys2Proof.Machine
end

