-- ==== Sys2Proof/Machine/Ports.lean ====
section
/-! DEFINITION. The two port engines (chapter 9): the taking of a frame, the commands of the receiver, and the
transmitter. -/

namespace Sys2Proof.Machine

open Sys2Proof

/-! ### Taking a frame (R177) -/

/-- The part of a request that belongs to the block that owns it. -/
def ownerOf (k : ReqKind) (p : Port) (payload : List Byte) : State → State × Answer :=
  match k with
  | .ident => fun t => (t, .ok t.identResult)
  | .status => statusOwner p
  | .timeSet => timeSetOwner payload
  | .siteRun => siteRunOwner payload
  | .laneSet => laneSetOwner payload
  | .editBegin => editBeginOwner p
  | .editPut => editPutOwner p payload
  | .editDiscard => editDiscardOwner p
  | .commit => commitOwner p
  | .readSection => readSectionOwner p payload
  | .take => takeOwner payload
  | .peek => peekOwner payload
  | .stream => streamOwner payload
  | .probeNow => probeNowOwner p payload
  | .channelRearm => rearmOwner payload
  | .lock => lockOwner
  | .eventEnable => eventEnableOwner p payload
  | .restart => restartOwner

/-- A frame judged good is taken by its port engine at that moment (R177). -/
def State.takeFrame (s : State) (p : Port) (kind tag : Byte) (payload : List Byte) : State :=
  match requestOfKind kind with
  | none => s.unknownKind p kind tag
  | some k => s.takeRequest k p tag payload (ownerOf k p payload)

/-- A byte received on a port, with what it brings about. -/
def State.receiveByte (s : State) (p : Port) (b : Byte) : State :=
  let x := s.port p
  let t := s.setPort p (x.received b s.now)
  match (x.rx.take b).2 with
  | .none => t
  | .error e => t.linkError p e
  | .frame kind tag payload => t.takeFrame p kind tag payload

/-- RX_BYTE (R175). -/
def execRxByte (p : Port) (b : Byte) (s : State) : Host.Outcome State Fault Refusal :=
  whileRunning s (s.receiveByte p b)

/-- The link error of a byte lost on the line. -/
def RxFault.error : RxFault → LinkError
  | .framing => .framing
  | .overrun => .overrun

/-- Any frame in progress is abandoned: the receiver enters HUNT. -/
def State.abandonFrame (s : State) (p : Port) : State :=
  s.setPort p (s.port p).abandoned

/-- RX_LINE_ERROR (R175): counted in HUNT in the same way. -/
def execRxLineError (p : Port) (e : RxFault) (s : State) : Host.Outcome State Fault Refusal :=
  whileRunning s ((s.abandonFrame p).linkError p (RxFault.error e))

/-- 10 ms have passed on a port since the last byte of a frame in progress (R175). -/
def State.gapDue (s : State) (p : Port) : Bool :=
  (s.port p).gapDue s.now

/-- RX_GAP_TIMEOUT (R175). -/
def execRxGapTimeout (p : Port) (s : State) : Host.Outcome State Fault Refusal :=
  whenDue s (s.gapDue p) ((s.abandonFrame p).linkError p .gap)

/-! ### The transmitter (R183 to R186) -/

/-- A port begins a frame. -/
def PortState.send (x : PortState) (now : Tick) (bytes : List Byte) (endsRestart : Bool) : PortState :=
  { x with tx := some { bytes := bytes, start := now, endsRestart := endsRestart } }

/-- The reply an idle transmitter begins: the head of the reply list (R184). -/
def PortState.nextReply (x : PortState) : Option Reply :=
  match x.tx with
  | some _ => none
  | none => x.replies.head?

/-- The head of the reply list is begun. -/
def State.sendReply (s : State) (p : Port) (r : Reply) : State :=
  let x := s.port p
  s.setPort p (({ x with replies := x.replies.tail }).send s.now (frameBytes r.kind r.tag r.payload) r.endsRestart)

/-- REPLY_SEND (R184). -/
def execReplySend (p : Port) (s : State) : Host.Outcome State Fault Refusal :=
  whileRunning s (match (s.port p).nextReply with
    | some r => s.sendReply p r
    | none => s)

/-- A class is enabled on the port with a count above 0 (R183). -/
def PortState.classDue (x : PortState) (i : Fin 13) : Bool :=
  x.mask.getLsbD i.val && decide (0 < x.events[i].count)

/-- The classes an EVENT frame lists, in ascending code (R183). -/
def PortState.dueClasses (x : PortState) : List (Fin 13) :=
  (List.finRange 13).filter x.classDue

/-- The entry of a class in an EVENT frame (chapter 9, Event payload). -/
def PortState.eventEntry (x : PortState) (i : Fin 13) : List Byte :=
  leBytes 1 (i.val + 1) ++ leBytes 1 x.events[i].count ++ leBytes 4 x.events[i].list.toNat

/-- The payload of an EVENT frame. -/
def PortState.eventPayload (x : PortState) : List Byte :=
  leBytes 1 x.dueClasses.length ++ x.dueClasses.flatMap x.eventEntry

/-- The classes an EVENT frame carries become 0 and their lists empty (R181, R183). -/
def PortState.clearDue (x : PortState) : PortState :=
  { x with events := Vector.ofFn (fun i => if x.classDue i then emptyCell else x.events[i]) }

/-- An EVENT frame goes next on this port: the transmitter is idle, no reply waits, and some enabled class is pending
(R183, R184). -/
def PortState.eventNext (x : PortState) : Bool :=
  x.tx.isNone && x.replies.isEmpty && !x.dueClasses.isEmpty

/-- EVENT_FRAME (R183): built as it is begun, KIND 0x41, TAG 0. -/
def execEventFrame (p : Port) (s : State) : Host.Outcome State Fault Refusal :=
  let x := s.port p
  whenDue s x.eventNext (s.setPort p (x.clearDue.send s.now (frameBytes 0x41 0 x.eventPayload) false))

/-- The record a VEHICLE frame would carry next (R129, R184, R185): on an idle cabinet link with no reply and no EVENT
frame before it, the stream flag on, outside INIT, the oldest record. -/
def State.vehicleNext (s : State) : Option VehicleRec :=
  let x := s.ports.cab
  if x.tx.isNone && x.replies.isEmpty && x.dueClasses.isEmpty && s.ports.stream && decide (s.site.state ≠ .init) then
    s.store.head?
  else none

/-- VEHICLE_FRAME (R185): the oldest record leaves the store as its frame is begun, KIND 0x40, TAG 0. -/
def execVehicleFrame (s : State) : Host.Outcome State Fault Refusal :=
  whileRunning s (match s.vehicleNext with
    | some r =>
      (s.setStore s.store.tail).setPort .cab (s.ports.cab.send s.now (frameBytes 0x40 0 (recordBytes r)) false)
    | none => s)

/-- The pending restart has had its reply sent whole (R171, R186). -/
def SiteCtl.replySent (x : SiteCtl) : SiteCtl :=
  { x with restart := x.restart.map (fun _ => { replySent := true }) }

/-- The immediate-request slot without a request of the port (R48). -/
def TempUnit.withoutRequestOf (x : TempUnit) (p : Port) : TempUnit :=
  { x with slot := x.slot.filter (fun r => decide (r.port ≠ p)) }

/-- A port a restart has passed over is set as at a power-on (R186): the cabinet link's stream flag goes off with it. What
becomes of a request taken since the restart is the model's choice (log 20): a PROBE_NOW is dropped and its slot emptied; a
RESTART whose reply is emptied from the list stays pending (R171) and waits for that reply no longer; a COMMIT loses its hold
and its reply, and goes on. -/
def State.setPassedPort (s : State) (p : Port) : State :=
  let losesRestartReply := (s.port p).replies.any (fun r => r.endsRestart)
  let t := ((s.setPort p (startPort p)).setTemp (s.temp.withoutRequestOf p)).setSite
    (if losesRestartReply then s.site.replySent else s.site)
  match p with
  | .cab => t.setPorts { t.ports with stream := false }
  | .svc => t

/-- A frame has been sent whole: the transmitter is idle; a port a restart has passed over takes its start state (R186),
and the restart's own reply lets it take place (R171). -/
def State.frameSent (s : State) (p : Port) (f : Sending) : State :=
  let x := s.port p
  let t := if x.setAfterFrame then s.setPassedPort p else s.setPort p { x with tx := none }
  if f.endsRestart then t.setSite t.site.replySent else t

/-- TRANSMIT_COMPLETE (R184): the last byte of the frame being sent has left. -/
def execTransmitComplete (p : Port) (s : State) : Host.Outcome State Fault Refusal :=
  whileRunning s (match (s.port p).tx with
    | some f => s.frameSent p f
    | none => s)

/-- The ticks times the line rate have carried a frame's bytes, 10 bits a byte (chapter 9, the ports; R184; log 13). -/
def lineCarried : Port → Nat → Nat → Bool
  | .cab, bytes, ticks => decide (100 * bytes ≤ 576 * ticks)
  | .svc, bytes, ticks => decide (100 * bytes ≤ 144 * ticks)

/-- The frame being sent has left the line by now. -/
def State.sentByNow (s : State) (p : Port) : Bool :=
  match (s.port p).tx with
  | some f => lineCarried p f.bytes.length (elapsed f.start s.now)
  | none => false

end Sys2Proof.Machine
end

