-- ==== Sys2Proof/Machine/Clock.lean ====
section
/-! DEFINITION. The part's own clock: which of its own events is due while no command waits, and the passing of a tick
(log 1). -/

namespace Sys2Proof.Machine

open Sys2Proof

/-- The two loops of a lane. -/
def bothLoops : List LoopPos :=
  [.up, .down]

/-- The two ports. -/
def bothPorts : List Port :=
  [.cab, .svc]

/-- The two rows. -/
def bothRows : List StripRow :=
  [.rowA, .rowB]

/-- The events of the loop monitor for a lane, each with whether it is due. -/
def State.loopEvents (s : State) (l : LaneIx) : List (Bool × Instr) :=
  bothLoops.map (fun d => ((s.acceptedChange l d).isSome, .loopChangeAccept l d))
    ++ bothLoops.map (fun d => (s.stuckDue l d, .stuckExpiry l d))
    ++ [(s.loopSpeedDue l, .loopSpeedExpiry l), (s.stallDue l, .stallExpiry l), (s.clearDue l, .clearExpiry l)]

/-- The end of a frame and the next reply of a port. They come before a restart of the same tick, so that a reply placed
while the transmitter is free is begun, and is then sent whole (R171, R184, R186; log 20). -/
def State.replyEvents (s : State) (p : Port) : List (Bool × Instr) :=
  [(s.sentByNow p, .transmitComplete p), ((s.port p).nextReply.isSome, .replySend p)]

/-- The other events of a port. -/
def State.portEvents (s : State) (p : Port) : List (Bool × Instr) :=
  [(s.gapDue p, .rxGapTimeout p), ((s.port p).eventNext, .eventFrame p)]

/-- Every event the part's own clock can bring about, in the order in which those of one tick are taken (log 1). -/
def State.clockEvents (s : State) : List (Bool × Instr) :=
  [(s.dueWrite.isSome, .imageWriteStart)]
    ++ bothPorts.flatMap s.replyEvents
    ++ [(s.restartDue, .restartTakesPlace)]
    ++ allLanes.flatMap s.loopEvents
    ++ [(s.leakDue, .bucketLeak)]
    ++ allLanes.map (fun l => (s.staleDue l, .holdAgeStale l))
    ++ [(s.passDue, .passStart)]
    ++ bothRows.flatMap (fun r => allPositions.map (fun q => ((s.leadingExpired r q).isSome, .leadingHitExpiry r q)))
    ++ allLanes.map (fun l => ((s.overdueCandidate l).isSome, .candidateDeadline l))
    ++ allLanes.map (fun l => (s.presenceCloseDue l, .presenceClose l))
    ++ allLanes.map (fun l => (s.frameTimeoutDue l, .frameTimeout l))
    ++ [(s.ownershipDue, .ownershipTimeout)]
    ++ bothPorts.flatMap s.portEvents
    ++ [(s.vehicleNext.isSome, .vehicleFrame)]

/-- The event the clock brings about now, if any. A part held in reset does nothing (R170). -/
def State.dueEvent (s : State) : Option Instr :=
  if s.heldLow then none else (s.clockEvents.find? (·.1)).map (·.2)

/-- Site time advances by one every 8 ticks and wraps at 2^48 (R172). -/
def SiteCtl.tick (x : SiteCtl) : SiteCtl :=
  if 7 ≤ x.timePhase then { x with time := x.time + 1, timePhase := 0 }
  else { x with timePhase := x.timePhase + 1 }

/-- The age at which the start of a lane's presence condition is moved on. -/
def idleAgeLimit : Nat := 2 ^ 30

/-- The start of the presence condition (R36) moves on by 2^29 ticks once it lies 2^30 ticks back, so that every
difference formed from it stays below 2^31 (00_scope, Time; log 5). No close delay reaches that far. -/
def LaneMonitor.tick (now : Tick) (m : LaneMonitor) : LaneMonitor :=
  match m.idleSince with
  | some t => if idleAgeLimit ≤ elapsed t now then { m with idleSince := some (t + 536870912) } else m
  | none => m

/-- One tick of 125 microseconds passes: the tick count, site time, the hold ages and the ages of the presence
conditions; a commit is then no longer one of this tick. A part held in reset does nothing (R170). -/
def State.tick (s : State) : State :=
  if s.heldLow then s
  else ((((s.setNow (s.now + 1)).setSite s.site.tick).setTemp
      { s.temp with lanes := s.temp.lanes.map LaneTemp.tick }).setLoops (s.loops.map (LaneMonitor.tick s.now))).setProf
    { s.prof with replaced := none }

end Sys2Proof.Machine
end

