-- ==== Sys2Proof/Machine/Dispatch.lean ====
section
/-! DEFINITION. One meaning for every command. -/

namespace Sys2Proof.Machine

open Sys2Proof

def exec (i : Instr) (s : State) : Host.Outcome State Fault Refusal :=
  match i with
  | .powerOn strap => Sys2Proof.Machine.execPowerOn strap s
  | .lineReset strap => Sys2Proof.Machine.execLineReset strap s
  | .stripSample c x => Sys2Proof.Machine.execStripSample c x s
  | .settlingComplete c x => Sys2Proof.Machine.execSettlingComplete c x s
  | .hitEnd c x => Sys2Proof.Machine.execHitEnd c x s
  | .hitLong c x => Sys2Proof.Machine.execHitLong c x s
  | .recoveryEnd c x => Sys2Proof.Machine.execRecoveryEnd c x s
  | .bucketLeak => Sys2Proof.Machine.execBucketLeak s
  | .channelRearm p tag payload => Sys2Proof.Machine.execChannelRearm p tag payload s
  | .loopLineChange l d high => Sys2Proof.Machine.execLoopLineChange l d high s
  | .loopChangeAccept l d => Sys2Proof.Machine.execLoopChangeAccept l d s
  | .stuckExpiry l d => Sys2Proof.Machine.execStuckExpiry l d s
  | .loopSpeedExpiry l => Sys2Proof.Machine.execLoopSpeedExpiry l s
  | .stallExpiry l => Sys2Proof.Machine.execStallExpiry l s
  | .clearExpiry l => Sys2Proof.Machine.execClearExpiry l s
  | .laneSet p tag payload => Sys2Proof.Machine.execLaneSet p tag payload s
  | .passStart => Sys2Proof.Machine.execPassStart s
  | .conversionComplete code => Sys2Proof.Machine.execConversionComplete code s
  | .probeNow p tag payload => Sys2Proof.Machine.execProbeNow p tag payload s
  | .holdAgeStale l => Sys2Proof.Machine.execHoldAgeStale l s
  | .leadingHitExpiry r q => Sys2Proof.Machine.execLeadingHitExpiry r q s
  | .candidateDeadline l => Sys2Proof.Machine.execCandidateDeadline l s
  | .presenceClose l => Sys2Proof.Machine.execPresenceClose l s
  | .frameTimeout l => Sys2Proof.Machine.execFrameTimeout l s
  | .take p tag payload => Sys2Proof.Machine.execTake p tag payload s
  | .stream p tag payload => Sys2Proof.Machine.execStream p tag payload s
  | .peek p tag payload => Sys2Proof.Machine.execPeek p tag payload s
  | .ident p tag payload => Sys2Proof.Machine.execIdent p tag payload s
  | .status p tag payload => Sys2Proof.Machine.execStatus p tag payload s
  | .timeSet p tag payload => Sys2Proof.Machine.execTimeSet p tag payload s
  | .siteRun p tag payload => Sys2Proof.Machine.execSiteRun p tag payload s
  | .editBegin p tag payload => Sys2Proof.Machine.execEditBegin p tag payload s
  | .editPut p tag payload => Sys2Proof.Machine.execEditPut p tag payload s
  | .editDiscard p tag payload => Sys2Proof.Machine.execEditDiscard p tag payload s
  | .readSection p tag payload => Sys2Proof.Machine.execReadSection p tag payload s
  | .commit p tag payload => Sys2Proof.Machine.execCommit p tag payload s
  | .ownershipTimeout => Sys2Proof.Machine.execOwnershipTimeout s
  | .imageWriteStart => Sys2Proof.Machine.execImageWriteStart s
  | .imageWriteComplete agrees => Sys2Proof.Machine.execImageWriteComplete agrees s
  | .lock p tag payload => Sys2Proof.Machine.execLock p tag payload s
  | .restart p tag payload => Sys2Proof.Machine.execRestart p tag payload s
  | .restartTakesPlace => Sys2Proof.Machine.execRestartTakesPlace s
  | .eventEnable p tag payload => Sys2Proof.Machine.execEventEnable p tag payload s
  | .unknownKindRequest p kind tag payload => Sys2Proof.Machine.execUnknownKindRequest p kind tag payload s
  | .rxByte p b => Sys2Proof.Machine.execRxByte p b s
  | .rxLineError p e => Sys2Proof.Machine.execRxLineError p e s
  | .rxGapTimeout p => Sys2Proof.Machine.execRxGapTimeout p s
  | .replySend p => Sys2Proof.Machine.execReplySend p s
  | .eventFrame p => Sys2Proof.Machine.execEventFrame p s
  | .vehicleFrame => Sys2Proof.Machine.execVehicleFrame s
  | .transmitComplete p => Sys2Proof.Machine.execTransmitComplete p s
  | .resetNHeldLow => Sys2Proof.Machine.execResetNHeldLow s

end Sys2Proof.Machine
end

