-- ==== Sys2Proof/Safety.lean ====
section
/-! DEFINITION. The terms in which claims are made: what a command leaves unchanged, the limits the manual sets, and runs
that do not stop. -/

namespace Sys2Proof.Machine

open Sys2Proof

/-! ### Frames -/

/-- The parts of the state. -/
inductive Block where
  | pending
  | now
  | heldLow
  | strip
  | loops
  | temp
  | former
  | asm
  | store
  | cal
  | prof
  | site
  | ports
  | freeReads
deriving DecidableEq, Repr

/-- A part of the state is the same in both states. -/
def Block.same (b : Block) (s t : State) : Prop :=
  match b with
  | .pending => t.pending = s.pending
  | .now => t.now = s.now
  | .heldLow => t.heldLow = s.heldLow
  | .strip => t.strip = s.strip
  | .loops => t.loops = s.loops
  | .temp => t.temp = s.temp
  | .former => t.former = s.former
  | .asm => t.asm = s.asm
  | .store => t.store = s.store
  | .cal => t.cal = s.cal
  | .prof => t.prof = s.prof
  | .site => t.site = s.site
  | .ports => t.ports = s.ports
  | .freeReads => t.freeReads = s.freeReads

/-- Nothing outside the named parts differs. -/
def KeepsAllBut (touched : List Block) (s t : State) : Prop :=
  ∀ b, b ∉ touched → b.same s t

/-- The other port. -/
def otherPort : Port → Port
  | .cab => .svc
  | .svc => .cab

/-- The state with a reply at the tail of a port's reply list and nothing else changed. -/
def State.withReply (s : State) (p : Port) (r : Reply) : State :=
  s.setPort p { s.port p with replies := (s.port p).replies ++ [r] }

/-- An event cell after one raise of an event naming `item` (R181). -/
def cellRaised (item : BitVec 32) (e : EventCell) : EventCell :=
  { count := min (e.count + 1) 255, list := e.list ||| item }

/-- The events of a port after one raise of class `k`. -/
def RaisedOnce (k : EventClass) (item : BitVec 32) (before after : Vector EventCell 13) : Prop :=
  after[k.index] = cellRaised item before[k.index] ∧ ∀ i : Fin 13, i ≠ k.index → after[i] = before[i]

/-- Exactly one event of class `k` naming `item` has been raised, and the ports do not differ otherwise (R181). -/
def OneEvent (k : EventClass) (item : BitVec 32) (s t : State) : Prop :=
  RaisedOnce k item s.ports.cab.events t.ports.cab.events
    ∧ RaisedOnce k item s.ports.svc.events t.ports.svc.events
    ∧ t.ports = { cab := { s.ports.cab with events := t.ports.cab.events },
                  svc := { s.ports.svc with events := t.ports.svc.events }, stream := s.ports.stream }

/-- The events of a port after one raise of class `k` for each of `items`, in turn. -/
def RaisedEach (k : EventClass) (items : List (BitVec 32)) (before after : Vector EventCell 13) : Prop :=
  after[k.index] = items.foldl (fun e i => cellRaised i e) before[k.index] ∧ ∀ i : Fin 13, i ≠ k.index → after[i] = before[i]

/-- Exactly the events of class `k` naming `items` have been raised, and the ports do not differ otherwise (R181). -/
def EachEvent (k : EventClass) (items : List (BitVec 32)) (s t : State) : Prop :=
  RaisedEach k items s.ports.cab.events t.ports.cab.events
    ∧ RaisedEach k items s.ports.svc.events t.ports.svc.events
    ∧ t.ports = { cab := { s.ports.cab with events := t.ports.cab.events },
                  svc := { s.ports.svc with events := t.ports.svc.events }, stream := s.ports.stream }

/-! ### Requests -/

/-- The command that is a request of the catalogue. -/
def requestCommand (k : ReqKind) (p : Port) (tag : Byte) (payload : List Byte) : Instr :=
  match k with
  | .ident => .ident p tag payload
  | .status => .status p tag payload
  | .timeSet => .timeSet p tag payload
  | .siteRun => .siteRun p tag payload
  | .laneSet => .laneSet p tag payload
  | .editBegin => .editBegin p tag payload
  | .editPut => .editPut p tag payload
  | .editDiscard => .editDiscard p tag payload
  | .commit => .commit p tag payload
  | .readSection => .readSection p tag payload
  | .take => .take p tag payload
  | .peek => .peek p tag payload
  | .stream => .stream p tag payload
  | .probeNow => .probeNow p tag payload
  | .channelRearm => .channelRearm p tag payload
  | .lock => .lock p tag payload
  | .eventEnable => .eventEnable p tag payload
  | .restart => .restart p tag payload

/-- A request passes the port engine's tests (R177, tests 1 and 3 to 6) of a part that runs. -/
structure Admitted (k : ReqKind) (p : Port) (payload : List Byte) (s : State) : Prop where
  runs : s.heldLow = false
  room : (s.port p).replies.length < 4
  notInit : s.site.state ≠ .init ∨ k = .ident
  free : (s.port p).deferred = none ∨ k = .ident ∨ k = .status
  rightPort : p = .cab ∨ (k ≠ .take ∧ k ≠ .stream)
  fits : k.lengthFits payload.length = true

/-- A command that may part two moments (log 32): whatever a serial line receives, a start, the end of a write, and the end
of a frame being sent, after which a port may be set. -/
def TellsApart (c : Instr) : Prop :=
  (∃ k p tag payload, c = requestCommand k p tag payload) ∨ (∃ p kind tag payload, c = .unknownKindRequest p kind tag payload)
    ∨ (∃ p b, c = .rxByte p b) ∨ (∃ p e, c = .rxLineError p e) ∨ (∃ p, c = .rxGapTimeout p)
    ∨ (∃ strap, c = .powerOn strap) ∨ (∃ strap, c = .lineReset strap) ∨ c = .resetNHeldLow ∨ c = .restartTakesPlace
    ∨ (∃ agrees, c = .imageWriteComplete agrees) ∨ (∃ p, c = .transmitComplete p)

/-- A command brings a request of kind `k` to the cabinet link: the request itself, or the byte that ends its frame
(R175). -/
def BringsToCabinet (k : ReqKind) (payload : List Byte) (s : State) (c : Instr) : Prop :=
  (∃ tag, c = requestCommand k .cab tag payload)
    ∨ ∃ b lo tag len, c = .rxByte .cab b ∧ s.ports.cab.rx = .check len k.code tag payload (some lo)
      ∧ (crc16 (leBytes 2 len ++ [k.code, tag] ++ payload)).toNat = lo.toNat + 256 * b.toNat

/-- Which port's request of kind `k` gives way where both ports ask at one moment (log 32), that is, while a request of the
other waits behind the one being taken and no command between the two parts the moments: never the cabinet link's; and the
service port's where the cabinet link's passes the port's tests and its own. -/
def GivesWay (s : State) (k : ReqKind) (fits : List Byte → Bool) : Prop :=
  s.yields .cab k fits = false ∧ ((∀ c ∈ s.pending, ¬ TellsApart c) → s.yields .svc k fits = false)
    ∧ ∀ pre c post, s.pending = pre ++ c :: post → (∀ x ∈ pre, ¬ TellsApart x) → TellsApart c →
      (∀ payload, BringsToCabinet k payload s c →
        (Admitted k .cab payload s → s.yields .svc k fits = fits payload)
        ∧ (s.heldLow = false → ¬ Admitted k .cab payload s → s.yields .svc k fits = false))
      ∧ ((∀ payload, ¬ BringsToCabinet k payload s c) → s.yields .svc k fits = false)

/-- A command that does not part two moments leaves the cabinet link's receiver as it is, and every request of kind `k` that
the cabinet link would have taken before it, the port takes after it. -/
def KeepsMoment (k : ReqKind) (s t : State) : Prop :=
  t.ports.cab.rx = s.ports.cab.rx ∧ ∀ payload, Admitted k .cab payload s → Admitted k .cab payload t

/-- The reply OK to a request, with its result (R174, R178). -/
def okReply (k : ReqKind) (tag : Byte) (result : List Byte) : Reply :=
  { kind := k.code + 0x80, tag := tag, payload := 0 :: result, endsRestart := false }

/-- A refusal: the status code, a section code and an index (R178). -/
def refusalReply (kind tag : Byte) (st : Status) (sect index : Nat) : Reply :=
  { kind := kind + 0x80, tag := tag,
    payload := [BitVec.ofNat 8 st.code, BitVec.ofNat 8 sect, BitVec.ofNat 8 index], endsRestart := false }

/-- The bytes of a payload from an offset on begin with these. -/
def HoldsAt (payload : List Byte) (offset : Nat) (bytes : List Byte) : Prop :=
  (payload.drop offset).take bytes.length = bytes

/-- An edit request of the claim's owner has restarted the ownership timer (R156) and left this transfer in progress. -/
def State.withTransfer (s : State) (c : Claim) (x : Option Transfer) : State :=
  s.setProf { s.prof with claim := some { c with timer := some s.now, transfer := x } }

/-! ### The layout of a record (chapter 9, Vehicle record) -/

/-- The axle entry from offset `o` of a record: each field at its place, an absent one 0 with its presence bit clear. -/
structure EntryLaidOut (x : List Byte) (o : Nat) (a : AxleEntry) : Prop where
  presence : HoldsAt x o (leBytes 1 ((if a.speed.isSome then 1 else 0) + (if a.load.isSome then 2 else 0)
    + (if a.left.isSome then 4 else 0) + (if a.right.isSome then 8 else 0) + (if a.spacing.isSome then 16 else 0)))
  speed : HoldsAt x (o + 1) (leBytes 2 (a.speed.getD 0))
  load : HoldsAt x (o + 3) (leBytes 2 (a.load.getD 0))
  left : HoldsAt x (o + 5) (leBytes 2 (a.left.getD 0))
  right : HoldsAt x (o + 7) (leBytes 2 (a.right.getD 0))
  spacing : HoldsAt x (o + 9) (leBytes 2 (a.spacing.getD 0))
  temperature : HoldsAt x (o + 11) (leSigned 2 a.tempUsed)
  flags : HoldsAt x (o + 13) (leBytes 4 a.flags.toNat)

/-- A record's bytes: 43 and 17 for each axle, each field at its place, an absent one 0 with its presence bit clear. -/
structure RecordLaidOut (x : List Byte) (r : VehicleRec) : Prop where
  size : x.length = 43 + 17 * r.axles.length
  boot : HoldsAt x 0 (leBytes 4 r.boot)
  sequence : HoldsAt x 4 (leBytes 4 r.seq.toNat)
  lane : HoldsAt x 8 (leBytes 1 (r.lane.val + 1))
  axleCount : HoldsAt x 9 (leBytes 1 r.axles.length)
  classCode : HoldsAt x 10 (leBytes 1 r.classCode)
  presence : HoldsAt x 11 (leBytes 1 ((if r.meanSpeed.isSome then 1 else 0) + (if r.length.isSome then 2 else 0)
    + (if r.gross.isSome then 4 else 0)))
  openSite : HoldsAt x 12 (leBytes 6 r.openSite.toNat)
  closeSite : HoldsAt x 18 (leBytes 6 r.closeSite.toNat)
  meanSpeed : HoldsAt x 24 (leBytes 2 (r.meanSpeed.getD 0))
  length : HoldsAt x 26 (leBytes 2 (r.length.getD 0))
  gross : HoldsAt x 28 (leBytes 4 (r.gross.getD 0))
  temperature : HoldsAt x 32 (leSigned 2 r.tempUsed)
  tempStatus : HoldsAt x 34 (leBytes 1 (match r.tempStatus with
    | .none => 0
    | .live => 1
    | .held => 2
    | .stale => 3))
  generation : HoldsAt x 35 (leBytes 4 r.generation)
  flags : HoldsAt x 39 (leBytes 4 r.flags.toNat)
  entries : ∀ (i : Nat) (a : AxleEntry), r.axles[i]? = some a → EntryLaidOut x (43 + 17 * i) a

/-! ### Starts -/

/-- What every start clears for good, from a state `s`: temperatures, lists, candidates, frames and calibration windows
(R61, R81, R132, R149), with the converter's values and counts (R43) and the leak interval begun afresh (R22). fA, the update
count and the limit flag of a lane are the image check's (R149). That the candidates are numbered from 0 is the model's own
(log 4). -/
structure Cleared (s t : State) : Prop where
  leak : t.strip.leakStart = s.now
  converter : t.temp.slot = none ∧ t.temp.offset = 0 ∧ t.temp.lastZero = none ∧ t.temp.zeroFault = false
    ∧ t.temp.zeroFaults = 0 ∧ t.temp.late = 0
  temperatures : ∀ l : LaneIx, t.temp.lanes[l] =
    { status := .none, temp := none, source := .none, holdAge := 0, holdTicks := 0 }
  lists : ∀ (r : StripRow) (q : PosIx), t.waiting r q = []
  candidates : ∀ l : LaneIx, t.former.candidates[l] = [] ∧ t.former.late[l] = 0
  numbering : t.former.nextId = 0
  frames : ∀ l : LaneIx, t.asm.frames[l] = none ∧ t.asm.lastMean[l] = none
  windows : ∀ l : LaneIx, t.cal[l].window = [] ∧ t.cal[l].anchor = none ∧ t.cal[l].outcome = none

/-- The start values of the blocks (R22, R40, R43, R61, R81, R132, R149), less those of the profile store, the site
controller and the ports: what stands until an image check ends. A loop's pin keeps its level (log 2). -/
structure StartBlocks (s t : State) : Prop where
  cleared : Cleared s t
  channels : ∀ c : ChanIx, t.strip.channels[c] =
    { state := .off, settleSum := 0, settleCount := 0, baseline := none, detector := .quiet, bucket := 0, miss := 0,
      discard := 0 }
  lanes : ∀ l : LaneIx, t.loops[l] =
    { up := { high := s.loops[l].up.high, filtered := .free, change := none, stuckStart := none },
      down := { high := s.loops[l].down.high, filtered := .free, change := none, stuckStart := none },
      presence := .idle, uView := false, dView := false, uOnset := none, dOnset := none, paired := false, uStart := none,
      speed := none, congested := false, stallStart := none, clearStart := none, lastLength := none, frameCount := 0,
      idleSince := none }
  converter : t.temp.conv = none ∧ t.temp.passList = [] ∧ t.temp.lastPass = none
  probes : ∀ q : ProbeIx, t.temp.probes[q] =
    { state := .absent, lastRaw := none, lastOutcome := none, warm := 0, spike := 0, badRun := 0, filtered := none }
  factors : ∀ l : LaneIx, t.cal[l].fA = s.cal[l].fA ∧ t.cal[l].updates = s.cal[l].updates
    ∧ t.cal[l].limit = s.cal[l].limit

/-- The state of a machine's view at the end of an image check (R40). -/
def presenceFound (up down : Bool) : Presence :=
  match up, down with
  | false, false => .idle
  | true, false => .entering
  | true, true => .spanning
  | false, true => .leaving

/-- A loop whose line is read once, at tick `now` (R40). -/
def loopFound (high : Bool) (now : Tick) : Loop :=
  { high := high, filtered := if high then .occupied else .free, change := none,
    stuckStart := if high then some now else none }

/-- The blocks of `t` right after the image check of a start taken in `s`, on the active set of `t` (R22, R40, R43, R44, R61,
R81, R132): mapped channels settle, each loop takes its line's level and each presence machine the state of its view,
enabled probes warm up, and the first pass has begun with the zero reference. That the presence condition holds from this
tick where both loops are free is the model's reading (DEDUCED, log 6). -/
structure BlocksBegun (s t : State) : Prop where
  cleared : Cleared s t
  channels : ∀ c : ChanIx, t.strip.channels[c] =
    { state := if t.prof.active.strips[c].lane = none then .off else .settling, settleSum := 0, settleCount := 0,
      baseline := none, detector := .quiet, bucket := 0, miss := 0, discard := 0 }
  lanes : ∀ l : LaneIx, t.loops[l] =
    { up := loopFound s.loops[l].up.high s.now, down := loopFound s.loops[l].down.high s.now,
      presence := presenceFound s.loops[l].up.high s.loops[l].down.high,
      uView := s.loops[l].up.high, dView := s.loops[l].down.high, uOnset := none, dOnset := none, paired := false,
      uStart := none, speed := none, congested := false,
      stallStart := if s.loops[l].up.high = true ∧ s.loops[l].down.high = true then some s.now else none,
      clearStart := none, lastLength := none, frameCount := 0,
      idleSince := if s.loops[l].up.high = false ∧ s.loops[l].down.high = false then some s.now else none }
  pass : t.temp.conv = some { input := .zref, origin := .scan, start := s.now } ∧ t.temp.lastPass = some s.now
    ∧ t.temp.passList =
      ((List.finRange 8).filter (fun q => t.prof.active.probes.entries[q].enabled)).map ConvInput.probe
  probes : ∀ q : ProbeIx, t.temp.probes[q] =
    { state := if t.prof.active.probes.entries[q].enabled = true then .warmup else .absent, lastRaw := none,
      lastOutcome := none, warm := 0, spike := 0, badRun := 0, filtered := none }

/-- A port after a start (R182, R186). -/
def PortAtStart (p : Port) (x : PortState) : Prop :=
  x.rx = .hunt ∧ x.replies = [] ∧ x.tx = none ∧ x.deferred = none ∧ (∀ i : Fin 13, x.events[i] = emptyCell)
    ∧ x.links = { gap := 0, framing := 0, overrun := 0, length := 0, check := 0, overflow := 0 }
    ∧ x.mask = (match p with
      | .cab => BitVec.allOnes 13
      | .svc => 0)

/-- What a power-on or line reset leaves whatever the image is: the store empty, the counter 1, the generation 0, no
claim, no write and no reason but BOOT, the marks clear, the ports at their start (R132, R152, R166, R170, R186). -/
structure FreshStart (t : State) (cause : StartCause) (strap : Bool) : Prop where
  store : t.store = []
  sequence : t.asm.seq = 1
  generation : t.prof.generation = 0
  claim : t.prof.claim = none
  lockPending : t.prof.lockPending = false
  write : t.prof.write = none
  writeFault : t.prof.writeFault = false
  frames : ∀ l : LaneIx, t.asm.frames[l] = none
  time : t.site.time = 0 ∧ t.site.epochSet = false
  restart : t.site.restart = none
  closures : ∀ l : LaneIx, t.site.closed[l] = false
  cause : t.site.cause = cause
  strapOpen : t.site.strapOpen = strap
  ports : ∀ p : Port, PortAtStart p (t.port p)
  stream : t.ports.stream = false
  runs : t.heldLow = false

/-- The medium holds no good image: none was written, one was cut short or read back badly, or it fails its checks
(R164). -/
def BadMedium (x : ProfileStore) : Prop :=
  x.write ≠ none ∨ x.medium.goodImage = none

/-! ### Presence -/

/-- The moves of the presence machine (R28). -/
def presenceAfter (d : LoopPos) (occupied : Bool) (m : LaneMonitor) : Presence :=
  match d, occupied, m.presence with
  | .up, true, .idle => .entering
  | .up, true, .leaving => .spanning
  | .up, false, .entering => .idle
  | .up, false, .spanning => .leaving
  | .up, false, .reverse => if m.dView then .reverse else .idle
  | .down, true, .idle => .reverse
  | .down, true, .entering => .spanning
  | .down, false, .spanning => .entering
  | .down, false, .leaving => .idle
  | .down, false, .reverse => if m.uView then .reverse else .idle
  | _, _, p => p

/-- A span that the active set gives has passed since `start`, and at the tick of a commit's completion that of the
replaced set as well (R24, R34, R66, R111). -/
def SpanPassed (s : State) (start : Tick) (span : Profile → Nat) : Prop :=
  hasPassed start (span s.prof.active) s.now = true
    ∧ ∀ old, s.prof.replaced = some old → hasPassed start (span old) s.now = true

/-- A commit has completed at this tick, and by the set it replaced the span has not yet passed. -/
def BroughtForward (s : State) (start : Tick) (span : Profile → Nat) : Prop :=
  ∃ old, s.prof.replaced = some old ∧ hasPassed start (span old) s.now = false

/-- The ticks after a pending change's first reading at which its run is the lane's reject time (R23). -/
def rejectSpan (l : LaneIx) (p : Profile) : Nat :=
  8 * p.lanes[l].rejectMs - 1

/-- A change of a loop is accepted now: it has been pending for the lane's reject time (R23, R24). -/
def ChangeReady (s : State) (l : LaneIx) (d : LoopPos) (ct : Tick) : Prop :=
  (s.loops[l].loop d).change = some ct ∧ SpanPassed s ct (rejectSpan l)

/-- The mean speed an occupancy report uses: that of the lane's open frame, or with none open that of the last record
built (R32, R114). -/
def reportedSpeed (s : State) (l : LaneIx) : Option Nat :=
  match s.asm.frames[l] with
  | some f => meanSpeed f.axles
  | none => s.asm.lastMean[l]

/-- The length of an occupancy from `u` to `ct` (R32, R33): absent when it was shared or no speed exists, else
occupancy × speed / 80,000 rounded half up, less the loop's effective length, within 0 to 4,000. -/
def reportedLength (s : State) (l : LaneIx) (u ct : Tick) : Option Nat :=
  if 1 < s.loops[l].frameCount then none
  else (reportedSpeed s l).map (fun v =>
    min 4000 ((elapsed u ct * v * 2 + 80000) / 160000 - (s.laneEntry l).loopLength))

/-! ### Samples -/

/-- The commands that carry a sample of channel `c` and can bring about the outcome `named`. -/
def IsSample (cmd named : Instr) (c : ChanIx) (x : BitVec 16) : Prop :=
  cmd = .stripSample c x ∨ cmd = named

/-- The channel detects: it is NORMAL, DEGRADED or DEAD, and has a baseline. -/
def Detects (ch : Channel) (baseline : Int) : Prop :=
  (ch.state = .normal ∨ ch.state = .degraded ∨ ch.state = .dead) ∧ ch.baseline = some baseline

/-- The deviation of a sample from a baseline, limited to 16 signed bits (R4). -/
def deviationOf (baseline : Int) (x : BitVec 16) : Int :=
  max (-32768) (min 32767 (x.toInt - baseline))

/-- A sample equal to either extreme is clipped (R2); it counts as one. -/
def clipOf (x : BitVec 16) : Nat :=
  if x.toInt = -32768 ∨ x.toInt = 32767 then 1 else 0

/-! ### The limits the manual sets -/

/-- R126: at most 48 records and 256 axle slots. R116: the sequence counter is never 0. R109: an open frame has 1 to 15
axles. -/
structure StoreLimits (s : State) : Prop where
  records : s.store.length ≤ 48
  slots : slotsUsed s.store ≤ 256
  sequence : s.asm.seq ≠ 0
  axles : ∀ (l : LaneIx) (f : Frame), s.asm.frames[l] = some f → 1 ≤ f.axles.length ∧ f.axles.length ≤ 15

/-- R39: a lane that is not active has no open vehicle frame and no axle candidate. -/
def IdleLanesEmpty (s : State) : Prop :=
  ∀ l : LaneIx, s.laneActive l = false → s.asm.frames[l] = none ∧ s.former.candidates[l] = []

/-- R181, R176: a pending count is 0 to 255, a link error count 0 to 65,535. -/
structure PortLimits (x : PortState) : Prop where
  events : ∀ i : Fin 13, x.events[i].count ≤ 255
  gap : x.links.gap ≤ 65535
  framing : x.links.framing ≤ 65535
  overrun : x.links.overrun ≤ 65535
  length : x.links.length ≤ 65535
  check : x.links.check ≤ 65535
  overflow : x.links.overflow ≤ 65535

/-- The limits of both ports. -/
def CountLimits (s : State) : Prop :=
  ∀ p : Port, PortLimits (s.port p)

/-- A lane temperature without a source: LIVE becomes HELD with its value and a hold age of 0, any other status stays
as it is (R56). -/
def Unsourced (old new : LaneTemp) : Prop :=
  if old.status = .live then
    new = { status := .held, temp := old.temp, source := .none, holdAge := 0, holdTicks := 0 }
  else new = old

/-- The lane temperature R56 gives from the probes: the primary's filtered value if the primary is VALID, else the
alternate's if it is another probe and VALID; with neither, a LIVE lane becomes HELD and any other stays. -/
def Follows (probes : Vector Probe 8) (e : LaneEntry) (old new : LaneTemp) : Prop :=
  match probes[e.primary].value, e.alternate with
  | some v, _ => new = { status := .live, temp := some v, source := .primary, holdAge := 0, holdTicks := 0 }
  | none, none => Unsourced old new
  | none, some q =>
    if q = e.primary then Unsourced old new
    else match probes[q].value with
      | some v => new = { status := .live, temp := some v, source := .alternate, holdAge := 0, holdTicks := 0 }
      | none => Unsourced old new

/-- A record matches an entry of the class table (R123). -/
def MatchesEntry (e : ClassEntry) (axles : List AxleEntry) (gross length : Option Nat) : Prop :=
  e.minAxles ≤ axles.length ∧ axles.length ≤ e.maxAxles
    ∧ (e.track = .required → ∀ a ∈ axles, hasFlag a.flags .single = true)
    ∧ (e.track = .forbidden → ∃ a ∈ axles, hasFlag a.flags .single = false)
    ∧ (∀ (g : Nat) r a, e.ranges[g]? = some r → axles[g]? = some a → g + 1 < axles.length →
        ∃ x, a.spacing = some x ∧ r.1 ≤ x ∧ x ≤ r.2)
    ∧ (∀ r, e.gross = some r → ∃ x, gross = some x ∧ r.1 ≤ x ∧ x ≤ r.2)
    ∧ (∀ r, e.length = some r → ∃ x, length = some x ∧ r.1 ≤ x ∧ x ≤ r.2)

/-- A record is classed by the table (R123, R124): REVERSE and ABORTED ones are not searched and take class 0; any other
takes the code of the first entry it matches, or class 0 with UNCLASSED. `carried` is UNCLASSED as the frame had it. -/
structure Classed (table : List ClassEntry) (carried : Bool) (r : VehicleRec) : Prop where
  notSearched : hasFlag r.flags .reverse = true ∨ hasFlag r.flags .aborted = true →
    r.classCode = 0 ∧ hasFlag r.flags .unclassed = carried
  firstMatch : ∀ above e below, hasFlag r.flags .reverse = false → hasFlag r.flags .aborted = false →
    table = above ++ e :: below → MatchesEntry e r.axles r.gross r.length →
    (∀ x ∈ above, ¬ MatchesEntry x r.axles r.gross r.length) →
    r.classCode = e.code ∧ hasFlag r.flags .unclassed = carried
  noMatch : hasFlag r.flags .reverse = false → hasFlag r.flags .aborted = false →
    (∀ x ∈ table, ¬ MatchesEntry x r.axles r.gross r.length) → r.classCode = 0 ∧ hasFlag r.flags .unclassed = true

/-- A load in kilograms exceeds its limit with the margin in percent (R125); an absent one does not. -/
def Exceeds (limit margin : Nat) (load : Option Nat) : Prop :=
  ∃ x, load = some x ∧ limit * (100 + margin) < x * 100

/-- A record is screened for overload (R125), beyond the two flags as the frame had them, and OVERLOAD is raised once,
naming the lane, if it carries either. -/
structure Screened (s : State) (l : LaneIx) (f : Frame) (r : VehicleRec) (t : State) : Prop where
  axle : hasFlag r.flags .overloadAxle = true ↔ hasFlag f.flags .overloadAxle = true
    ∨ ∃ a ∈ r.axles, Exceeds s.prof.active.site.axleLimit s.prof.active.site.margin a.load
  gross : hasFlag r.flags .overloadGross = true ↔ hasFlag f.flags .overloadGross = true
    ∨ Exceeds s.prof.active.site.grossLimit s.prof.active.site.margin r.gross
  event : ∀ p : Port, (t.port p).events[EventClass.overload.index] =
    if hasFlag r.flags .overloadAxle = true ∨ hasFlag r.flags .overloadGross = true
    then cellRaised (itemBit l.val) (s.port p).events[EventClass.overload.index]
    else (s.port p).events[EventClass.overload.index]

/-- A frame has closed in lane `l` for a cause (R109, R112, R116, R117, R121, R126): its record has taken the sequence
number and the flag of its cause, been classed and screened, and joined the store if it had room, the counter has
advanced, and the other lanes are untouched. -/
def ClosedFrame (s : State) (l : LaneIx) (f : Frame) (cause : CloseCause) (t : State) : Prop :=
  ∃ r : VehicleRec,
    hasFlag r.flags .truncated = (hasFlag f.flags .truncated || decide (cause = .truncated)) ∧
    hasFlag r.flags .aborted = (hasFlag f.flags .aborted || decide (cause = .aborted)) ∧
    r.seq = s.asm.seq ∧ r.lane = l ∧ r.boot = s.prof.boot ∧ r.generation = s.prof.generation
      ∧ r.closeSite = s.site.time ∧ r.openSite = f.openSite ∧ r.axles = f.axles.map FrameAxle.entry
      ∧ r.length = f.length ∧ r.gross = grossOf r.axles ∧ r.meanSpeed = meanSpeed f.axles
      ∧ Classed s.prof.active.classes (hasFlag f.flags .unclassed) r ∧ Screened s l f r t
      ∧ t.asm = { frames := s.asm.frames.set l none, lastMean := s.asm.lastMean.set l r.meanSpeed,
                  seq := if s.asm.seq = BitVec.allOnes 32 then 1 else s.asm.seq + 1 }
      ∧ t.store = (if s.store.length < 48 ∧ slotsUsed s.store + f.axles.length ≤ 256 then s.store ++ [r] else s.store)
      ∧ KeepsAllBut [.asm, .store, .ports, .cal, .prof] s t
      ∧ t.prof = { s.prof with reasons := t.prof.reasons }
      ∧ ∀ k : LaneIx, k ≠ l → t.cal[k] = s.cal[k]

/-- The oldest `k` records of a list are those a reply carries: at most `n` of them, as many as fit whole in the
budget (R128, R130). -/
def Carries (budget n k : Nat) (rs : List VehicleRec) : Prop :=
  k ≤ n ∧ k ≤ rs.length ∧ ((rs.take k).map VehicleRec.size).sum ≤ budget
    ∧ (k = n ∨ k = rs.length ∨ budget < ((rs.take (k + 1)).map VehicleRec.size).sum)

/-- The spacing formula of R102 in centimetres, for two times `gap` ticks apart and two speeds. -/
def cmApart (gap v w : Nat) : Nat :=
  min ((gap * (v + w) + 80000) / 160000) 65535

/-- The spacing of two axles `gap` ticks apart (R102): absent if either has no speed. -/
def spacingOf (gap : Nat) (v w : Option Nat) : Option Nat :=
  match v, w with
  | some x, some y => some (cmApart gap x y)
  | _, _ => none

/-- The gap test of R108 finds an axle `gap` ticks after the frame's last one too far from it: by the spacing formula with
both speeds, or with the one there is in place of both, or by 2 s where neither has a speed. -/
def TooFar (s : State) (gap : Nat) (v w : Option Nat) : Prop :=
  match v, w with
  | none, none => 16000 < gap
  | some x, none | none, some x => s.prof.active.site.maxSpacing < cmApart gap x x
  | some x, some y => s.prof.active.site.maxSpacing < cmApart gap x y

/-- An open frame whose last axle, at `last`, was handed on overdue takes no axle at `time` that lies further from it than
the frame timeout in force (R111, last sentence; log 29). -/
def JoinTimedOut (s : State) (f : Frame) (last time : Tick) : Prop :=
  f.overdue = true ∧ hasPassed last (8000 * s.prof.active.site.frameTimeout + 1) time = true

/-- After a close that left `u`, the axle has opened a frame of its own in `t` (R106, R108, R109). -/
def OpensAfter (u : State) (a : AxleRec) (t : State) : Prop :=
  ∃ g, t.asm.frames[a.lane] = some g ∧ g.axles = [{ axle := a, spacing := none }] ∧ g.openTick = a.time
    ∧ g.generation = a.generation ∧ (g.overdue = true ↔ SpanPassed u a.time (fun p => 8000 * p.site.frameTimeout))
    ∧ (∀ k : LaneIx, k ≠ a.lane → t.asm.frames[k] = u.asm.frames[k])
    ∧ t.asm.seq = u.asm.seq ∧ KeepsAllBut [.loops, .asm] u t

/-! ### Delivered hits -/

/-- A channel after the delivery of a hit with so many clipped samples (R10, R12): its detector is QUIET, its miss count 0,
its bucket fuller, and a NORMAL one above its clip limit is DEGRADED. -/
def pouredChannel (s : State) (c : ChanIx) (clips : Nat) : Channel :=
  { s.strip.channels[c] with
    detector := .quiet, miss := 0, bucket := min (s.strip.channels[c].bucket + min clips 64) 1023,
    state := if s.strip.channels[c].state = .normal
        ∧ (s.stripEntry c).clipLimit < min (s.strip.channels[c].bucket + min clips 64) 1023
      then .degraded else s.strip.channels[c].state }

/-- The hit a channel delivers to a lane at the end of a run (R7, R9). -/
def deliveredHit (s : State) (c : ChanIx) (l : LaneIx) (h : HitAcc) (e : EndRun) : HitRec :=
  { channel := c, lane := l, row := (s.stripEntry c).row, side := (s.stripEntry c).side, start := h.start, stop := e.first,
    area := h.area, peak := h.peak, samples := elapsed h.start e.first, clips := h.clips,
    clip := decide ((pouredChannel s c h.clips).state = .degraded) }

/-- A sample of a channel delivers a hit to the axle former (R7, R10): it is the fourth low sample of an ENDING run, of a
channel that is not DEAD, in an active lane. -/
structure Delivers (s : State) (c : ChanIx) (x : BitVec 16) (l : LaneIx) (h : HitAcc) (e : EndRun) : Prop where
  runs : s.heldLow = false
  detects : ∃ b, Detects s.strip.channels[c] b ∧ deviationOf b x < (((s.stripEntry c).trigger / 2 : Nat) : Int)
  alive : s.strip.channels[c].state ≠ .dead
  detector : s.strip.channels[c].detector = .ending h e
  run : e.run = 3
  lane : (s.stripEntry c).lane = some l
  active : s.laneActive l = true

/-- A hit's delivery has raised CHANNEL_STATE if it made its channel DEGRADED, and touched the ports in no other way
(R12, R18). -/
def PouredEvent (s : State) (c : ChanIx) (clips : Nat) (t : State) : Prop :=
  ((pouredChannel s c clips).state ≠ s.strip.channels[c].state → OneEvent .channelState (itemBit c.val) s t)
    ∧ ((pouredChannel s c clips).state = s.strip.channels[c].state → t.ports = s.ports)

/-! ### Miss notices -/

/-- A channel is mapped at a row and position (R1). -/
def MappedAt (s : State) (r : StripRow) (q : PosIx) (c : ChanIx) : Prop :=
  (s.stripEntry c).lane = some (posLane q) ∧ (s.stripEntry c).side = posSide q ∧ (s.stripEntry c).row = r

/-- A channel is the one mapped at a row and position: R1 allows one. -/
def OnlyMappedAt (s : State) (r : StripRow) (q : PosIx) (c : ChanIx) : Prop :=
  MappedAt s r q c ∧ ∀ k, MappedAt s r q k → k = c

/-- The channel counts its misses: it is NORMAL or DEGRADED (R15). -/
abbrev CountsMisses (ch : Channel) : Prop :=
  ch.state = .normal ∨ ch.state = .degraded

/-- A channel has taken one miss notice, and the strip front end and the ports do not differ otherwise (R15, R16): its miss
count has risen by one, and the 32nd has made it DEAD with CHANNEL_STATE; in SETTLING, DEAD and OFF nothing has changed. -/
structure NoticeTaken (c : ChanIx) (s t : State) : Prop where
  others : (∀ k : ChanIx, k ≠ c → t.strip.channels[k] = s.strip.channels[k]) ∧ t.strip.leakStart = s.strip.leakStart
  counted : CountsMisses s.strip.channels[c] → s.strip.channels[c].miss < 31 →
    t.strip.channels[c] = { s.strip.channels[c] with miss := s.strip.channels[c].miss + 1 } ∧ t.ports = s.ports
  dead : CountsMisses s.strip.channels[c] → s.strip.channels[c].miss = 31 →
    t.strip.channels[c] = { s.strip.channels[c] with miss := 32, state := .dead }
      ∧ OneEvent .channelState (itemBit c.val) s t
  ignored : ¬ CountsMisses s.strip.channels[c] → t.strip = s.strip ∧ t.ports = s.ports

/-- A notice has gone to the channel mapped at a row and position, if one is (R65, R75). -/
def NoticeSent (r : StripRow) (q : PosIx) (s t : State) : Prop :=
  (∀ b, OnlyMappedAt s r q b → NoticeTaken b s t)
    ∧ ((∀ b, ¬ MappedAt s r q b) → t.strip = s.strip ∧ t.ports = s.ports)

/-! ### Pairing -/

/-- Two hits give a wheel speed (R64): the trailing hit starts `Δ` ticks later, `Δ` positive, and the row spacing times
8,000 over `Δ`, rounded half up, lies in the weighing range. -/
def PairsAt (spacing : Nat) (lead trail : HitRec) (v : Nat) : Prop :=
  0 < elapsed lead.start trail.start ∧ elapsed lead.start trail.start < 2 ^ 31
    ∧ v = (spacing * 8000 * 2 + elapsed lead.start trail.start) / (2 * elapsed lead.start trail.start)
    ∧ 1500 ≤ v ∧ v ≤ 60000

/-- A wheel holds both its hits. -/
def FullWheel (w : Wheel) : Prop :=
  w.lead ≠ none ∧ w.trail ≠ none

/-- Two hits of one wheel leave one usable row (R96, R98): one of their channels is NORMAL and the other is not, or neither
is NORMAL and one of them is DEGRADED and the other is not. -/
def OneUsableRow (s : State) (x y : HitRec) : Prop :=
  (s.strip.channels[x.channel].state = .normal ∧ s.strip.channels[y.channel].state ≠ .normal)
    ∨ (s.strip.channels[x.channel].state ≠ .normal ∧ s.strip.channels[y.channel].state = .normal)
    ∨ (s.strip.channels[x.channel].state = .degraded ∧ ¬ CountsMisses s.strip.channels[y.channel])
    ∨ (¬ CountsMisses s.strip.channels[x.channel] ∧ s.strip.channels[y.channel].state = .degraded)

/-- A side is a wheel with both its hits (R69). -/
def FullSide : Side → Prop
  | .waiting _ => False
  | .formed w => FullWheel w

/-! ### Candidates -/

/-- The wheel start of a side (chapter 4, FROM HITS TO WHEELS): that of its leading hit, or of a trailing hit alone. -/
def StartsAt (x : Side) (u : Tick) : Prop :=
  match x with
  | .waiting h => u = h.start
  | .formed w =>
    match w.lead, w.trail with
    | some h, _ => u = h.start
    | none, some h => u = h.start
    | none, none => False

/-- Every hit of channel `b` for which the candidate waits is its only side (R72). -/
def LosesAllOrNone (b : ChanIx) (c : Candidate) : Prop :=
  (∃ y, c.sides = [.waiting y]) ∨ (c.sides ≠ [] ∧ ∀ y, .waiting y ∈ c.sides → y.channel ≠ b)

/-- The candidate's one side waited for a hit whose channel has changed its state between `s` and `t`: after a miss notice,
the channel has entered DEAD and the hit has been withdrawn (R16, R72). -/
def orphaned (s t : State) (c : Candidate) : Bool :=
  match c.sides with
  | [.waiting y] => decide (t.strip.channels[y.channel].state ≠ s.strip.channels[y.channel].state)
  | _ => false

/-- An open candidate is eligible for a side at `q` that starts at `u`, at distance `d` (R67): it has one side, on a
neighbouring position, within the coincidence window. -/
def Eligible (s : State) (c : Candidate) (q : PosIx) (u : Tick) (d : Nat) : Prop :=
  ∃ x v, c.sides = [x] ∧ StartsAt x v ∧ (x.pos.val + 1 = q.val ∨ x.pos.val = q.val + 1)
    ∧ d = min (elapsed u v) (elapsed v u) ∧ d ≤ s.prof.active.site.window

/-- The candidate's one side lies on `q`'s own lane pair (R67). -/
def OwnPair (c : Candidate) (q : PosIx) : Prop :=
  ∃ x, c.sides = [x] ∧ posLane x.pos = posLane q

/-- Of two eligible candidates the side joins the first (R67): it is nearer, or as near and the one on the own pair, or was
opened earlier, which the candidates' numbers tell. -/
def Preferred (q : PosIx) (c : Candidate) (d : Nat) (c' : Candidate) (d' : Nat) : Prop :=
  d < d' ∨ (d = d' ∧ ((OwnPair c q ∧ ¬ OwnPair c' q) ∨ ((OwnPair c q ↔ OwnPair c' q) ∧ c.id < c'.id)))

/-- A side at `q` that starts at `u` finds no candidate and room for one of its own (R67, R68). -/
def Opens (s : State) (q : PosIx) (u : Tick) : Prop :=
  (∀ (k : LaneIx) (c : Candidate), c ∈ s.former.candidates[k] → ∀ d, ¬ Eligible s c q u d)
    ∧ s.former.candidates[posLane q].length < 4

/-- A side at `q` that starts at `u` joins the candidate `c` held in lane `k`, whose deadline has not passed then either
(R67, R69). -/
def Joins (s : State) (q : PosIx) (u : Tick) (k : LaneIx) (c : Candidate) : Prop :=
  ∃ d, Eligible s c q u d
    ∧ (∀ (k' : LaneIx) (c' : Candidate) (d' : Nat), c' ∈ s.former.candidates[k'] → c' ≠ c → Eligible s c' q u d' →
        Preferred q c d c' d')
    ∧ ∀ v, v = u ∨ (∃ x, c.sides = [x] ∧ StartsAt x v) →
        hasPassed v ((s.laneEntry k).rowSpacing * 16000 / 2999 + s.prof.active.site.window) s.now = false

/-- A side holds a hit. -/
def sideHasHit : Side → Bool
  | .waiting _ => true
  | .formed w => w.lead.isSome || w.trail.isSome

/-- The axle former's limits (R62, R67, R68): a lane holds at most 4 open candidates and a pending list at most 4 hits; no two
open candidates share a number, each has one or two sides, and each wheel a hit. -/
structure FormerLimits (s : State) : Prop where
  numbered : ∀ (k : LaneIx) (c : Candidate), c ∈ s.former.candidates[k] → c.id < s.former.nextId
  distinct : ((List.finRange 6).flatMap (fun k : LaneIx => s.former.candidates[k].map (fun c => c.id))).Nodup
  sides : ∀ (k : LaneIx) (c : Candidate), c ∈ s.former.candidates[k] →
    (c.sides.length = 1 ∨ c.sides.length = 2) ∧ ∀ x ∈ c.sides, sideHasHit x = true
  waiting : ∀ r q, (s.waiting r q).length ≤ 4
  room : ∀ k : LaneIx, s.former.candidates[k].length ≤ 4

/-! ### Eviction -/

/-- A candidate without the side that waits for `old` (R72). -/
def withoutHit (old : HitRec) (c : Candidate) : Candidate :=
  { c with sides := c.sides.filter (fun x => decide (x ≠ .waiting old)) }

/-- The channels after one more discard of channel `b` (R17). -/
def discarded (chs : Vector Channel 24) (b : ChanIx) : Vector Channel 24 :=
  chs.set b { chs[b] with discard := min (chs[b].discard + 1) 65535 }

/-- Channel `c` has delivered a hit with so many clipped samples to a full list, whose oldest hit `old` has been evicted
(R10, R12, R62): its channel's discard count has risen (R17), its side has left its candidate, and a candidate left without
side is gone (R72). -/
structure Evicted (c : ChanIx) (clips : Nat) (old : HitRec) (s u : State) : Prop where
  strip : u.strip = { s.strip with
    channels := discarded (s.strip.channels.set c (pouredChannel s c clips)) old.channel }
  event : PouredEvent s c clips u
  waiting : ∀ r q, u.waiting r q = (s.waiting r q).filter (fun y => decide (y ≠ old))
  candidates : ∀ k : LaneIx, u.former.candidates[k] =
    ((s.former.candidates[k]).map (withoutHit old)).filter (fun c => !c.sides.isEmpty)
  others : u.former.nextId = s.former.nextId ∧ u.former.late = s.former.late ∧ KeepsAllBut [.strip, .former, .ports] s u

/-- Of the candidates that lose the side of `old`, none that keeps its other side is then past its deadline (R72). -/
def NoneThenOverdue (s : State) (old : HitRec) : Prop :=
  ∀ (k : LaneIx) (c : Candidate), c ∈ s.former.candidates[k] → .waiting old ∈ c.sides →
    ∀ x v, x ∈ c.sides → x ≠ .waiting old → StartsAt x v →
      hasPassed v ((s.laneEntry k).rowSpacing * 16000 / 2999 + s.prof.active.site.window) s.now = false

/-! ### Lane assignment -/

/-- A lane qualifies by frame continuation for an axle at `time` with wheel-pair speed `v` (R73, step 1); its last axle was
at `u`. -/
def Continues (s : State) (k : LaneIx) (time : Tick) (v : Option Nat) (u : Tick) : Prop :=
  ∃ f init p, s.asm.frames[k] = some f ∧ f.axles = init ++ [p] ∧ u = p.axle.time
    ∧ ¬ (0 < elapsed time u ∧ elapsed time u < 2 ^ 31)
    ∧ match p.axle.speed, v with
      | none, none => elapsed u time ≤ 16000
      | some x, none | none, some x =>
        min ((elapsed u time * (x + x) + 80000) / 160000) 65535 ≤ s.prof.active.site.maxSpacing
      | some x, some y => min ((elapsed u time * (x + y) + 80000) / 160000) 65535 ≤ s.prof.active.site.maxSpacing

/-- The lane `k` of a straddle axle between lanes `n` and `m`, `n` the lower-numbered (R73): by frame continuation, the later
last axle deciding between two; then by presence; then lane `n`. -/
structure AssignedTo (s : State) (n m : LaneIx) (time : Tick) (v : Option Nat) (k : LaneIx) : Prop where
  one : (∃ u, Continues s n time v u) → (¬ ∃ u, Continues s m time v u) → k = n
  other : (∃ u, Continues s m time v u) → (¬ ∃ u, Continues s n time v u) → k = m
  both : ∀ u w, Continues s n time v u → Continues s m time v w →
    k = if 0 < elapsed u w ∧ elapsed u w < 2 ^ 31 then m else n
  neither : (¬ ∃ u, Continues s n time v u) → (¬ ∃ u, Continues s m time v u) →
    k = if s.loops[n].presence = .idle ∧ s.loops[m].presence ≠ .idle then m else n

/-- The mean of two wheel speeds rounded half up, or the one there is (R76, source 1). -/
def pairMean (x y : Option Nat) : Option Nat :=
  match x, y with
  | some a, some b => some ((a + b + 1) / 2)
  | some a, none | none, some a => some a
  | none, none => none

/-! ### Sections -/

/-- A set with one section taken from another. -/
def withSection (k : Sect) (p r : Profile) : Profile :=
  match k with
  | .site => { p with site := r.site }
  | .stripmap => { p with strips := r.strips }
  | .lanes => { p with lanes := r.lanes }
  | .tempcomp => { p with tempcomp := r.tempcomp }
  | .speedcomp => { p with speedcomp := r.speedcomp }
  | .probes => { p with probes := r.probes }
  | .classes => { p with classes := r.classes }
  | .autocal => { p with autocal := r.autocal }

/-- The reserved bytes of a section, which are ignored in writes and read as 0 (R151). -/
def reservedByte (k : Sect) (i : Nat) : Bool :=
  match k with
  | .site => decide (22 ≤ i)
  | .stripmap => decide (i % 12 = 3)
  | .lanes => decide (13 ≤ i % 18)
  | .tempcomp | .speedcomp | .probes | .classes | .autocal => false

/-- A section's bytes read back as sent, but for its reserved bytes (R151). -/
def ReadsBack (k : Sect) (sent : List Byte) (q : Profile) : Prop :=
  (sectionBytes q k).length = sent.length
    ∧ ∀ i, reservedByte k i = false → (sectionBytes q k)[i]? = sent[i]?

/-- The ranges of a class entry (R122). -/
def ClassInRange (e : ClassEntry) : Prop :=
  (1 ≤ e.code ∧ e.code ≤ 31) ∧ (1 ≤ e.minAxles ∧ e.minAxles ≤ e.maxAxles ∧ e.maxAxles ≤ 15)
    ∧ e.ranges.length ≤ 14 ∧ e.ranges.length + 1 ≤ e.maxAxles ∧ (∀ r ∈ e.ranges, r.1 ≤ r.2 ∧ r.2 ≤ 65535)
    ∧ (∀ r, e.gross = some r → r.1 ≤ r.2 ∧ r.2 ≤ 983025) ∧ (∀ r, e.length = some r → r.1 ≤ r.2 ∧ r.2 ≤ 4000)

/-- Every field of a section lies in its range (R1, R50, R90, R122, R134, R154). -/
def SectionInRange (k : Sect) (q : Profile) : Prop :=
  match k with
  | .site =>
    (1 ≤ q.site.laneCount ∧ q.site.laneCount ≤ 6) ∧ q.site.siteNumber ≤ 4294967295
      ∧ (50 ≤ q.site.closeDelay ∧ q.site.closeDelay ≤ 2000) ∧ (300 ≤ q.site.maxSpacing ∧ q.site.maxSpacing ≤ 2500)
      ∧ (8 ≤ q.site.window ∧ q.site.window ≤ 256) ∧ (1 ≤ q.site.frameTimeout ∧ q.site.frameTimeout ≤ 10)
      ∧ (1 ≤ q.site.highWater ∧ q.site.highWater ≤ 48) ∧ (1 ≤ q.site.rowTolerance ∧ q.site.rowTolerance ≤ 50)
      ∧ (1000 ≤ q.site.axleLimit ∧ q.site.axleLimit ≤ 65535)
      ∧ (1000 ≤ q.site.grossLimit ∧ q.site.grossLimit ≤ 983025) ∧ q.site.margin ≤ 50
      ∧ (1 ≤ q.site.scanPeriod ∧ q.site.scanPeriod ≤ 60)
  | .stripmap =>
    (∀ c : ChanIx, (20 ≤ q.strips[c].trigger ∧ q.strips[c].trigger ≤ 8000)
      ∧ (20 ≤ q.strips[c].width ∧ q.strips[c].width ≤ 200) ∧ (1 ≤ q.strips[c].k ∧ q.strips[c].k ≤ 65535)
      ∧ (16 ≤ q.strips[c].clipLimit ∧ q.strips[c].clipLimit ≤ 1000))
      ∧ ∀ a b : ChanIx, a ≠ b → q.strips[a].lane ≠ none → ¬ (q.strips[a].lane = q.strips[b].lane
          ∧ q.strips[a].row = q.strips[b].row ∧ q.strips[a].side = q.strips[b].side)
  | .lanes =>
    ∀ l : LaneIx, (500 ≤ q.lanes[l].rowSpacing ∧ q.lanes[l].rowSpacing ≤ 6000)
      ∧ (1000 ≤ q.lanes[l].loopSpacing ∧ q.lanes[l].loopSpacing ≤ 10000) ∧ q.lanes[l].loopLength ≤ 1000
      ∧ (5 ≤ q.lanes[l].rejectMs ∧ q.lanes[l].rejectMs ≤ 100) ∧ (2 ≤ q.lanes[l].stallS ∧ q.lanes[l].stallS ≤ 30)
      ∧ (3686 ≤ q.lanes[l].fA ∧ q.lanes[l].fA ≤ 4506)
  | .tempcomp => ∀ i : Fin 9, 512 ≤ q.tempcomp[i] ∧ q.tempcomp[i] ≤ 2047
  | .speedcomp => ∀ i : Fin 8, 512 ≤ q.speedcomp[i] ∧ q.speedcomp[i] ≤ 2047
  | .probes =>
    (∀ i : ProbeIx, -50 ≤ q.probes.entries[i].trim ∧ q.probes.entries[i].trim ≤ 50)
      ∧ ∀ i : Fin 17, -400 ≤ q.probes.curve[i] ∧ q.probes.curve[i] ≤ 850
  | .classes => q.classes.length ≤ 32 ∧ ∀ e ∈ q.classes, ClassInRange e
  | .autocal =>
    (1 ≤ q.autocal.refClass ∧ q.autocal.refClass ≤ 31) ∧ (1000 ≤ q.autocal.target ∧ q.autocal.target ≤ 20000)
      ∧ (1500 ≤ q.autocal.speedMin ∧ q.autocal.speedMin ≤ q.autocal.speedMax ∧ q.autocal.speedMax ≤ 60000)
      ∧ (q.autocal.grossMin ≤ q.autocal.grossMax ∧ q.autocal.grossMax ≤ 983025)

/-! ### The cross-checks of COMMIT (R161) -/

/-- A channel is mapped in a lane above the lane count. -/
def ChannelAboveCount (p : Profile) (c : ChanIx) : Prop :=
  ∃ l : LaneIx, p.strips[c].lane = some l ∧ p.site.laneCount ≤ l.val

/-- A lane is enabled with a number no greater than the lane count. -/
def LaneCounts (p : Profile) (l : LaneIx) : Prop :=
  p.lanes[l].enabled = true ∧ l.val < p.site.laneCount

/-- A lane that counts has in neither row a channel mapped on both sides. -/
def LaneWithoutRow (p : Profile) (l : LaneIx) : Prop :=
  LaneCounts p l ∧ ¬ ∃ r : StripRow, ∀ side : StripSide, ∃ c : ChanIx,
    p.strips[c].lane = some l ∧ p.strips[c].row = r ∧ p.strips[c].side = side

/-- The primary probe of a lane that counts is not enabled. -/
def LaneWithoutProbe (p : Profile) (l : LaneIx) : Prop :=
  LaneCounts p l ∧ p.probes.entries[p.lanes[l].primary].enabled = false

/-- The first failure of the cross-checks of R161, taken in turn, each with its lowest index. -/
structure CrossChecked (p : Profile) : Prop where
  channel : ∀ c : ChanIx, ChannelAboveCount p c → (∀ k : ChanIx, k < c → ¬ ChannelAboveCount p k) →
    inconsistency p = some (.stripmap, c.val)
  row : ∀ l : LaneIx, (∀ c, ¬ ChannelAboveCount p c) → LaneWithoutRow p l →
    (∀ k : LaneIx, k < l → ¬ LaneWithoutRow p k) → inconsistency p = some (.lanes, l.val)
  probe : ∀ l : LaneIx, (∀ c, ¬ ChannelAboveCount p c) → (∀ k, ¬ LaneWithoutRow p k) → LaneWithoutProbe p l →
    (∀ k : LaneIx, k < l → ¬ LaneWithoutProbe p k) → inconsistency p = some (.lanes, l.val)
  passes : (∀ c, ¬ ChannelAboveCount p c) → (∀ l, ¬ LaneWithoutRow p l) → (∀ l, ¬ LaneWithoutProbe p l) →
    inconsistency p = none

/-! ### Commits -/

/-- Every lane that is active stays so by the set `p` (R37). -/
def LanesKept (s : State) (p : Profile) : Prop :=
  ∀ l : LaneIx, s.laneActive l = true → LaneCounts p l

/-- By the set `p` no open candidate has reached its deadline (R69). -/
def NoneOverdueBy (s : State) (p : Profile) : Prop :=
  ∀ (l : LaneIx) (c : Candidate), c ∈ s.former.candidates[l] → c.sides ≠ [] ∧ ∀ x ∈ c.sides, ∃ u, StartsAt x u
    ∧ hasPassed u (p.lanes[l].rowSpacing * 16000 / 2999 + p.site.window) s.now = false

/-- Every lane's calibration is set afresh from the LANES entries of the set `p` (R144). -/
def FreshFactors (s : State) (p : Profile) : Prop :=
  ∀ l : LaneIx, s.cal[l].fA = p.lanes[l].fA ∧ s.cal[l].window = [] ∧ s.cal[l].anchor = none ∧ s.cal[l].updates = 0
    ∧ s.cal[l].limit = false

/-- Records offered one after another to the auto-calibration unit (R136). -/
def State.offerAll (s : State) (rs : List VehicleRec) : State :=
  rs.foldl State.offerToCal s

/-! ### Runs -/

/-- A step that goes on. -/
def GoesOn (o : Host.Outcome State Fault Refusal) : Prop :=
  ∃ t, o = .next t

/-- All bytes received on a port one after another, with no other command between them. -/
def State.receiveAll (s : State) (p : Port) (bs : List Byte) : State :=
  bs.foldl (fun t b => t.receiveByte p b) s

end Sys2Proof.Machine
end

