-- ==== Sys2Proof/Certificates/Slice0/Obligations.lean ====
section
/-! DEFINITION. The statements for the provers. -/

open Sys2Proof Sys2Proof.Machine

/-! ### The queue and the clock -/

/-- The model's queue: a step takes the front command and runs it on the state with the queue's rest. With an empty queue
the part's clock acts (DESIGN CHOICE, log 1): an event that is due, or else one tick passes. -/
def Obligations.StepTakesFrontCommand : Prop :=
  (∀ (s : State) (c : Instr) (rest : List Instr), s.pending = c :: rest → step s = exec c (s.setPending rest))
    ∧ (∀ (s : State) (c : Instr), s.pending = [] → s.dueEvent = some c → step s = exec c s)
    ∧ (∀ s : State, s.pending = [] → s.dueEvent = none → step s = .next s.tick)

/-- Reset is a power-on that finds a bad image (R170): NOPROFILE on the default set, with STORE_LOST, and every block as it
begins at the end of an image check. That the medium was never written and that the strap and every loop line are low is the
model's choice (log 2); the numbering of candidates is its own (log 4), and the presence condition its reading (log 6).

The four invariants hold at reset. -/
def Obligations.ResetIsBadImageStart : Prop :=
  (State.reset.site.state = .noProfile ∧ State.reset.site.storeLost = true ∧ State.reset.prof.active = defaultProfile
    ∧ State.reset.prof.locked = false ∧ State.reset.prof.audit = 0 ∧ State.reset.prof.boot = 0
    ∧ FreshStart State.reset .power false ∧ BlocksBegun State.reset State.reset
    ∧ (∀ (l : LaneIx) (d : LoopPos), (State.reset.loops[l].loop d).high = false) ∧ State.reset.pending = [])
  ∧ (StoreLimits State.reset ∧ IdleLanesEmpty State.reset ∧ CountLimits State.reset ∧ FormerLimits State.reset)

/-! ### Starts (R168, R170, R171, R186) -/

/-- While RESET_N is held low the part does nothing: no command but a start moves it (R170). The level of a loop pin is
outside the part and follows LOOP_LINE_CHANGE. -/
def Obligations.HeldInResetDoesNothing : Prop :=
  ∀ (s : State) (c : Instr), s.heldLow = true →
    (∀ strap, c ≠ .powerOn strap) → (∀ strap, c ≠ .lineReset strap) → c ≠ .resetNHeldLow →
    (∀ l d high, c ≠ .loopLineChange l d high) → exec c s = .next s

/-- RESET_N held low puts every block at its start values (R22, R40, R43, R61, R81, R132, R149, R152, R170, R172, R176, R182,
R186): the channels, the loops but for the levels of their pins, the presence machines, the converter, the probes and lane
temperatures, the axle former, the frames, the store, the counter, the calibration windows, the claim, the marks and reasons
of the profile store, site time, its epoch, the closures, a pending restart and the ports. What the image check fixes (the
active set, the factors, the lock, the audit and boot counts) waits for it as it was.

A write in progress is cut short (R166). That this comes at the low level, before the release, is the model's choice (DESIGN
CHOICE, log 16), and so is the phase of the running millisecond (DESIGN CHOICE, log 7). The numbering of candidates is the
model's own (log 4). -/
def Obligations.ResetLineHoldsStartValues : Prop :=
  ∀ s : State, ∃ t, exec .resetNHeldLow s = .next t ∧ t.heldLow = true ∧ StartBlocks s t ∧ t.store = [] ∧ t.asm.seq = 1
    ∧ t.prof = { s.prof with
        replaced := none, claim := none, generation := 0, lockPending := false, write := none, writeFault := false,
        reasons := { commit := false, lock := false, boot := false, learned := false }, medium := t.prof.medium }
    ∧ (s.prof.write ≠ none → t.prof.medium = .torn) ∧ (s.prof.write = none → t.prof.medium = s.prof.medium)
    ∧ t.site.state = .init ∧ t.site.time = 0 ∧ t.site.timePhase = 0 ∧ t.site.epochSet = false ∧ t.site.restart = none
    ∧ (∀ l : LaneIx, t.site.closed[l] = false) ∧ t.site.storeLost = false ∧ t.site.strapOpen = false
    ∧ (∀ p : Port, PortAtStart p (t.port p) ∧ (t.port p).setAfterFrame = false) ∧ t.ports.stream = false
    ∧ t.pending = s.pending ∧ t.now = s.now ∧ t.freeReads = s.freeReads

/-- Power-on and line reset with a good image (R168, R170): the image's values after the strap's clearing, the boot count
raised, BOOT placed, and the site in INIT.

Every block begins afresh on the image's set (R22, R40, R43, R61, R81, R132, R149): mapped channels settle with sums, buckets,
miss and discard counts 0, the loops are read from their pins, enabled probes are in WARMUP with counts 0 and the others
ABSENT, lane temperatures are NONE, the slot is empty, the zero fault mark and the counts are clear and the first pass has
begun, and pending lists and late counts are empty. That a lane's presence condition then begins to hold is the model's
reading (DEDUCED, log 6), and that a line reset with no low level before it stands for a whole pulse its choice (DESIGN CHOICE,
log 16); the numbering of candidates is its own (log 4). -/
def Obligations.PowerUpOnGoodImage : Prop :=
  ∀ (s : State) (strap : Bool) (i : Image) (c : Instr) (cause : StartCause),
    (c = .powerOn strap ∧ cause = .power ∧ s.heldLow = false) ∨ (c = .lineReset strap ∧ cause = .line) →
    s.prof.write = none → s.prof.medium.goodImage = some i →
    ∃ t, exec c s = .next t ∧ FreshStart t cause strap ∧ t.site.state = .init ∧ t.site.storeLost = false
      ∧ t.prof.active = i.profile ∧ t.prof.locked = (i.locked && !strap)
      ∧ t.prof.audit = (if strap = true ∧ i.locked = true then min (i.audit + 1) 4294967295 else i.audit)
      ∧ t.prof.boot = min (i.boot + 1) 4294967295
      ∧ t.prof.reasons = { commit := false, lock := false, boot := true, learned := false }
      ∧ t.prof.medium = s.prof.medium
      ∧ (∀ l : LaneIx, t.cal[l] =
          { window := [], anchor := none, fA := i.cal[l].fA, updates := i.cal[l].updates, limit := i.cal[l].limit,
            outcome := none })
      ∧ BlocksBegun s t ∧ t.pending = s.pending ∧ t.now = s.now ∧ t.freeReads = s.freeReads

/-- Power-on and line reset with a bad image (R164, R168, R170): the default set, factors 4,096, lock clear, counts 0,
STORE_LOST, NOPROFILE, and no write placed.

Every block begins afresh on the default set (R22, R40, R43, R61, R81, R132, R149), which maps no channel and enables no probe:
every channel is OFF with its counts 0, the loops are read from their pins, every probe is ABSENT with counts 0, lane
temperatures are NONE, the slot is empty, the zero fault mark and the counts are clear and the first pass has begun with the
zero reference alone, and pending lists and late counts are empty. That a lane's presence condition then begins to hold is the
model's reading (DEDUCED, log 6), and that a line reset with no low level before it stands for a whole pulse its choice (DESIGN
CHOICE, log 16); the numbering of candidates is its own (log 4). -/
def Obligations.PowerUpOnBadImage : Prop :=
  ∀ (s : State) (strap : Bool) (c : Instr) (cause : StartCause),
    (c = .powerOn strap ∧ cause = .power ∧ s.heldLow = false) ∨ (c = .lineReset strap ∧ cause = .line) →
    BadMedium s.prof →
    ∃ t, exec c s = .next t ∧ FreshStart t cause strap ∧ t.site.state = .noProfile ∧ t.site.storeLost = true
      ∧ t.prof.active = defaultProfile ∧ t.prof.locked = false ∧ t.prof.audit = 0 ∧ t.prof.boot = 0
      ∧ t.prof.reasons = { commit := false, lock := false, boot := false, learned := false }
      ∧ (s.prof.write ≠ none → t.prof.medium = .torn) ∧ (s.prof.write = none → t.prof.medium = s.prof.medium)
      ∧ (∀ l : LaneIx, t.cal[l] =
          { window := [], anchor := none, fA := 4096, updates := 0, limit := false, outcome := none })
      ∧ BlocksBegun s t ∧ (∀ k : ChanIx, t.strip.channels[k].state = .off)
      ∧ (∀ q : ProbeIx, t.temp.probes[q].state = .absent) ∧ t.temp.passList = []
      ∧ t.pending = s.pending ∧ t.now = s.now ∧ t.freeReads = s.freeReads

/-- A restart (R171): it keeps the store, the sequence counter, the write-fault mark and the strap report, discards every
open frame, releases the claim, and runs on the image, or on the default set with the generation raised. Each receiver
enters HUNT, each reply list is emptied and a held request dropped (R177, R186), and a frame being sent goes on.

Every block begins afresh on that set, as at a power-on (R22, R40, R43, R61, R81, R132): sums, buckets, miss and discard
counts, pending lists, candidates, late counts, probes, lane temperatures, the slot, the zero fault mark and counts and the
closures keep nothing. Every lane takes fA, update count and limit flag from the image or the default set and loses window,
anchor and last offer outcome (R149). That a lane's presence condition then begins to hold is the model's reading (DEDUCED, log
6); the numbering of candidates is its own (log 4).

That each port is set by itself, at once where it sends nothing and else after its frame, and that streaming goes off and
receiver, list and held request are cleared at once even while a frame goes on, is the model's choice (DESIGN CHOICE, log
20). -/
def Obligations.RestartKeepsStore : Prop :=
  ∀ s : State, s.heldLow = false → s.site.restart = some { replySent := true } → s.prof.write = none →
    s.prof.reasons = { commit := false, lock := false, boot := false, learned := false } →
    ∃ t, exec .restartTakesPlace s = .next t ∧ t.store = s.store ∧ t.asm.seq = s.asm.seq
      ∧ t.prof.writeFault = s.prof.writeFault ∧ t.site.strapOpen = s.site.strapOpen ∧ t.site.cause = .restart
      ∧ t.site.restart = none ∧ t.prof.claim = none ∧ t.prof.reasons = s.prof.reasons ∧ t.prof.medium = s.prof.medium
      ∧ t.site.time = 0 ∧ t.site.epochSet = false ∧ (∀ l : LaneIx, t.site.closed[l] = false)
      ∧ t.prof.lockPending = false ∧ t.prof.write = none ∧ t.ports.stream = false ∧ BlocksBegun s t
      ∧ KeepsAllBut [.strip, .loops, .temp, .former, .asm, .cal, .prof, .site, .ports] s t
      ∧ (∀ p : Port, (t.port p).rx = .hunt ∧ (t.port p).deferred = none ∧ (t.port p).tx = (s.port p).tx
          ∧ (t.port p).replies = [] ∧ ((s.port p).tx = none → PortAtStart p (t.port p))
          ∧ (t.port p).setAfterFrame = (s.port p).tx.isSome)
      ∧ (∀ i, s.prof.medium.goodImage = some i →
          t.site.state = .standby ∧ t.prof.active = i.profile ∧ t.prof.generation = s.prof.generation
            ∧ t.prof.locked = s.prof.locked ∧ t.prof.audit = s.prof.audit ∧ t.prof.boot = s.prof.boot
            ∧ t.site.storeLost = false
            ∧ ∀ l : LaneIx, t.cal[l].fA = i.cal[l].fA ∧ t.cal[l].updates = i.cal[l].updates
              ∧ t.cal[l].limit = i.cal[l].limit)
      ∧ (s.prof.medium.goodImage = none →
          t.site.state = .noProfile ∧ t.prof.active = defaultProfile
            ∧ t.prof.generation = min (s.prof.generation + 1) 4294967295 ∧ t.prof.locked = false ∧ t.prof.audit = 0
            ∧ t.prof.boot = 0 ∧ t.site.storeLost = true
            ∧ ∀ l : LaneIx, t.cal[l].fA = 4096 ∧ t.cal[l].updates = 0 ∧ t.cal[l].limit = false)

/-! ### Strip channels (chapter 1) -/

/-- An OFF channel takes no sample (R2). A SETTLING channel sums its samples; the 256th sets the baseline to the rounded
mean, and the channel enters NORMAL with CHANNEL_STATE (R3). -/
def Obligations.SettlingSamples : Prop :=
  ∀ (s : State) (c : ChanIx) (x : BitVec 16), s.heldLow = false →
    (s.strip.channels[c].state = .off → exec (.stripSample c x) s = .next s)
    ∧ (s.strip.channels[c].state = .settling → s.strip.channels[c].settleCount < 255 →
        exec (.stripSample c x) s = .next (s.setChannel c
          { s.strip.channels[c] with
            settleSum := s.strip.channels[c].settleSum + x.toInt,
            settleCount := s.strip.channels[c].settleCount + 1 }))
    ∧ (∀ cmd, IsSample cmd (.settlingComplete c x) c x → s.strip.channels[c].state = .settling →
        s.strip.channels[c].settleCount = 255 →
        ∃ t, exec cmd s = .next t
          ∧ t.strip = { s.strip with channels := (s.strip.channels.set c
              { s.strip.channels[c] with
                state := .normal, settleSum := 0, settleCount := 0, detector := .quiet,
                baseline := some (roundHalfAway (s.strip.channels[c].settleSum + x.toInt) 256) }) }
          ∧ OneEvent .channelState (itemBit c.val) s t ∧ KeepsAllBut [.strip, .ports] s t)

/-- A QUIET sample (R4, R5): at or above the trigger threshold it arms the detector, and below it the baseline moves by the
difference over 256, rounded half away from zero.

In ARMING the next sample begins the hit with both samples, or returns to QUIET as a quiet sample. In IN_HIT and ENDING a
sample at or above half the threshold is taken into the hit, after the samples a broken end run held apart; a lower one
is held apart (R5, R6). The samples here leave the hit below 2,048 samples and the run below 4. -/
def Obligations.QuietSample : Prop :=
  (∀ (s : State) (c : ChanIx) (x : BitVec 16) (b : Int), s.heldLow = false → Detects s.strip.channels[c] b →
    s.strip.channels[c].detector = .quiet →
    (((s.stripEntry c).trigger : Int) ≤ deviationOf b x →
      exec (.stripSample c x) s = .next (s.setChannel c
        { s.strip.channels[c] with
          detector := .arming s.now (deviationOf b x) (decide (x.toInt = -32768 ∨ x.toInt = 32767)) }))
    ∧ (deviationOf b x < ((s.stripEntry c).trigger : Int) →
      exec (.stripSample c x) s = .next (s.setChannel c
        { s.strip.channels[c] with baseline := some (b + roundHalfAway (x.toInt - b) 256) })))
  ∧ (∀ (s : State) (c : ChanIx) (x : BitVec 16) (b : Int) (t0 : Tick) (d0 : Int) (c0 : Bool), s.heldLow = false →
    Detects s.strip.channels[c] b → s.strip.channels[c].detector = .arming t0 d0 c0 →
    (((s.stripEntry c).trigger : Int) ≤ deviationOf b x →
      exec (.stripSample c x) s = .next (s.setChannel c
        { s.strip.channels[c] with
          detector := (.inHit
            { start := t0, area := d0.toNat + (deviationOf b x).toNat, peak := max d0 (deviationOf b x),
              clips := (if c0 = true then 1 else 0) + clipOf x, samples := 2 }) }))
    ∧ (deviationOf b x < ((s.stripEntry c).trigger : Int) →
      exec (.stripSample c x) s = .next (s.setChannel c
        { s.strip.channels[c] with
          detector := .quiet, baseline := some (b + roundHalfAway (x.toInt - b) 256) })))
  ∧ (∀ (s : State) (c : ChanIx) (x : BitVec 16) (b : Int) (h : HitAcc), s.heldLow = false →
    Detects s.strip.channels[c] b → s.strip.channels[c].detector = .inHit h → h.samples < 2047 →
    ((((s.stripEntry c).trigger / 2 : Nat) : Int) ≤ deviationOf b x →
      exec (.stripSample c x) s = .next (s.setChannel c
        { s.strip.channels[c] with
          detector := (.inHit
            { start := h.start, area := h.area + (deviationOf b x).toNat, peak := max h.peak (deviationOf b x),
              clips := h.clips + clipOf x, samples := h.samples + 1 }) }))
    ∧ (deviationOf b x < (((s.stripEntry c).trigger / 2 : Nat) : Int) →
      exec (.stripSample c x) s = .next (s.setChannel c
        { s.strip.channels[c] with
          detector := (.ending h
            { first := s.now, run := 1, sum := (deviationOf b x).toNat, clips := clipOf x }) })))
  ∧ (∀ (s : State) (c : ChanIx) (x : BitVec 16) (b : Int) (h : HitAcc) (e : EndRun), s.heldLow = false →
    Detects s.strip.channels[c] b → s.strip.channels[c].detector = .ending h e → h.samples + e.run < 2047 →
    ((((s.stripEntry c).trigger / 2 : Nat) : Int) ≤ deviationOf b x →
      exec (.stripSample c x) s = .next (s.setChannel c
        { s.strip.channels[c] with
          detector := (.inHit
            { start := h.start, area := h.area + e.sum + (deviationOf b x).toNat, peak := max h.peak (deviationOf b x),
              clips := h.clips + e.clips + clipOf x, samples := h.samples + e.run + 1 }) }))
    ∧ (deviationOf b x < (((s.stripEntry c).trigger / 2 : Nat) : Int) → e.run < 3 →
      exec (.stripSample c x) s = .next (s.setChannel c
        { s.strip.channels[c] with
          detector := (.ending h
            { first := e.first, run := e.run + 1, sum := e.sum + (deviationOf b x).toNat,
              clips := e.clips + clipOf x }) })))

/-- The fourth sample of an ENDING run ends the hit (R7). With no lane, or in a lane that is not active, it is discarded
without count; a DEAD channel's is counted as a discard (R10). Nothing else moves.

A hit still open at its 2,048th sample is cut off, whether the sample joins the hit or its ENDING run does not reach 4 with
it; it is counted as a discard in an active lane only. A recovery run counts low samples, begins again at a high one, and
at four returns the detector to QUIET; nothing else moves (R8, R10). -/
def Obligations.HitsEndWithoutDelivery : Prop :=
  (∀ (s : State) (c : ChanIx) (x : BitVec 16) (b : Int) (h : HitAcc) (e : EndRun) (cmd : Instr),
    IsSample cmd (.hitEnd c x) c x → s.heldLow = false → Detects s.strip.channels[c] b →
    s.strip.channels[c].detector = .ending h e → e.run = 3 →
    deviationOf b x < (((s.stripEntry c).trigger / 2 : Nat) : Int) →
    ((∀ l, (s.stripEntry c).lane = some l → s.laneActive l = false) →
      exec cmd s = .next (s.setChannel c { s.strip.channels[c] with detector := .quiet }))
    ∧ (∀ l, (s.stripEntry c).lane = some l → s.laneActive l = true → s.strip.channels[c].state = .dead →
      exec cmd s = .next (s.setChannel c
        { s.strip.channels[c] with
          detector := .quiet, discard := min (s.strip.channels[c].discard + 1) 65535 })))
  ∧ ((∀ (s : State) (c : ChanIx) (x : BitVec 16) (b : Int) (h : HitAcc) (cmd : Instr),
    IsSample cmd (.hitLong c x) c x → s.heldLow = false → Detects s.strip.channels[c] b →
    s.strip.channels[c].detector = .inHit h → h.samples = 2047 →
    exec cmd s = .next (s.setChannel c
      { s.strip.channels[c] with
        detector := .recovering 0,
        discard := if ∃ l, (s.stripEntry c).lane = some l ∧ s.laneActive l = true
          then min (s.strip.channels[c].discard + 1) 65535 else s.strip.channels[c].discard }))
  ∧ (∀ (s : State) (c : ChanIx) (x : BitVec 16) (b : Int) (h : HitAcc) (e : EndRun) (cmd : Instr),
    IsSample cmd (.hitLong c x) c x → s.heldLow = false → Detects s.strip.channels[c] b →
    s.strip.channels[c].detector = .ending h e → h.samples + e.run = 2047 →
    ((((s.stripEntry c).trigger / 2 : Nat) : Int) ≤ deviationOf b x ∨ e.run < 3) →
    exec cmd s = .next (s.setChannel c
      { s.strip.channels[c] with
        detector := .recovering 0,
        discard := if ∃ l, (s.stripEntry c).lane = some l ∧ s.laneActive l = true
          then min (s.strip.channels[c].discard + 1) 65535 else s.strip.channels[c].discard }))
  ∧ (∀ (s : State) (c : ChanIx) (x : BitVec 16) (b : Int) (n : Nat), s.heldLow = false →
    Detects s.strip.channels[c] b → s.strip.channels[c].detector = .recovering n →
    (deviationOf b x < (((s.stripEntry c).trigger / 2 : Nat) : Int) → n < 3 →
      exec (.stripSample c x) s = .next (s.setChannel c { s.strip.channels[c] with detector := .recovering (n + 1) }))
    ∧ ((((s.stripEntry c).trigger / 2 : Nat) : Int) ≤ deviationOf b x →
      exec (.stripSample c x) s = .next (s.setChannel c { s.strip.channels[c] with detector := .recovering 0 })))
  ∧ (∀ (s : State) (c : ChanIx) (x : BitVec 16) (b : Int) (cmd : Instr),
    IsSample cmd (.recoveryEnd c x) c x → s.heldLow = false → Detects s.strip.channels[c] b →
    s.strip.channels[c].detector = .recovering 3 →
    deviationOf b x < (((s.stripEntry c).trigger / 2 : Nat) : Int) →
    exec cmd s = .next (s.setChannel c { s.strip.channels[c] with detector := .quiet })))

/-- A delivered hit (R9, R10, R12) of the leading row in an empty axle former (R62, R67): the bucket rises by the clipped
samples, at most 64, the miss count becomes 0, a NORMAL channel above its clip limit becomes DEGRADED with CHANNEL_STATE,
and the hit waits in its list as the one side of a new candidate of its lane.

In any axle former whose list has room, it joins the eligible candidate that is nearest, on its own pair, or opened first,
unless that candidate's deadline has then passed; or opens one of its own (R67). In a lane that holds 4, the candidate with
the earliest first start completes first, FORCED, and its axle is handed on with its miss notice (R68, R70, R75). Which of
two candidates of one tick was opened first, their numbers tell.

At a list that holds 4 hits the oldest is evicted first (R62): its channel counts a discard (R17), its side leaves its
candidate (R72), and the new hit then joins or opens a candidate as the rest stands. That a straddle candidate which so loses
its first side stays held in the lane it opened in is the model's choice (log 35). -/
def Obligations.LeadingHitDelivered : Prop :=
  (∀ (s : State) (c : ChanIx) (x : BitVec 16) (b : Int) (h : HitAcc) (e : EndRun) (l : LaneIx) (cmd : Instr),
    IsSample cmd (.hitEnd c x) c x → s.heldLow = false → Detects s.strip.channels[c] b →
    s.strip.channels[c].state ≠ .dead → s.strip.channels[c].detector = .ending h e → e.run = 3 →
    deviationOf b x < (((s.stripEntry c).trigger / 2 : Nat) : Int) →
    (s.stripEntry c).lane = some l → s.laneActive l = true →
    ((s.stripEntry c).row = .rowA ↔ s.loops[l].presence ≠ .reverse) →
    (∀ r q, s.waiting r q = []) → (∀ k : LaneIx, s.former.candidates[k] = []) →
    ∃ t a id, exec cmd s = .next t
      ∧ t.strip.channels[c] =
          { s.strip.channels[c] with
            detector := .quiet, miss := 0, bucket := min (s.strip.channels[c].bucket + min h.clips 64) 1023,
            state := if s.strip.channels[c].state = .normal
                ∧ (s.stripEntry c).clipLimit < min (s.strip.channels[c].bucket + min h.clips 64) 1023
              then .degraded else s.strip.channels[c].state }
      ∧ (∀ k : ChanIx, k ≠ c → t.strip.channels[k] = s.strip.channels[k])
      ∧ a = { channel := c, lane := l, row := (s.stripEntry c).row, side := (s.stripEntry c).side, start := h.start,
              stop := e.first, area := h.area, peak := h.peak, samples := elapsed h.start e.first, clips := h.clips,
              clip := decide (t.strip.channels[c].state = .degraded) }
      ∧ (∀ r q, t.waiting r q = if r = a.row ∧ q = segmentPos l a.side then [a] else [])
      ∧ t.former.candidates[l] = [{ id := id, opened := s.now, sides := [.waiting a] }]
      ∧ (∀ k : LaneIx, k ≠ l → t.former.candidates[k] = [])
      ∧ (t.strip.channels[c].state ≠ s.strip.channels[c].state → OneEvent .channelState (itemBit c.val) s t)
      ∧ (t.strip.channels[c].state = s.strip.channels[c].state → t.ports = s.ports)
      ∧ KeepsAllBut [.strip, .former, .ports] s t)
  ∧ (∀ (s : State) (c : ChanIx) (x : BitVec 16) (h : HitAcc) (e : EndRun) (l : LaneIx) (cmd : Instr) (a : HitRec),
    IsSample cmd (.hitEnd c x) c x → Delivers s c x l h e → FormerLimits s →
    ((s.stripEntry c).row = .rowA ↔ s.loops[l].presence ≠ .reverse) → a = deliveredHit s c l h e →
    (s.waiting a.row a.pos).length < 4 →
    (∀ (k : LaneIx) (pre post : List Candidate) (c0 : Candidate), s.former.candidates[k] = pre ++ c0 :: post →
      Joins s a.pos a.start k c0 →
      ∃ t, exec cmd s = .next t
        ∧ t.strip = { s.strip with channels := s.strip.channels.set c (pouredChannel s c h.clips) }
        ∧ PouredEvent s c h.clips t
        ∧ (∀ r q, t.waiting r q = s.waiting r q ++ (if r = a.row ∧ q = a.pos then [a] else []))
        ∧ t.former.candidates = s.former.candidates.set k (pre ++ { c0 with sides := c0.sides ++ [.waiting a] } :: post)
        ∧ t.former.nextId = s.former.nextId ∧ t.former.late = s.former.late ∧ KeepsAllBut [.strip, .former, .ports] s t)
    ∧ (Opens s a.pos a.start →
      ∃ t, exec cmd s = .next t
        ∧ t.strip = { s.strip with channels := s.strip.channels.set c (pouredChannel s c h.clips) }
        ∧ PouredEvent s c h.clips t
        ∧ (∀ r q, t.waiting r q = s.waiting r q ++ (if r = a.row ∧ q = a.pos then [a] else []))
        ∧ t.former.candidates = s.former.candidates.set l (s.former.candidates[l]
            ++ [{ id := s.former.nextId, opened := s.now, sides := [.waiting a] }])
        ∧ t.former.nextId = s.former.nextId + 1 ∧ t.former.late = s.former.late
        ∧ KeepsAllBut [.strip, .former, .ports] s t)
    ∧ (∀ (pre post : List Candidate) (c0 : Candidate) (h0 : HitRec) (b : ChanIx), s.loops[l].presence ≠ .reverse →
      s.former.candidates[l] = pre ++ c0 :: post → 4 ≤ s.former.candidates[l].length →
      (∀ (k : LaneIx) (c' : Candidate), c' ∈ s.former.candidates[k] → ∀ d, ¬ Eligible s c' a.pos a.start d) →
      c0.sides = [.waiting h0] → h0.lane = l → h0.row = .rowA → h0.start ≠ a.start →
      (∀ c' ∈ pre ++ post, (0 < elapsed h0.start c'.firstStart ∧ elapsed h0.start c'.firstStart < 2 ^ 31)
        ∨ (c'.firstStart = h0.start ∧ c0.id < c'.id)) →
      OnlyMappedAt s .rowB h0.pos b → CountsMisses s.strip.channels[b] → s.strip.channels[b].miss < 31 →
      s.asm.frames[l] = none →
      ∃ t f y, exec cmd s = .next t
        ∧ t.strip = { s.strip with
            channels := ((s.strip.channels.set c (pouredChannel s c h.clips)).set b
              { s.strip.channels[b] with miss := s.strip.channels[b].miss + 1 }) }
        ∧ PouredEvent s c h.clips t
        ∧ (∀ r q, t.waiting r q = (s.waiting r q).filter (fun z => decide (z ≠ h0))
            ++ (if r = a.row ∧ q = a.pos then [a] else []))
        ∧ t.former.candidates = s.former.candidates.set l (pre ++ post
            ++ [{ id := s.former.nextId, opened := s.now, sides := [.waiting a] }])
        ∧ t.former.nextId = s.former.nextId + 1 ∧ t.former.late = s.former.late
        ∧ t.asm = { s.asm with frames := s.asm.frames.set l (some f) } ∧ f.axles = [{ axle := y, spacing := none }]
        ∧ y.lane = l ∧ y.time = h0.start ∧ y.wheels.length = 1 ∧ hasFlag y.flags .forced = true
        ∧ hasFlag y.flags .single = true ∧ hasFlag y.flags .oneRow = true
        ∧ KeepsAllBut [.strip, .loops, .former, .asm, .ports] s t))
  ∧ (∀ (s : State) (c : ChanIx) (x : BitVec 16) (h : HitAcc) (e : EndRun) (l : LaneIx) (cmd : Instr) (a old : HitRec)
      (rest : List HitRec),
    IsSample cmd (.hitEnd c x) c x → Delivers s c x l h e → FormerLimits s →
    ((s.stripEntry c).row = .rowA ↔ s.loops[l].presence ≠ .reverse) → a = deliveredHit s c l h e →
    s.waiting a.row a.pos = old :: rest → rest.length = 3 → NoneThenOverdue s old →
    ∃ u, Evicted c h.clips old s u
      ∧ (∀ (k : LaneIx) (pre post : List Candidate) (c0 : Candidate), u.former.candidates[k] = pre ++ c0 :: post →
        Joins u a.pos a.start k c0 →
        ∃ t, exec cmd s = .next t
          ∧ (∀ r q, t.waiting r q = u.waiting r q ++ (if r = a.row ∧ q = a.pos then [a] else []))
          ∧ t.former.candidates = u.former.candidates.set k (pre ++ { c0 with sides := c0.sides ++ [.waiting a] } :: post)
          ∧ t.former.nextId = u.former.nextId ∧ t.former.late = u.former.late ∧ KeepsAllBut [.former] u t)
      ∧ (Opens u a.pos a.start →
        ∃ t, exec cmd s = .next t
          ∧ (∀ r q, t.waiting r q = u.waiting r q ++ (if r = a.row ∧ q = a.pos then [a] else []))
          ∧ t.former.candidates = u.former.candidates.set l (u.former.candidates[l]
              ++ [{ id := u.former.nextId, opened := u.now, sides := [.waiting a] }])
          ∧ t.former.nextId = u.former.nextId + 1 ∧ t.former.late = u.former.late ∧ KeepsAllBut [.former] u t))

/-- The leak (R13): every 400 ticks each channel that is not OFF loses 1 of a level above 0, and a DEGRADED channel at or
below half its clip limit returns to NORMAL, with one CHANNEL_STATE for each (R18). -/
def Obligations.BucketsLeak : Prop :=
  ∀ s : State, s.heldLow = false → hasPassed s.strip.leakStart 400 s.now = true →
    ∃ t, exec .bucketLeak s = .next t ∧ t.strip.leakStart = s.strip.leakStart + 400
      ∧ (∀ c : ChanIx, t.strip.channels[c] =
          if s.strip.channels[c].state = .off then s.strip.channels[c]
          else { s.strip.channels[c] with
            bucket := s.strip.channels[c].bucket - 1,
            state := if s.strip.channels[c].state = .degraded
                ∧ s.strip.channels[c].bucket - 1 ≤ (s.stripEntry c).clipLimit / 2
              then .normal else s.strip.channels[c].state })
      ∧ ((∀ c : ChanIx, t.strip.channels[c].state = s.strip.channels[c].state) → t.ports = s.ports)
      ∧ EachEvent .channelState
          (((List.finRange 24).filter (fun c : ChanIx => decide (s.strip.channels[c].state = .degraded
            ∧ s.strip.channels[c].bucket - 1 ≤ (s.stripEntry c).clipLimit / 2))).map (fun c => itemBit c.val)) s t
      ∧ KeepsAllBut [.strip, .ports] s t

/-- CHANNEL_REARM (R20): a number outside 1 to 24 and an OFF channel are refused; any other channel enters SETTLING with
its discard count kept, and CHANNEL_STATE is raised. -/
def Obligations.ChannelRearmed : Prop :=
  ∀ (s : State) (p : Port) (tag b : Byte), Admitted .channelRearm p [b] s →
    ((b.toNat = 0 ∨ 24 < b.toNat) → exec (.channelRearm p tag [b]) s =
      .next (s.withReply p (refusalReply ReqKind.channelRearm.code tag .badValue 0 0)))
    ∧ (∀ c : ChanIx, b.toNat = c.val + 1 →
      (s.strip.channels[c].state = .off → exec (.channelRearm p tag [b]) s =
        .next (s.withReply p (refusalReply ReqKind.channelRearm.code tag .badValue 0 0)))
      ∧ (s.strip.channels[c].state ≠ .off → exec (.channelRearm p tag [b]) s =
        .next (((s.setChannel c
          { state := .settling, settleSum := 0, settleCount := 0, baseline := none, detector := .quiet, bucket := 0,
            miss := 0, discard := s.strip.channels[c].discard }).raise .channelState (itemBit c.val)).withReply p
              (okReply .channelRearm tag []))))

/-! ### Loops and presence (chapter 2) -/

/-- A loop line takes a level (R23): one that agrees with the filtered state cancels a pending change; one that differs
begins one at this tick, or lets the pending one run on. That a line which changes twice within one tick is read at each
change is the model's choice (log 33). -/
def Obligations.LineLevelRead : Prop :=
  ∀ (s : State) (l : LaneIx) (d : LoopPos) (high : Bool), s.heldLow = false →
    exec (.loopLineChange l d high) s = .next (s.setLaneMon l (s.loops[l].setLoop d
      { s.loops[l].loop d with
        high := high,
        change := if high = decide ((s.loops[l].loop d).filtered ≠ .free) then none
          else match (s.loops[l].loop d).change with
            | some ct => some ct
            | none => some s.now }))

/-- An accepted change (R23) of a loop that is not STUCK moves its filtered state and the presence machine (R28). D
OCCUPIED in IDLE makes the machine REVERSE, raises WRONG_WAY and makes the loop speed absent (R29); no other accepted
change raises an event, and only U FREE may touch the open frame.

U FREE in ENTERING or SPANNING with a U occupancy start makes the occupancy report: its length becomes that of the open
frame, and a shared one marks the frame, which then takes no length (R32, R33, R114). That it becomes the lane's last length
with a frame open as well as without one is the model's reading (DEDUCED, log 19). A change that only a commit of this tick
makes long enough waits for the next reading (R24). -/
def Obligations.PresenceMoves : Prop :=
  (∀ (s : State) (l : LaneIx) (d : LoopPos) (ct : Tick), s.heldLow = false → ChangeReady s l d ct →
    (s.loops[l].loop d).filtered ≠ .stuck →
    ∃ t, exec (.loopChangeAccept l d) s = .next t
      ∧ (t.loops[l].loop d).filtered = (if (s.loops[l].loop d).filtered = .free then .occupied else .free)
      ∧ (t.loops[l].loop d).change = none
      ∧ t.loops[l].presence = presenceAfter d (decide ((s.loops[l].loop d).filtered = .free)) s.loops[l]
      ∧ (∀ k : LaneIx, k ≠ l → t.loops[k] = s.loops[k] ∧ t.asm.frames[k] = s.asm.frames[k])
      ∧ (d = .down → (s.loops[l].loop d).filtered = .free → s.loops[l].presence = .idle →
          t.loops[l].speed = none ∧ OneEvent .wrongWay (itemBit l.val) s t)
      ∧ (¬ (d = .down ∧ (s.loops[l].loop d).filtered = .free ∧ s.loops[l].presence = .idle) → t.ports = s.ports)
      ∧ (¬ (d = .up ∧ (s.loops[l].loop d).filtered = .occupied) → t.asm = s.asm)
      ∧ (d = .up → (s.loops[l].loop d).filtered = .occupied →
          (∀ u, s.loops[l].uStart = some u → s.loops[l].presence = .entering ∨ s.loops[l].presence = .spanning →
            t.loops[l].lastLength = reportedLength s l u ct
              ∧ t.asm = { s.asm with frames := (s.asm.frames.set l ((s.asm.frames[l]).map (fun f =>
                  if f.shared = true then f
                  else { f with
                    shared := decide (1 < s.loops[l].frameCount), length := reportedLength s l u ct }))) })
          ∧ (s.loops[l].uStart = none ∨ (s.loops[l].presence ≠ .entering ∧ s.loops[l].presence ≠ .spanning) →
            t.loops[l].lastLength = s.loops[l].lastLength ∧ t.asm = s.asm))
      ∧ KeepsAllBut [.loops, .asm, .ports] s t)
  ∧ (∀ (s : State) (l : LaneIx) (d : LoopPos) (ct : Tick), (s.loops[l].loop d).change = some ct →
    BroughtForward s ct (rejectSpan l) → exec (.loopChangeAccept l d) s = .next s)

/-- A loop speed attempt (R30): D OCCUPIED in ENTERING with a U onset and the paired mark clear sets the current loop speed
to spacing × 8,000 / Δ rounded half up if it lies in the weighing range, and makes it absent otherwise. -/
def Obligations.LoopSpeedAttempt : Prop :=
  ∀ (s : State) (l : LaneIx) (ct u : Tick), s.heldLow = false → ChangeReady s l .down ct →
    s.loops[l].down.filtered = .free → s.loops[l].presence = .entering → s.loops[l].uOnset = some u →
    s.loops[l].paired = false →
    ∃ t, exec (.loopChangeAccept l .down) s = .next t ∧ t.loops[l].presence = .spanning ∧ t.loops[l].paired = true
      ∧ t.loops[l].dOnset = some ct ∧ t.loops[l].stallStart = some s.now
      ∧ (∀ v : Nat, 0 < elapsed u ct → v = ((s.laneEntry l).loopSpacing * 8000 * 2 + elapsed u ct) / (2 * elapsed u ct) →
          t.loops[l].speed = if 1500 ≤ v ∧ v ≤ 60000 then some (v, s.now) else none)
      ∧ (elapsed u ct = 0 → t.loops[l].speed = none)
      ∧ KeepsAllBut [.loops] s t

/-- STUCK (R25, R26): 300 s after an accepted OCCUPIED the loop becomes STUCK, LOOP_STUCK names it, and the machine takes
a FREE without an occupancy report; the next accepted FREE returns the loop to FREE and does nothing else. -/
def Obligations.StuckLoop : Prop :=
  (∀ (s : State) (l : LaneIx) (d : LoopPos) (t0 : Tick), s.heldLow = false →
    (s.loops[l].loop d).stuckStart = some t0 → hasPassed t0 2400000 s.now = true →
    ∃ t, exec (.stuckExpiry l d) s = .next t ∧ (t.loops[l].loop d).filtered = .stuck
      ∧ (t.loops[l].loop d).stuckStart = none ∧ t.loops[l].presence = presenceAfter d false s.loops[l]
      ∧ t.loops[l].lastLength = s.loops[l].lastLength ∧ (∀ k : LaneIx, k ≠ l → t.loops[k] = s.loops[k])
      ∧ OneEvent .loopStuck (loopBit l d) s t ∧ KeepsAllBut [.loops, .ports] s t)
  ∧ (∀ (s : State) (l : LaneIx) (d : LoopPos) (ct : Tick), s.heldLow = false → ChangeReady s l d ct →
    (s.loops[l].loop d).filtered = .stuck →
    exec (.loopChangeAccept l d) s = .next (s.setLaneMon l (s.loops[l].setLoop d
      { s.loops[l].loop d with filtered := .free, change := none, stuckStart := none })))

/-- The timers of a lane: the loop speed expires after 80,000 ticks (R31); at the stall time a lane becomes CONGESTED with
LANE_CONGESTED, and its open frame is flagged, but at the next tick where only a commit of this tick brings the expiry
forward (R34); 16,000 ticks of IDLE end it with LANE_CLEAR (R35). -/
def Obligations.LaneTimersExpire : Prop :=
  ∀ (s : State) (l : LaneIx) (t0 : Tick), s.heldLow = false →
    (∀ v, s.loops[l].speed = some (v, t0) → hasPassed t0 80000 s.now = true →
      exec (.loopSpeedExpiry l) s = .next (s.setLaneMon l { s.loops[l] with speed := none }))
    ∧ (s.loops[l].stallStart = some t0 → BroughtForward s t0 (fun p => 8000 * p.lanes[l].stallS) →
      exec (.stallExpiry l) s = .next s)
    ∧ (s.loops[l].stallStart = some t0 → SpanPassed s t0 (fun p => 8000 * p.lanes[l].stallS) →
      ∃ t, exec (.stallExpiry l) s = .next t ∧ t.loops[l].congested = true ∧ t.loops[l].stallStart = none
        ∧ t.loops[l].presence = s.loops[l].presence ∧ KeepsAllBut [.loops, .asm, .ports] s t
        ∧ (∀ k : LaneIx, k ≠ l → t.loops[k] = s.loops[k] ∧ t.asm.frames[k] = s.asm.frames[k])
        ∧ (s.loops[l].congested = true → t.asm = s.asm ∧ t.ports = s.ports)
        ∧ (s.loops[l].congested = false → OneEvent .laneCongested (itemBit l.val) s t
          ∧ t.asm.frames[l] =
            (s.asm.frames[l]).map (fun f => { f with flags := f.flags ||| BitVec.ofNat 32 (2 ^ 14) })))
    ∧ (s.loops[l].clearStart = some t0 → hasPassed t0 16000 s.now = true →
      ∃ t, exec (.clearExpiry l) s = .next t
        ∧ t.loops = s.loops.set l { s.loops[l] with congested := false, clearStart := none, idleSince := some s.now }
        ∧ OneEvent .laneClear (itemBit l.val) s t ∧ KeepsAllBut [.loops, .ports] s t)

/-! ### Pavement temperature (chapter 3) -/

/-- A pass-start event (R42, R44): during a pass it only counts as late; otherwise the list becomes the zero reference and
the enabled probes in ascending number, and an idle converter with an empty slot takes the zero reference at once.

A zero reference result z (R46): up to 64 either way it becomes the offset and clears ZERO_FAULT; beyond, the offset
stays, ZERO_FAULT is set and the count rises. Then the next input is selected (R42). -/
def Obligations.PassAndZeroReference : Prop :=
  (∀ (s : State) (t0 : Tick), s.heldLow = false → s.temp.lastPass = some t0 →
    hasPassed t0 (8000 * s.prof.active.site.scanPeriod) s.now = true →
    (s.temp.passInProgress = true → exec .passStart s =
      .next (s.setTemp { s.temp with late := min (s.temp.late + 1) 65535, lastPass := some s.now }))
    ∧ (s.temp.passInProgress = false → s.temp.conv = none → s.temp.slot = none → exec .passStart s =
      .next (s.setTemp { s.temp with
        conv := some { input := .zref, origin := .scan, start := s.now }, lastPass := some s.now,
        passList := ((List.finRange 8).filter (fun p => s.prof.active.probes.entries[p].enabled)).map ConvInput.probe }))
    ∧ (s.temp.passInProgress = false → s.temp.conv ≠ none → exec .passStart s =
      .next (s.setTemp { s.temp with
        lastPass := some s.now,
        passList := .zref ::
          ((List.finRange 8).filter (fun p => s.prof.active.probes.entries[p].enabled)).map ConvInput.probe })))
  ∧ (∀ (s : State) (code : BitVec 12) (c : Conversion), s.heldLow = false → s.temp.conv = some c → c.input = .zref →
    hasPassed c.start 160 s.now = true → s.temp.slot = none →
    ∃ t, exec (.conversionComplete code) s = .next t ∧ t.temp.lastZero = some code.toInt
      ∧ (code.toInt.natAbs ≤ 64 →
          t.temp.offset = code.toInt ∧ t.temp.zeroFault = false ∧ t.temp.zeroFaults = s.temp.zeroFaults)
      ∧ (64 < code.toInt.natAbs → t.temp.offset = s.temp.offset ∧ t.temp.zeroFault = true
          ∧ t.temp.zeroFaults = min (s.temp.zeroFaults + 1) 65535)
      ∧ t.temp.conv = (s.temp.passList.head?).map (fun i => { input := i, origin := .scan, start := s.now })
      ∧ t.temp.passList = s.temp.passList.tail ∧ t.temp.probes = s.temp.probes ∧ t.temp.lanes = s.temp.lanes
      ∧ t.temp.late = s.temp.late ∧ t.temp.lastPass = s.temp.lastPass ∧ t.temp.slot = none ∧ KeepsAllBut [.temp] s t)

/-- A good result of a scanned probe in WARMUP (R53): the first three are thrown away, the fourth seeds the filter and makes
the probe VALID. The bad run returns to 0 (R52), and no other probe moves.

A good result t of a scanned VALID probe with filtered value f (R54): within 10.0 °C the filter takes an eighth of the
difference, rounded half away from zero; the first and second beyond are spikes and discarded; the third restarts the
filter at t.

A bad result raises the bad run, and the second makes the probe FAULT; a FAULT probe stays so until a good result, which
is its first warm-up result; both moves raise PROBE_STATE (R52). Under ZERO_FAULT a result moves only the last raw code
and outcome (R47), and one whose probe a commit has disabled meanwhile moves nothing of the probes and lanes (R45, R55). -/
def Obligations.ProbeResultsProcessed : Prop :=
  (∀ (s : State) (code : BitVec 12) (c : Conversion) (q : ProbeIx) (raw : Nat), s.heldLow = false →
    s.temp.conv = some c → c.input = .probe q → c.origin = .scan → c.voided = false → hasPassed c.start 160 s.now = true →
    s.temp.zeroFault = false → s.temp.probes[q].state = .warmup →
    16 ≤ code.toNat → code.toNat ≤ 4079 → raw = (max 0 (min 4095 ((code.toNat : Int) - s.temp.offset))).toNat →
    16 ≤ raw → raw ≤ 4079 →
    ∃ t, exec (.conversionComplete code) s = .next t ∧ (∀ k : ProbeIx, k ≠ q → t.temp.probes[k] = s.temp.probes[k])
      ∧ (s.temp.probes[q].warm ≤ 2 → t.temp.probes[q] =
          { s.temp.probes[q] with
            warm := s.temp.probes[q].warm + 1, badRun := 0, lastRaw := some code.toNat, lastOutcome := some .warmup })
      ∧ (s.temp.probes[q].warm = 3 → t.temp.probes[q] =
          { state := .valid, warm := 0, spike := 0, badRun := 0, lastRaw := some code.toNat,
            lastOutcome := some .seeded, filtered := some (curveTemp s.prof.active.probes q raw) })
      ∧ KeepsAllBut [.temp, .cal, .ports] s t)
  ∧ (∀ (s : State) (code : BitVec 12) (c : Conversion) (q : ProbeIx) (raw : Nat) (f v : Int), s.heldLow = false →
    s.temp.conv = some c → c.input = .probe q → c.origin = .scan → c.voided = false → hasPassed c.start 160 s.now = true →
    s.temp.zeroFault = false → s.temp.probes[q].state = .valid → s.temp.probes[q].filtered = some f →
    16 ≤ code.toNat → code.toNat ≤ 4079 → raw = (max 0 (min 4095 ((code.toNat : Int) - s.temp.offset))).toNat →
    16 ≤ raw → raw ≤ 4079 → v = curveTemp s.prof.active.probes q raw →
    ∃ t, exec (.conversionComplete code) s = .next t ∧ (∀ k : ProbeIx, k ≠ q → t.temp.probes[k] = s.temp.probes[k])
      ∧ ((v - f).natAbs ≤ 100 → t.temp.probes[q] =
          { s.temp.probes[q] with
            filtered := some (f + roundHalfAway (v - f) 8), spike := 0, badRun := 0, lastRaw := some code.toNat,
            lastOutcome := some .filtered })
      ∧ (100 < (v - f).natAbs → s.temp.probes[q].spike ≤ 1 → t.temp.probes[q] =
          { s.temp.probes[q] with
            spike := s.temp.probes[q].spike + 1, badRun := 0, lastRaw := some code.toNat, lastOutcome := some .spike })
      ∧ (100 < (v - f).natAbs → s.temp.probes[q].spike = 2 → t.temp.probes[q] =
          { s.temp.probes[q] with
            filtered := some v, spike := 0, badRun := 0, lastRaw := some code.toNat, lastOutcome := some .seeded })
      ∧ KeepsAllBut [.temp, .cal, .ports] s t)
  ∧ (∀ (s : State) (code : BitVec 12) (c : Conversion) (q : ProbeIx) (raw : Nat), s.heldLow = false →
    s.temp.conv = some c → c.input = .probe q → c.origin = .scan → c.voided = false →
    hasPassed c.start 160 s.now = true → s.temp.zeroFault = false →
    raw = (max 0 (min 4095 ((code.toNat : Int) - s.temp.offset))).toNat →
    (code.toNat < 16 ∨ 4079 < code.toNat ∨ raw < 16 ∨ 4079 < raw) →
    ∃ t, exec (.conversionComplete code) s = .next t ∧ (∀ k : ProbeIx, k ≠ q → t.temp.probes[k] = s.temp.probes[k])
      ∧ (s.temp.probes[q].state = .warmup ∨ s.temp.probes[q].state = .valid →
        (s.temp.probes[q].badRun = 0 → t.temp.probes[q] =
          { s.temp.probes[q] with badRun := 1, lastRaw := some code.toNat, lastOutcome := some .bad })
        ∧ (s.temp.probes[q].badRun ≠ 0 → t.temp.probes[q] =
            { state := .fault, warm := 0, spike := 0, badRun := 0, filtered := none, lastRaw := some code.toNat,
              lastOutcome := some .bad }
          ∧ ∀ p : Port, (t.port p).events[EventClass.probeState.index] =
              cellRaised (itemBit q.val) (s.port p).events[EventClass.probeState.index]))
      ∧ (s.temp.probes[q].state = .fault → t.temp.probes[q] =
          { s.temp.probes[q] with lastRaw := some code.toNat, lastOutcome := some .bad })
      ∧ KeepsAllBut [.temp, .cal, .ports] s t)
  ∧ (∀ (s : State) (code : BitVec 12) (c : Conversion) (q : ProbeIx) (raw : Nat), s.heldLow = false →
    s.temp.conv = some c → c.input = .probe q → c.origin = .scan → c.voided = false →
    hasPassed c.start 160 s.now = true → s.temp.zeroFault = false → s.temp.probes[q].state = .fault →
    16 ≤ code.toNat → code.toNat ≤ 4079 → raw = (max 0 (min 4095 ((code.toNat : Int) - s.temp.offset))).toNat →
    16 ≤ raw → raw ≤ 4079 →
    ∃ t, exec (.conversionComplete code) s = .next t ∧ (∀ k : ProbeIx, k ≠ q → t.temp.probes[k] = s.temp.probes[k])
      ∧ t.temp.probes[q] =
          { s.temp.probes[q] with
            state := .warmup, warm := 1, lastRaw := some code.toNat, lastOutcome := some .warmup }
      ∧ (∀ p : Port, (t.port p).events[EventClass.probeState.index] =
          cellRaised (itemBit q.val) (s.port p).events[EventClass.probeState.index])
      ∧ KeepsAllBut [.temp, .cal, .ports] s t)
  ∧ (∀ (s : State) (code : BitVec 12) (c : Conversion) (q : ProbeIx), s.heldLow = false →
    s.temp.conv = some c → c.input = .probe q → c.origin = .scan → hasPassed c.start 160 s.now = true →
    ∃ t, exec (.conversionComplete code) s = .next t
      ∧ (c.voided = true → t.temp.probes = s.temp.probes ∧ t.temp.lanes = s.temp.lanes ∧ KeepsAllBut [.temp] s t)
      ∧ (c.voided = false → s.temp.probes[q].state ≠ .absent → s.temp.zeroFault = true →
          t.temp.probes = s.temp.probes.set q
              { s.temp.probes[q] with lastRaw := some code.toNat, lastOutcome := some .zeroFault }
            ∧ KeepsAllBut [.temp] s t))

/-- After a scanned probe's result every lane temperature follows the probes as they then stand (R56), and a lane that
leaves LIVE loses its reference window and anchor (R143). Under ZERO_FAULT no lane temperature moves (R47).

A HELD lane whose hold age reaches 1,800 s becomes STALE, keeps its value, and raises LANE_TEMP (R57, R59); no window
is cleared (R143). -/
def Obligations.LaneTemperaturesFollow : Prop :=
  (∀ (s : State) (code : BitVec 12) (c : Conversion) (q : ProbeIx), s.heldLow = false →
    s.temp.conv = some c → c.input = .probe q → c.origin = .scan → c.voided = false → hasPassed c.start 160 s.now = true →
    s.temp.probes[q].state ≠ .absent →
    ∃ t, exec (.conversionComplete code) s = .next t
      ∧ (s.temp.zeroFault = true → t.temp.lanes = s.temp.lanes ∧ t.cal = s.cal)
      ∧ (s.temp.zeroFault = false → ∀ l : LaneIx,
          Follows t.temp.probes (s.laneEntry l) s.temp.lanes[l] t.temp.lanes[l]
            ∧ t.cal[l] = if s.temp.lanes[l].status = .live ∧ t.temp.lanes[l].status ≠ .live
                then { s.cal[l] with window := [], anchor := none } else s.cal[l]))
  ∧ (∀ (s : State) (l : LaneIx), s.heldLow = false → s.temp.lanes[l].status = .held → 1800 ≤ s.temp.lanes[l].holdAge →
    ∃ t, exec (.holdAgeStale l) s = .next t
      ∧ t.temp = { s.temp with lanes := s.temp.lanes.set l { s.temp.lanes[l] with status := .stale } }
      ∧ OneEvent .laneTemp (itemBit l.val) s t ∧ KeepsAllBut [.temp, .ports] s t)

/-- PROBE_NOW (R48): a number above 7 or a disabled probe is BAD_VALUE, a full slot BUSY; otherwise the request fills the
slot and is deferred, and an idle converter starts on it at once.

Where requests of both ports find the slot empty at one moment, the cabinet link's fills it and the service port's is
refused BUSY, whichever stands first: no command between the two keeps the cabinet link's from being taken, and the slot stays
empty for it. That such a moment is one at which the cabinet link's request waits in the queue behind the service port's with
no command between that parts the moments is the model's reading (log 32). -/
def Obligations.ProbeNowTaken : Prop :=
  (∀ s : State, GivesWay s .probeNow s.namesEnabledProbe
    ∧ ∀ b : Byte, s.namesEnabledProbe [b] = true ↔
      ∃ q : ProbeIx, b.toNat = q.val ∧ s.prof.active.probes.entries[q].enabled = true)
  ∧ (∀ (s t : State) (c : Instr), ¬ TellsApart c → exec c s = .next t → s.temp.slot = none →
    t.temp.slot = none ∧ t.prof.active = s.prof.active ∧ KeepsMoment .probeNow s t)
  ∧ ∀ (s : State) (p : Port) (tag b : Byte), Admitted .probeNow p [b] s →
    (8 ≤ b.toNat → exec (.probeNow p tag [b]) s =
      .next (s.withReply p (refusalReply ReqKind.probeNow.code tag .badValue 0 0)))
    ∧ (∀ q : ProbeIx, b.toNat = q.val →
      (s.prof.active.probes.entries[q].enabled = false → exec (.probeNow p tag [b]) s =
        .next (s.withReply p (refusalReply ReqKind.probeNow.code tag .badValue 0 0)))
      ∧ (s.prof.active.probes.entries[q].enabled = true →
          s.temp.slot ≠ none ∨ s.yields p .probeNow s.namesEnabledProbe = true → exec (.probeNow p tag [b]) s =
        .next (s.withReply p (refusalReply ReqKind.probeNow.code tag .busy 0 0)))
      ∧ (s.prof.active.probes.entries[q].enabled = true → s.temp.slot = none →
          s.yields p .probeNow s.namesEnabledProbe = false → s.temp.conv = none →
        exec (.probeNow p tag [b]) s =
          .next ((s.setTemp { s.temp with
            conv := some { input := .probe q, origin := .slot, start := s.now },
            slot := some { probe := q, port := p, selected := true } }).setPort p
              { s.port p with deferred := some { kind := .probeNow, tag := tag } }))
      ∧ (s.prof.active.probes.entries[q].enabled = true → s.temp.slot = none →
          s.yields p .probeNow s.namesEnabledProbe = false → s.temp.conv ≠ none →
        exec (.probeNow p tag [b]) s =
          .next ((s.setTemp { s.temp with slot := some { probe := q, port := p, selected := false } }).setPort p
              { s.port p with deferred := some { kind := .probeNow, tag := tag } })))

/-- The end of the slot's conversion (R49, R179): the result is processed as any probe result, and the lane temperatures
follow it, but under ZERO_FAULT; the reply OK joins the requesting port's list with probe, raw code, corrected raw,
temperature, outcome, state and the filtered value of a VALID probe, the deferred request ends and the slot is emptied.

A commit that disables the slot's probe answers BAD_VALUE at its completion and empties the slot; a conversion then in
progress goes on, and its result is discarded. -/
def Obligations.ProbeNowAnswered : Prop :=
  (∀ (s : State) (code : BitVec 12) (c : Conversion) (q : ProbeIx) (p : Port) (tag : Byte) (raw : Nat) (v : Int),
    s.heldLow = false → s.temp.conv = some c → c.input = .probe q → c.origin = .slot →
    hasPassed c.start 160 s.now = true → s.temp.slot = some { probe := q, port := p, selected := true } →
    s.temp.probes[q].state ≠ .absent → (s.port p).deferred = some { kind := .probeNow, tag := tag } →
    raw = (max 0 (min 4095 ((code.toNat : Int) - s.temp.offset))).toNat → v = curveTemp s.prof.active.probes q raw →
    ∃ t out, exec (.conversionComplete code) s = .next t ∧ t.temp.slot = none ∧ (t.port p).deferred = none
      ∧ (t.temp.probes[q], out) = s.temp.probes[q].process s.temp.zeroFault code.toNat raw v
      ∧ t.temp.probes[q].lastRaw = some code.toNat ∧ t.temp.probes[q].lastOutcome = some out
      ∧ (∀ k : ProbeIx, k ≠ q → t.temp.probes[k] = s.temp.probes[k])
      ∧ (s.temp.zeroFault = true → t.temp.lanes = s.temp.lanes)
      ∧ (s.temp.zeroFault = false → ∀ l : LaneIx,
          Follows t.temp.probes (s.laneEntry l) s.temp.lanes[l] t.temp.lanes[l])
      ∧ (t.port p).replies = (s.port p).replies ++ [okReply .probeNow tag
          (leBytes 1 q.val ++ leBytes 2 code.toNat ++ leBytes 2 raw ++ leSigned 2 v ++ leBytes 1 out.code
            ++ leBytes 1 t.temp.probes[q].state.code
            ++ (match t.temp.probes[q].state, t.temp.probes[q].filtered with
              | .valid, some f => 1 :: leSigned 2 f
              | _, _ => [0, 0, 0]))]
      ∧ (t.port (otherPort p)).replies = (s.port (otherPort p)).replies ∧ KeepsAllBut [.temp, .cal, .ports] s t)
  ∧ (∀ (s : State) (w : ImageWrite) (q : ProbeIx) (p : Port) (tag : Byte) (selected : Bool), s.heldLow = false →
    s.prof.write = some w → w.reason = .commit → hasPassed w.start 1 s.now = true →
    s.temp.slot = some { probe := q, port := p, selected := selected } →
    w.content.profile.probes.entries[q].enabled = false →
    (s.port p).deferred = some { kind := .probeNow, tag := tag } →
    ∃ t, exec (.imageWriteComplete true) s = .next t ∧ t.temp.slot = none ∧ (t.port p).deferred = none
      ∧ (t.port p).replies = (s.port p).replies ++ [refusalReply ReqKind.probeNow.code tag .badValue 0 0]
      ∧ ∀ c, s.temp.conv = some c → ∃ c', t.temp.conv = some c' ∧ c'.input = c.input ∧ c'.origin = c.origin
        ∧ c'.start = c.start)
  ∧ (∀ (s : State) (code : BitVec 12) (c : Conversion) (q : ProbeIx), s.heldLow = false →
    s.temp.conv = some c → c.input = .probe q → c.origin = .slot → hasPassed c.start 160 s.now = true →
    (∀ r, s.temp.slot = some r → r.selected = false) →
    ∃ t, exec (.conversionComplete code) s = .next t ∧ t.temp.probes = s.temp.probes ∧ t.temp.lanes = s.temp.lanes
      ∧ KeepsAllBut [.temp] s t)

/-! ### Wheels and axles (chapter 4) -/

/-- A trailing hit pairs with the oldest waiting hit that passes the test of R64: earlier ones stay, the matched one
leaves its list, and the side that refers to it becomes a wheel holding both hits, with the speed so computed on a forward
lane and REVERSE without speed on a reverse one; its candidate's other side and the other candidates stay.

With its candidate's second full wheel the candidate completes at once (R69), unless an earlier one is held in its lane
(R70), and on an active forward lane without an open frame its axle opens the frame with the mean of the two wheel speeds,
rounded half up (R76); it is ONE_ROW exactly where the states of the channels leave one of its wheels one usable row (R96,
R98, R101).

A finished hit of a live channel in an active lane arrives at the axle former with its bucket poured (R10, R62). One of the
trailing row that pairs with none forms a one-row wheel, which joins a candidate or opens one (R65, R67); on a forward lane
it sends a miss notice at its forming. That the notice's withdrawal comes before the wheel looks for a candidate is the
model's reading (DEDUCED, log 11). -/
def Obligations.TrailingHitPairs : Prop :=
  (∀ (s : State) (h lead : HitRec) (skipped rest : List HitRec) (v : Nat) (reverse : Bool) (l : LaneIx)
      (pre post : List Candidate) (c : Candidate) (xs ys : List Side),
    (s.loops[posLane h.pos].presence = .reverse ↔ reverse = true) →
    h.row = (if reverse then .rowA else .rowB) → lead.row = (if reverse then .rowB else .rowA) → lead.pos = h.pos →
    s.waiting lead.row h.pos = skipped ++ lead :: rest → lead ∉ skipped → lead ∉ rest →
    (∀ x ∈ skipped, ∀ u, ¬ PairsAt (s.laneEntry (posLane h.pos)).rowSpacing x h u) →
    PairsAt (s.laneEntry (posLane h.pos)).rowSpacing lead h v →
    s.former.candidates[l] = pre ++ c :: post → c.sides = xs ++ .waiting lead :: ys →
    (∀ (k : LaneIx) (c' : Candidate), c' ∈ s.former.candidates[k] → .waiting lead ∈ c'.sides → k = l ∧ c' = c) →
    (∀ c' ∈ pre ++ post, c'.id ≠ c.id) → xs.length + ys.length ≤ 1 →
    (∀ y ∈ xs ++ ys, y ≠ .waiting lead ∧ ¬ FullSide y) →
    s.hitArrival h = (s.setWaiting lead.row h.pos (skipped ++ rest)).setCandidates l
      (pre ++ { c with sides := (xs ++ .formed
          { pos := h.pos, lead := some lead, trail := some h, speed := if reverse then none else some v,
            reverse := reverse } :: ys) } :: post))
  ∧ (∀ (s : State) (h lead : HitRec) (skipped rest : List HitRec) (v v1 : Nat) (w : Wheel) (l : LaneIx)
      (pre post : List Candidate) (c : Candidate),
    s.loops[posLane h.pos].presence ≠ .reverse → h.row = .rowB → lead.row = .rowA → lead.pos = h.pos →
    s.waiting .rowA h.pos = skipped ++ lead :: rest → lead ∉ skipped → lead ∉ rest →
    (∀ x ∈ skipped, ∀ u, ¬ PairsAt (s.laneEntry (posLane h.pos)).rowSpacing x h u) →
    PairsAt (s.laneEntry (posLane h.pos)).rowSpacing lead h v →
    s.former.candidates[l] = pre ++ c :: post →
    (c.sides = [.waiting lead, .formed w] ∨ c.sides = [.formed w, .waiting lead]) →
    (∀ (k : LaneIx) (c' : Candidate), c' ∈ s.former.candidates[k] → .waiting lead ∈ c'.sides → k = l ∧ c' = c) →
    (∀ c' ∈ pre ++ post, c'.id ≠ c.id
      ∧ ¬ (0 < elapsed c'.firstStart c.firstStart ∧ elapsed c'.firstStart c.firstStart < 2 ^ 31)) →
    (∀ k : LaneIx, k ≠ l → ∀ c' ∈ s.former.candidates[k], c'.id ≠ c.id) →
    w.lead ≠ none → w.trail ≠ none → w.speed = some v1 → w.reverse = false → posLane w.pos = posLane h.pos →
    s.laneActive (posLane h.pos) = true → s.asm.frames[posLane h.pos] = none →
    ∃ f a, (s.hitArrival h).asm = { s.asm with frames := s.asm.frames.set (posLane h.pos) (some f) }
      ∧ f.axles = [{ axle := a, spacing := none }]
      ∧ f.openTick = a.time ∧ (a.time = lead.start ∨ a.time = w.start) ∧ a.lane = posLane h.pos
      ∧ (∀ u, StartsAt (.formed w) u → (elapsed lead.start u < 2 ^ 31 → a.time = lead.start)
          ∧ (elapsed u lead.start < 2 ^ 31 → a.time = u))
      ∧ a.speed = some ((v1 + v + 1) / 2) ∧ a.source = .wheelPair ∧ a.wheels.length = 2
      ∧ hasFlag a.flags .single = false ∧ hasFlag a.flags .straddle = false ∧ hasFlag a.flags .reverse = false
      ∧ hasFlag a.flags .forced = false
      ∧ (hasFlag a.flags .oneRow = true ↔
          OneUsableRow s lead h ∨ ∃ x y, w.lead = some x ∧ w.trail = some y ∧ OneUsableRow s x y)
      ∧ (s.hitArrival h).former.candidates = s.former.candidates.set l (pre ++ post)
      ∧ (s.hitArrival h).waiting .rowA h.pos = skipped ++ rest
      ∧ (∀ r q, ¬ (r = .rowA ∧ q = h.pos) → (s.hitArrival h).waiting r q = s.waiting r q)
      ∧ KeepsAllBut [.former, .asm, .loops] s (s.hitArrival h))
  ∧ (∀ (s : State) (c : ChanIx) (x : BitVec 16) (h : HitAcc) (e : EndRun) (l : LaneIx) (cmd : Instr),
    IsSample cmd (.hitEnd c x) c x → Delivers s c x l h e →
    ∃ u, exec cmd s = .next (u.hitArrival (deliveredHit s c l h e))
      ∧ u.strip = { s.strip with channels := s.strip.channels.set c (pouredChannel s c h.clips) }
      ∧ PouredEvent s c h.clips u ∧ KeepsAllBut [.strip, .ports] s u)
  ∧ (∀ (s t : State) (h : HitRec) (w : Wheel) (reverse : Bool), FormerLimits s →
    (s.loops[posLane h.pos].presence = .reverse ↔ reverse = true) → h.row = (if reverse then .rowA else .rowB) →
    (∀ y ∈ s.waiting (if reverse then .rowB else .rowA) h.pos, ∀ v,
      ¬ PairsAt (s.laneEntry (posLane h.pos)).rowSpacing y h v) →
    w = { pos := h.pos, lead := none, trail := some h, speed := none, reverse := reverse } → t = s.hitArrival h →
    ((reverse = true ∨ ∀ b, MappedAt s .rowA h.pos b →
        ¬ CountsMisses s.strip.channels[b] ∨ s.strip.channels[b].miss < 31) →
      (∀ (k : LaneIx) (pre post : List Candidate) (c : Candidate), s.former.candidates[k] = pre ++ c :: post →
        Joins s h.pos h.start k c →
        t.former = { s.former with
            candidates := (s.former.candidates.set k (pre ++ { c with sides := c.sides ++ [.formed w] } :: post)) }
          ∧ (reverse = false → NoticeSent .rowA h.pos s t) ∧ (reverse = true → t.strip = s.strip ∧ t.ports = s.ports)
          ∧ KeepsAllBut [.strip, .former, .ports] s t)
      ∧ (Opens s h.pos h.start →
        t.former = { s.former with
            candidates := (s.former.candidates.set (posLane h.pos) (s.former.candidates[posLane h.pos]
              ++ [{ id := s.former.nextId, opened := s.now, sides := [.formed w] }])),
            nextId := s.former.nextId + 1 }
          ∧ (reverse = false → NoticeSent .rowA h.pos s t) ∧ (reverse = true → t.strip = s.strip ∧ t.ports = s.ports)
          ∧ KeepsAllBut [.strip, .former, .ports] s t))
    ∧ (∀ b, reverse = false → OnlyMappedAt s .rowA h.pos b → CountsMisses s.strip.channels[b] →
      s.strip.channels[b].miss = 31 →
      (∀ (k : LaneIx) (c : Candidate), c ∈ s.former.candidates[k] →
        LosesAllOrNone b c ∧ ((∃ y, c.sides = [.waiting y] ∧ y.channel = b) ∨ ∀ d, ¬ Eligible s c h.pos h.start d)) →
      s.former.candidates[posLane h.pos].length < 4 →
      NoticeTaken b s t ∧ (∀ r q, t.waiting r q = (s.waiting r q).filter (fun y => decide (y.channel ≠ b)))
        ∧ (∀ k : LaneIx, t.former.candidates[k] = (s.former.candidates[k]).filter (fun c => !orphaned s t c)
            ++ (if k = posLane h.pos then [{ id := s.former.nextId, opened := s.now, sides := [.formed w] }] else []))
        ∧ t.former.nextId = s.former.nextId + 1 ∧ t.former.late = s.former.late
        ∧ KeepsAllBut [.strip, .former, .ports] s t))

/-- A leading hit that has waited more than Δmax leaves its list, and its side becomes a one-row wheel, REVERSE if row B
led; nothing outside the axle former moves (R66). A hit that only a commit of this tick makes overdue waits for the next
tick. -/
def Obligations.LeadingHitExpires : Prop :=
  (∀ (s : State) (r : StripRow) (q : PosIx) (h : HitRec) (rest : List HitRec), s.heldLow = false →
    s.waiting r q = h :: rest → h ∉ rest →
    SpanPassed s h.start (fun p => p.lanes[posLane q].rowSpacing * 16000 / 2999 + 1) →
    ∃ t, exec (.leadingHitExpiry r q) s = .next t ∧ t.waiting r q = rest
      ∧ (∀ r' q', ¬ (r' = r ∧ q' = q) → t.waiting r' q' = s.waiting r' q')
      ∧ t.former.late = s.former.late
      ∧ (∀ k : LaneIx, t.former.candidates[k] = (s.former.candidates[k]).map (fun c => { c with
          sides := c.sides.map (fun x => if x = .waiting h then .formed
            { pos := h.pos, lead := some h, trail := none, speed := none, reverse := decide (h.row = .rowB) } else x) }))
      ∧ KeepsAllBut [.former] s t)
  ∧ (∀ (s : State) (r : StripRow) (q : PosIx) (h : HitRec) (rest : List HitRec), s.waiting r q = h :: rest →
    BroughtForward s h.start (fun p => p.lanes[posLane q].rowSpacing * 16000 / 2999 + 1) →
    exec (.leadingHitExpiry r q) s = .next s)

/-- A candidate with one waiting side completes at its deadline (R69, R71, R76 to R79): in an active forward lane without
an open frame, and with no earlier or overdue candidate in it, it leaves the axle former and its axle, SINGLE and ONE_ROW,
opens the lane's frame (R106). Its speed is the loop speed, if there is one. The channel mapped at row B of its position
takes a miss notice (R75): its count rises, and the 32nd makes it DEAD with CHANNEL_STATE and withdraws its waiting hits,
with the candidates that held no other side (R15, R16, R72); every other candidate stays.

A candidate of two wheels on a straddle pair, neither of which owes a notice, completes at its deadline: its axle, STRADDLE,
is assigned by frame continuation, presence, or the lower lane (R73), takes its speed from its wheels or the lane's last
axle (R76), and is handed on; that one with one REVERSE wheel is assigned by the speed of its forward wheel is the model's
reading (DEDUCED, log 27); assigned to a lane that is not active, or behind a later axle of its lane's frame, it is
discarded, the late one counted (R74). -/
def Obligations.LoneCandidateOpensFrame : Prop :=
  (∀ (s : State) (l : LaneIx) (pre post : List Candidate) (c : Candidate) (h : HitRec), s.heldLow = false →
    s.laneActive l = true → s.asm.frames[l] = none → s.former.candidates[l] = pre ++ c :: post →
    (∀ c' ∈ pre ++ post, c'.id ≠ c.id
      ∧ hasPassed c'.firstStart ((s.laneEntry l).rowSpacing * 16000 / 2999 + s.prof.active.site.window) s.now = false
      ∧ ¬ (0 < elapsed c'.firstStart h.start ∧ elapsed c'.firstStart h.start < 2 ^ 31)) →
    (∀ k : LaneIx, k ≠ l → ∀ c' ∈ s.former.candidates[k], c'.id ≠ c.id) →
    (∀ (k : LaneIx) (c' : Candidate), c' ∈ s.former.candidates[k] → ∀ b, MappedAt s .rowB h.pos b →
      LosesAllOrNone b c') →
    c.sides = [.waiting h] → h.lane = l → h.row = .rowA →
    hasPassed h.start ((s.laneEntry l).rowSpacing * 16000 / 2999 + s.prof.active.site.window) s.now = true →
    ∃ t f a, exec (.candidateDeadline l) s = .next t
      ∧ (∀ k : LaneIx, t.former.candidates[k] =
          (if k = l then pre ++ post else s.former.candidates[k]).filter (fun c' => !orphaned s t c'))
      ∧ h ∉ t.waiting .rowA h.pos ∧ t.asm.frames[l] = some f ∧ f.axles = [{ axle := a, spacing := none }]
      ∧ f.openTick = h.start ∧ a.lane = l ∧ a.holding = l ∧ a.time = h.start ∧ a.wheels.length = 1
      ∧ a.speed = (s.loops[l].speed).map (·.1) ∧ a.generation = s.prof.generation
      ∧ hasFlag a.flags .single = true ∧ hasFlag a.flags .oneRow = true ∧ hasFlag a.flags .straddle = false
      ∧ hasFlag a.flags .forced = false ∧ hasFlag a.flags .reverse = false
      ∧ (∀ k : LaneIx, k ≠ l → t.asm.frames[k] = s.asm.frames[k]) ∧ t.asm.seq = s.asm.seq ∧ t.store = s.store
      ∧ NoticeSent .rowB h.pos s t
      ∧ (∀ r q, t.waiting r q = (s.waiting r q).filter (fun y => decide (y ≠ h
          ∧ t.strip.channels[y.channel].state = s.strip.channels[y.channel].state)))
      ∧ t.former.late = s.former.late ∧ KeepsAllBut [.strip, .loops, .former, .asm, .ports] s t)
  ∧ (∀ (s : State) (l n m k : LaneIx) (c : Candidate) (w1 w2 : Wheel) (u1 u2 time : Tick) (v : Option Nat),
    s.heldLow = false → s.former.candidates[l] = [c] →
    (∀ j : LaneIx, j ≠ l → ∀ c' ∈ s.former.candidates[j], c'.id ≠ c.id) →
    (c.sides = [.formed w1, .formed w2] ∨ c.sides = [.formed w2, .formed w1]) → w2.pos.val = w1.pos.val + 1 →
    n = posLane w1.pos → m = posLane w2.pos → n ≠ m →
    (∀ w, w = w1 ∨ w = w2 → w.reverse = true ∨ w.lead = none ∨ w.trail ≠ none) →
    StartsAt (.formed w1) u1 → StartsAt (.formed w2) u2 →
    ((time = u1 ∧ elapsed u1 u2 < 2 ^ 31) ∨ (time = u2 ∧ elapsed u2 u1 < 2 ^ 31)) →
    hasPassed time ((s.laneEntry l).rowSpacing * 16000 / 2999 + s.prof.active.site.window) s.now = true →
    v = pairMean w1.speed w2.speed → AssignedTo s n m time v k →
    (s.laneActive k = false → exec (.candidateDeadline l) s = .next (s.setCandidates l []))
    ∧ (∀ f init p, s.laneActive k = true → s.asm.frames[k] = some f → f.axles = init ++ [p] →
      0 < elapsed time p.axle.time → elapsed time p.axle.time < 2 ^ 31 →
      exec (.candidateDeadline l) s = .next (s.setFormer { s.former with
        candidates := s.former.candidates.set l [], late := s.former.late.set k (min (s.former.late[k] + 1) 65535) }))
    ∧ (s.laneActive k = true →
      (∀ f init p, s.asm.frames[k] = some f → f.axles = init ++ [p] →
        ¬ (0 < elapsed time p.axle.time ∧ elapsed time p.axle.time < 2 ^ 31)) →
      ∃ a, exec (.candidateDeadline l) s = .next ((s.setCandidates l []).handOn a)
        ∧ a.lane = k ∧ a.holding = l ∧ a.time = time ∧ a.generation = s.prof.generation ∧ a.wheels.length = 2
        ∧ hasFlag a.flags .straddle = true ∧ hasFlag a.flags .single = false ∧ hasFlag a.flags .forced = false
        ∧ (w1.reverse = true ∨ w2.reverse = true →
          a.speed = none ∧ a.source = .none ∧ hasFlag a.flags .reverse = true ∧ hasFlag a.flags .noSpeed = true)
        ∧ (w1.reverse = false → w2.reverse = false →
          (∀ x, v = some x → a.speed = some x ∧ a.source = .wheelPair)
          ∧ (∀ f init p x, v = none → s.asm.frames[k] = some f → f.axles = init ++ [p] → p.axle.speed = some x →
              a.speed = some x ∧ a.source = .held ∧ hasFlag a.flags .speedHeld = true))))

/-! ### Load arithmetic (chapter 5) -/

/-- The one interpolation of the three tables (R89): end values at and beyond the ends, and inside a segment the exact
quotient rounded half away from zero, between the segment's two values. -/
def Obligations.InterpolationEvaluates : Prop :=
  (∀ (t : List (Int × Int)), t.Pairwise (fun a b => a.1 < b.1) →
    (∀ x0 p0 rest x, t = (x0, p0) :: rest → x ≤ x0 → interpolate t x = p0)
    ∧ (∀ init xm pm x, t = init ++ [(xm, pm)] → xm ≤ x → interpolate t x = pm)
    ∧ (∀ pre x0 p0 x1 p1 post x, t = pre ++ (x0, p0) :: (x1, p1) :: post → x0 ≤ x → x < x1 →
        interpolate t x = p0 + roundHalfAway ((p1 - p0) * (x - x0)) (x1 - x0).toNat
          ∧ min p0 p1 ≤ interpolate t x ∧ interpolate t x ≤ max p0 p1)
    ∧ (∀ b ∈ t, interpolate t b.1 = b.2)
    ∧ (∀ lo hi x, t ≠ [] → (∀ b ∈ t, lo ≤ b.2 ∧ b.2 ≤ hi) → lo ≤ interpolate t x ∧ interpolate t x ≤ hi))
  ∧ (∀ (n : Int) (d : Nat), 0 < d →
    2 * (roundHalfAway n d * d - n).natAbs ≤ d
      ∧ (2 * (roundHalfAway n d * d - n).natAbs = d → n.natAbs < (roundHalfAway n d * d).natAbs))
  ∧ (∀ (x0 step : Int) (ps : List Int) (i : Nat),
    (onBreakpoints x0 step ps)[i]? = (ps[i]?).map (fun p => (x0 + step * i, p)))
  ∧ (∀ (t : ProbesSec) (q : ProbeIx) (raw : Nat), curveTemp t q raw =
      max (-400) (min 850 (interpolate (onBreakpoints 0 256 t.curve.toList) raw + t.entries[q].trim)))
  ∧ (∀ (t : Vector Nat 9) (x : Int),
      ((tempFactor t x : Nat) : Int) = interpolate (onBreakpoints (-200) 100 (t.toList.map Int.ofNat)) x)
  ∧ (∀ (t : Vector Nat 8) (v : Nat),
      ((speedFactor t v : Nat) : Int) = interpolate (onBreakpoints 5000 5000 (t.toList.map Int.ofNat)) v)

/-- The four stages of a wheel-row load (R87, R88, R93, R94): the floor each states, which is the quotient rounded half up,
its limits and its saturation; and an estimate, which is their composition, marked SAT if a stage saturated. -/
def Obligations.LoadStages : Prop :=
  (∀ a v w : Nat, 0 < w → stage1 a v w =
      (min ((a * v + 4 * w) / (8 * w)) 4294967295, decide (4294967295 < (a * v + 4 * w) / (8 * w)))
    ∧ (a * v + 4 * w) / (8 * w) = (a * v * 2 + 8 * w) / (2 * (8 * w))
    ∧ (a ≤ 66975748 → v ≤ 60000 → a * v < 2 ^ 42 ∧ (20 ≤ w → (a * v + 4 * w) / (8 * w) ≤ 25115905500)))
  ∧ (66975748 * 60000 + 4 * 20) / (8 * 20) = 25115905500
  ∧ (∀ a : Nat, (stage1 a 25000 50).2 = true ↔ 68719477 ≤ a)
  ∧ (∀ q k : Nat, stage2 q k = (min ((q * k + 2048) / 4096) 4294967295, decide (4294967295 < (q * k + 2048) / 4096))
    ∧ (q * k + 2048) / 4096 = (q * k * 2 + 4096) / (2 * 4096)
    ∧ (q ≤ 4294967295 → k ≤ 65535 → q * k < 2 ^ 48 ∧ (q * k + 2048) / 4096 ≤ 68718428144))
  ∧ (4294967295 * 65535 + 2048) / 4096 = 68718428144
  ∧ (∀ fT fV fA : Nat, combinedFactor fT fV fA = (fT * fV * fA + 524288) / 1048576
    ∧ combinedFactor fT fV fA = (fT * fV * fA * 2 + 1048576) / (2 * 1048576)
    ∧ (512 ≤ fT → fT ≤ 2047 → 512 ≤ fV → fV ≤ 2047 → 3686 ≤ fA → fA ≤ 4506 →
        966262784 ≤ fT * fV * fA ∧ fT * fV * fA ≤ 18881081754 ∧ fT * fV * fA < 2 ^ 35
          ∧ 922 ≤ combinedFactor fT fV fA ∧ combinedFactor fT fV fA ≤ 18006))
  ∧ combinedFactor 512 512 3686 = 922 ∧ combinedFactor 2047 2047 4506 = 18006
  ∧ (∀ b f : Nat, stage4 b f =
      (min ((b * f + 2048000) / 4096000) 65535, decide (65535 < (b * f + 2048000) / 4096000))
    ∧ (b * f + 2048000) / 4096000 = (b * f * 2 + 4096000) / (2 * 4096000)
    ∧ (b ≤ 4294967295 → f ≤ 18006 → b * f < 2 ^ 47 ∧ (b * f + 2048000) / 4096000 ≤ 18880659))
  ∧ (4294967295 * 18006 + 2048000) / 4096000 = 18880659
  ∧ (∀ (s : State) (v : Nat) (h : HitRec) (q b l : Nat × Bool),
    q = stage1 h.area (max 1500 (min 60000 v)) (s.stripEntry h.channel).width →
    b = stage2 q.1 (s.stripEntry h.channel).k →
    l = stage4 b.1 (combinedFactor (tempFactor s.prof.active.tempcomp (s.tempArgument h.lane))
      (speedFactor s.prof.active.speedcomp (max 1500 (min 60000 v))) s.cal[h.lane].fA) →
    s.estimate v h = { load := l.1, sat := q.2 || b.2 || l.2 })

/-- The wheel load (R96 to R99). The NORMAL hits of a wheel are usable, or without one the DEGRADED ones, which make wheel
and axle CLIP; the wheel keeps all its hits. Two usable rows give their mean rounded half up, and ROW_SPLIT where they differ by
more than the tolerance of the greater; one gives its estimate and ONE_ROW, never ROW_SPLIT; none gives no load and
UNWEIGHED, which the axle takes with no load of its own. Without gross a record fails every gross range and every
auto-calibration offer. -/
def Obligations.WheelRowsUsable : Prop :=
  (∀ (s : State) (v : Nat) (w : AxleWheel), (s.weighWheel v w).hits = w.hits
    ∧ ((∃ h ∈ w.hits, h.state = .normal) →
      (usableHits w.hits).1 = w.hits.filter (fun h => decide (h.state = .normal))
        ∧ hasFlag (s.weighWheel v w).flags .clip = hasFlag w.flags .clip)
    ∧ ((∀ h ∈ w.hits, h.state ≠ .normal) → (∃ h ∈ w.hits, h.state = .degraded) →
      (usableHits w.hits).1 = w.hits.filter (fun h => decide (h.state = .degraded))
        ∧ hasFlag (s.weighWheel v w).flags .clip = true
        ∧ ∀ a : AxleRec, a.speed = some v → w ∈ a.wheels → hasFlag (s.loadAxle a).flags .clip = true)
    ∧ ((∀ h ∈ w.hits, h.state ≠ .normal ∧ h.state ≠ .degraded) → (usableHits w.hits).1 = []))
  ∧ (∀ (s : State) (v : Nat) (w : AxleWheel) (a b : SeenHit) (x y : Nat), (usableHits w.hits).1 = [a, b] →
    x = (s.estimate v a.hit).load → y = (s.estimate v b.hit).load →
    (s.weighWheel v w).load = some ((x + y + 1) / 2) ∧ (x + y + 1) / 2 ≤ 65535
      ∧ hasFlag (s.weighWheel v w).flags .rowSplit = (hasFlag w.flags .rowSplit
          || decide (s.prof.active.site.rowTolerance * max x y < (max x y - min x y) * 100)))
  ∧ (∀ (s : State) (v : Nat) (w : AxleWheel) (h : SeenHit), (usableHits w.hits).1 = [h] →
    (s.weighWheel v w).load = some (s.estimate v h.hit).load ∧ hasFlag (s.weighWheel v w).flags .oneRow = true
      ∧ (hasFlag w.flags .rowSplit = false → hasFlag (s.weighWheel v w).flags .rowSplit = false))
  ∧ (∀ (s : State) (v : Nat) (w : AxleWheel),
    (∀ h ∈ w.hits, h.state ≠ .normal ∧ h.state ≠ .degraded) →
    (s.weighWheel v w).load = none ∧ hasFlag (s.weighWheel v w).flags .unweighed = true)
  ∧ (∀ (s : State) (a : AxleRec) (v : Nat) (w : AxleWheel), a.speed = some v → w ∈ a.wheels →
    (∀ h ∈ w.hits, h.state ≠ .normal ∧ h.state ≠ .degraded) →
    (s.loadAxle a).load = none ∧ hasFlag (s.loadAxle a).flags .unweighed = true
      ∧ (s.loadAxle a).wheels = a.wheels.map (s.weighWheel v))
  ∧ (∀ (axles : List AxleEntry) (e : ClassEntry) (range : Nat × Nat) (length : Option Nat),
    (∃ a ∈ axles, a.load = none) → e.gross = some range →
    e.matchesRecord axles (grossOf axles) length = false)
  ∧ (∀ (s : State) (r : VehicleRec), r.gross = none → s.offerFailure r ≠ none)

/-- A vehicle's gross (R103): the sum of its axle loads, absent if any is absent, and at most 983,025; without it every
test that asks for one fails. -/
def Obligations.GrossIsSumOfAxles : Prop :=
  (∀ (axles : List AxleEntry), (∃ a ∈ axles, a.load = none) → grossOf axles = none)
  ∧ (∀ (axles : List AxleEntry), (∀ a ∈ axles, a.load ≠ none) →
    grossOf axles = some ((axles.map (fun a => a.load.getD 0)).sum))
  ∧ (∀ (axles : List AxleEntry) (g : Nat), axles.length ≤ 15 → (∀ a ∈ axles, ∀ x, a.load = some x → x ≤ 65535) →
    grossOf axles = some g → g ≤ 983025)
  ∧ (∀ (s : State) (l : LaneIx) (f : Frame) (cause : CloseCause),
    (s.buildRecord l f cause).gross = grossOf (s.buildRecord l f cause).axles)
  ∧ (∀ (range : Nat × Nat) (limit margin : Nat), optionalRange (some range) none = false
    ∧ overLimit limit margin none = false ∧ presentWithin range.1 range.2 none = false)

/-! ### Vehicles and the store (chapter 6) -/

/-- A loaded axle meets an open frame (R102, R107, R108). The gap test takes the spacing formula with both speeds, or with
the one there is in place of both, or 2 s where neither axle has a speed. Within it and below 15 axles the axle joins: the
last axle takes the spacing, absent if either has no speed, the frame the union of the flags, with MIXED for another
generation and REVERSE on a reverse lane. Otherwise the frame closes, TRUNCATED at 15 axles, and the axle opens a new one.

A frame that still is open takes the axle whatever its timeout (R107, R113), but for one whose last axle was handed on
when the tick of its own timeout had been reached: from it, an axle that lies further than the timeout in force stays apart (R111, last
sentence). That such a frame is so told, and closes as the gap test closes one, is the model's choice (log 29). -/
def Obligations.AxleJoinsFrame : Prop :=
  ∀ (s : State) (a : AxleRec) (f : Frame) (init : List FrameAxle) (p : FrameAxle) (gap : Nat),
    s.asm.frames[a.lane] = some f → f.axles = init ++ [p] → gap = elapsed p.axle.time a.time →
    (¬ TooFar s gap p.axle.speed a.speed → ¬ JoinTimedOut s f p.axle.time a.time → f.axles.length < 15 →
      s.handOn a = s.setFrame a.lane (some
        { f with
          axles := init ++ [{ p with spacing := spacingOf gap p.axle.speed a.speed }, { axle := a, spacing := none }],
          flags := f.flags ||| a.flags
            ||| (if a.generation ≠ f.generation then BitVec.ofNat 32 (2 ^ 15) else 0)
            ||| (if s.loops[a.lane].presence = .reverse then BitVec.ofNat 32 (2 ^ 13) else 0),
          overdue := s.axleOverdue a }))
    ∧ (s.axleOverdue a = true ↔ SpanPassed s a.time (fun q => 8000 * q.site.frameTimeout))
    ∧ (TooFar s gap p.axle.speed a.speed ∨ JoinTimedOut s f p.axle.time a.time →
      ∃ u, ClosedFrame s a.lane f .plain u ∧ OpensAfter u a (s.handOn a))
    ∧ (¬ TooFar s gap p.axle.speed a.speed → ¬ JoinTimedOut s f p.axle.time a.time → 15 ≤ f.axles.length →
      ∃ u, ClosedFrame s a.lane f .truncated u ∧ OpensAfter u a (s.handOn a))

/-- A frame closes by presence at the close delay (R110), or by the frame timeout (R111): its record takes the sequence
number, is classed by the first matching entry (R123, R124), screened with its OVERLOAD event (R125), leaves the
assembler, and joins the store if the store has room. A close that only a commit of this tick brings forward waits for
the next tick (R111). That a frame whose last axle completed when the tick of its own timeout had gone by closes by the timeout as well
is the model's choice (DESIGN CHOICE, log 29). -/
def Obligations.FrameCloses : Prop :=
  ∀ (s : State) (l : LaneIx) (f : Frame) (a : FrameAxle), s.heldLow = false → s.asm.frames[l] = some f →
    f.axles.getLast? = some a →
    (∀ t0, s.loops[l].idleSince = some t0 → s.former.candidates[l] = [] →
      SpanPassed s (laterOf a.axle.time t0) (fun p => 8 * p.site.closeDelay) →
      ∃ t, exec (.presenceClose l) s = .next t ∧ ClosedFrame s l f .plain t)
    ∧ (∀ t0, s.loops[l].idleSince = some t0 →
      BroughtForward s (laterOf a.axle.time t0) (fun p => 8 * p.site.closeDelay) →
      exec (.presenceClose l) s = .next s)
    ∧ (SpanPassed s a.axle.time (fun p => 8000 * p.site.frameTimeout) →
      ∃ t, exec (.frameTimeout l) s = .next t ∧ ClosedFrame s l f .plain t)
    ∧ (BroughtForward s a.axle.time (fun p => 8000 * p.site.frameTimeout) → exec (.frameTimeout l) s = .next s)
    ∧ (∀ vs : List Nat, vs = f.axles.filterMap (fun x => x.axle.speed) →
      meanSpeed f.axles = if vs = [] then none else some ((2 * vs.sum + vs.length) / (2 * vs.length)))

/-- The record store's offer (R126, R127): a record that fits joins at the young end, and STORE_HIGH is raised when it
brings the count to the mark; one that does not fit is dropped with RECORD_DROPPED. -/
def Obligations.StoreTakesOrDrops : Prop :=
  ∀ (s : State) (r : VehicleRec),
    ((s.store.length < 48 ∧ slotsUsed s.store + r.axles.length ≤ 256) →
      (s.offerToStore r).store = s.store ++ [r]
        ∧ (s.store.length < s.prof.active.site.highWater → s.prof.active.site.highWater ≤ s.store.length + 1 →
            OneEvent .storeHigh 0 s (s.offerToStore r))
        ∧ (¬ (s.store.length < s.prof.active.site.highWater ∧ s.prof.active.site.highWater ≤ s.store.length + 1) →
            (s.offerToStore r).ports = s.ports))
    ∧ (¬ (s.store.length < 48 ∧ slotsUsed s.store + r.axles.length ≤ 256) →
      (s.offerToStore r).store = s.store ∧ OneEvent .recordDropped (itemBit r.lane.val) s (s.offerToStore r))
    ∧ KeepsAllBut [.store, .ports] s (s.offerToStore r)

/-- TAKE removes the oldest records into its reply (R128), PEEK copies them from a position (R130): up to n, and as many as
fit whole in one payload. A count outside 1 to 48, or a position above 47, is BAD_VALUE.

A record is carried in chapter 9's layout: 43 bytes and 17 for each axle, each field at its offset, an absent one 0 with its
presence bit clear. Numbers stand least significant byte first, signed ones in two's complement, and the flags in the order
of their table. -/
def Obligations.TakeAndPeek : Prop :=
  (∀ (s : State) (tag b : Byte), Admitted .take .cab [b] s →
    ((b.toNat = 0 ∨ 48 < b.toNat) → exec (.take .cab tag [b]) s =
      .next (s.withReply .cab (refusalReply ReqKind.take.code tag .badValue 0 0)))
    ∧ (1 ≤ b.toNat → b.toNat ≤ 48 → ∃ k, Carries 1021 b.toNat k s.store
      ∧ exec (.take .cab tag [b]) s = .next ((s.setStore (s.store.drop k)).withReply .cab (okReply .take tag
          ([BitVec.ofNat 8 k, BitVec.ofNat 8 (s.store.length - k)] ++ recordsBytes (s.store.take k))))))
  ∧ (∀ (s : State) (p : Port) (tag pos b : Byte), Admitted .peek p [pos, b] s →
    ((47 < pos.toNat ∨ b.toNat = 0 ∨ 48 < b.toNat) → exec (.peek p tag [pos, b]) s =
      .next (s.withReply p (refusalReply ReqKind.peek.code tag .badValue 0 0)))
    ∧ (pos.toNat ≤ 47 → 1 ≤ b.toNat → b.toNat ≤ 48 → ∃ k, Carries 1017 b.toNat k (s.store.drop pos.toNat)
      ∧ exec (.peek p tag [pos, b]) s = .next (s.withReply p (okReply .peek tag
          ([BitVec.ofNat 8 s.store.length] ++ leBytes 4 ((s.store.head?.map (fun r => r.seq.toNat)).getD 0)
            ++ [BitVec.ofNat 8 k] ++ recordsBytes ((s.store.drop pos.toNat).take k))))))
  ∧ (∀ r : VehicleRec, RecordLaidOut (recordBytes r) r)
  ∧ (∀ rs : List VehicleRec, recordsBytes rs = (rs.map recordBytes).flatten)
  ∧ (∀ size n : Nat, leBytes size n = (List.range size).map (fun i => BitVec.ofNat 8 (n / 256 ^ i)))
  ∧ (∀ x : Int, leSigned 2 x = leBytes 2 (x % 65536).toNat)
  ∧ [Flag.straddle, .single, .oneRow, .forced, .clip, .rowSplit, .sat, .lowSpd, .highSpd, .unweighed, .noSpeed, .speedHeld,
      .speedLoop, .reverse, .congested, .mixed, .tempHeld, .tempStale, .tempNone, .calLimit, .overloadAxle, .overloadGross,
      .truncated, .aborted, .unclassed, .timeUnset].map Flag.bit = List.range 26

/-- STREAM sets the cabinet link's flag (R129); a VEHICLE frame removes the oldest record as it is begun, on an idle
cabinet link with no reply waiting and no EVENT frame due (R184, R185). The frame's payload is the record in its layout
(chapter 9, Vehicle record). -/
def Obligations.StreamAndVehicleFrame : Prop :=
  (∀ (s : State) (tag b : Byte), Admitted .stream .cab [b] s →
    (1 < b.toNat → exec (.stream .cab tag [b]) s =
      .next (s.withReply .cab (refusalReply ReqKind.stream.code tag .badValue 0 0)))
    ∧ (∀ on : Bool, b = (if on then 1 else 0) → exec (.stream .cab tag [b]) s =
      .next ((s.setPorts { s.ports with stream := on }).withReply .cab (okReply .stream tag [b]))))
  ∧ (∀ (s : State) (r : VehicleRec) (rest : List VehicleRec), s.heldLow = false → s.ports.cab.tx = none →
    s.ports.cab.replies = [] →
    (∀ i : Fin 13, s.ports.cab.mask.getLsbD i.val = true → s.ports.cab.events[i].count = 0) →
    s.ports.stream = true → s.site.state ≠ .init → s.store = r :: rest →
    exec .vehicleFrame s = .next ((s.setStore rest).setPort .cab
      { s.ports.cab with
        tx := some { bytes := frameBytes 0x40 0 (recordBytes r), start := s.now, endsRestart := false } })
      ∧ RecordLaidOut (recordBytes r) r)

/-! ### Auto-calibration (chapter 7) -/

/-- An update of fA (R139 to R142): the trimmed mean and the proposal, limited by 20 in step and to 3,686 to 4,506; the
window and the anchor go, the count rises, the limit flag follows the clamp, CAL_UPDATE is raised, CAL_LIMIT if the clamp
binds, and LEARNED is placed.

An offer (R136 to R139): the seven tests come in order and the first that fails is the outcome; a record that fails one
changes nothing but its lane's outcome; an admitted one starts, extends or restarts the window, and a sixteenth entry updates fA. -/
def Obligations.FactorUpdatesAndOffers : Prop :=
  (∀ (c : LaneCal) (target least greatest m p step : Nat),
    least ∈ c.window.map (fun e => e.load) → greatest ∈ c.window.map (fun e => e.load) →
    (∀ x ∈ c.window.map (fun e => e.load), least ≤ x ∧ x ≤ greatest) →
    m = ((c.window.map (fun e => e.load)).sum - least - greatest + 7) / 14 → p = (c.fA * target + m / 2) / m →
    step = max (c.fA - 20) (min (c.fA + 20) p) →
    c.update target =
      { window := [], anchor := none, fA := max 3686 (min 4506 step), updates := min (c.updates + 1) 65535,
        limit := if step < 3686 ∨ 4506 < step then true
          else if step = 3686 ∨ step = 4506 then c.limit else false,
        outcome := some .updated }
      ∧ (c.clampBinds target = true ↔ step < 3686 ∨ 4506 < step)
      ∧ (3686 ≤ c.fA → c.fA ≤ 4506 → (c.update target).fA ≤ c.fA + 20 ∧ c.fA ≤ (c.update target).fA + 20))
  ∧ (∀ (s : State) (l : LaneIx) (c : LaneCal) (x y : PortState) (port : Port),
    x = s.port port → y = (s.updateFactor l c).port port →
    (s.updateFactor l c).cal = s.cal.set l (c.update s.prof.active.autocal.target)
      ∧ (s.updateFactor l c).prof = { s.prof with reasons := { s.prof.reasons with learned := true } }
      ∧ y = { x with events := y.events }
      ∧ (∀ i : Fin 13, y.events[i] =
          if i = EventClass.calUpdate.index
              ∨ (i = EventClass.calLimit.index ∧ c.clampBinds s.prof.active.autocal.target = true)
            then cellRaised (itemBit l.val) x.events[i] else x.events[i])
      ∧ KeepsAllBut [.cal, .ports, .prof] s (s.updateFactor l c))
  ∧ (∀ (s : State) (r : VehicleRec) (c : LaneCal) (e : CalEntry), c = s.cal[r.lane] →
    e = { load := r.steerLoad.getD 0, site := r.closeSite, temp := r.tempUsed } →
    (∀ o, s.offerFailure r = some o → s.offerToCal r = s.setLaneCal r.lane { c with outcome := some o })
    ∧ (s.prof.active.autocal.enable = false → s.offerFailure r = some .disabled)
    ∧ (∀ enabled sameClass speed gross flags live load : Prop,
      (enabled ↔ s.prof.active.autocal.enable = true) → (sameClass ↔ r.classCode = s.prof.active.autocal.refClass) →
      (speed ↔ ∃ x, r.meanSpeed = some x ∧ s.prof.active.autocal.speedMin ≤ x ∧ x ≤ s.prof.active.autocal.speedMax) →
      (gross ↔ ∃ x, r.gross = some x ∧ s.prof.active.autocal.grossMin ≤ x ∧ x ≤ s.prof.active.autocal.grossMax) →
      (flags ↔ ∀ f ∈ [Flag.straddle, .single, .oneRow, .clip, .sat, .lowSpd, .highSpd, .forced, .congested, .mixed,
        .reverse, .noSpeed, .speedHeld, .speedLoop, .truncated], hasFlag r.flags f = false) →
      (live ↔ hasFlag r.flags .tempHeld = false ∧ hasFlag r.flags .tempStale = false
        ∧ hasFlag r.flags .tempNone = false ∧ s.temp.lanes[r.lane].status = .live) →
      (load ↔ ∃ a rest x, r.axles = a :: rest ∧ a.load = some x ∧ 1 ≤ x ∧ x ≤ 65535) →
      (s.offerFailure r = some .disabled ↔ ¬ enabled)
        ∧ (s.offerFailure r = some .classTest ↔ enabled ∧ ¬ sameClass)
        ∧ (s.offerFailure r = some .speedTest ↔ enabled ∧ sameClass ∧ ¬ speed)
        ∧ (s.offerFailure r = some .grossTest ↔ enabled ∧ sameClass ∧ speed ∧ ¬ gross)
        ∧ (s.offerFailure r = some .flagsTest ↔ enabled ∧ sameClass ∧ speed ∧ gross ∧ ¬ flags)
        ∧ (s.offerFailure r = some .temperatureTest ↔ enabled ∧ sameClass ∧ speed ∧ gross ∧ flags ∧ ¬ live)
        ∧ (s.offerFailure r = some .loadTest ↔ enabled ∧ sameClass ∧ speed ∧ gross ∧ flags ∧ live ∧ ¬ load)
        ∧ (s.offerFailure r = none ↔ enabled ∧ sameClass ∧ speed ∧ gross ∧ flags ∧ live ∧ load))
    ∧ (s.offerFailure r = none →
      (c.window = [] → s.offerToCal r =
        s.setLaneCal r.lane { c with window := [e], anchor := some e.temp, outcome := some .admitted })
      ∧ (∀ anchor, c.window ≠ [] → c.anchor = some anchor →
        (50 < (e.temp - anchor).natAbs → s.offerToCal r =
          s.setLaneCal r.lane { c with window := [e], anchor := some e.temp, outcome := some .restarted })
        ∧ ((e.temp - anchor).natAbs ≤ 50 → c.window.length < 15 → s.offerToCal r =
          s.setLaneCal r.lane { c with window := c.window ++ [e], outcome := some .admitted })
        ∧ ((e.temp - anchor).natAbs ≤ 50 → c.window.length = 15 → s.offerToCal r =
          s.updateFactor r.lane { c with window := c.window ++ [e], outcome := some .admitted }))))

/-! ### The site profile (chapter 8) -/

/-- EDIT_BEGIN (R155): a free set is claimed with a copy of the active set; the owner is told BUSY and the other port
NOT_OWNER, and nothing changes.

Where requests of both ports find the set free at one moment, the cabinet link claims it and the service port is refused
NOT_OWNER, whichever stands first: no command between the two keeps the cabinet link's from being taken, and the set stays
free for it. That such a moment is one at which the cabinet link's request waits in the queue behind the service port's with
no command between that parts the moments is the model's reading (log 32). -/
def Obligations.EditBeginClaims : Prop :=
  (∀ s : State, GivesWay s .editBegin (fun _ => true))
  ∧ (∀ (s t : State) (c : Instr), ¬ TellsApart c → exec c s = .next t → s.prof.claim = none →
    t.prof.claim = none ∧ KeepsMoment .editBegin s t)
  ∧ ∀ (s : State) (p : Port) (tag : Byte), Admitted .editBegin p [] s →
    (s.prof.claim = none → s.yields p .editBegin (fun _ => true) = false → exec (.editBegin p tag []) s =
      .next ((s.setProf { s.prof with
        claim := some { owner := p, staged := s.prof.active, transfer := none, timer := some s.now } }).withReply p
          (okReply .editBegin tag [])))
    ∧ (s.prof.claim = none → s.yields p .editBegin (fun _ => true) = true → exec (.editBegin p tag []) s =
      .next (s.withReply p (refusalReply ReqKind.editBegin.code tag .notOwner 0 0)))
    ∧ (∀ c, s.prof.claim = some c → c.owner = p → exec (.editBegin p tag []) s =
      .next (s.withReply p (refusalReply ReqKind.editBegin.code tag .busy 0 0)))
    ∧ (∀ c, s.prof.claim = some c → c.owner ≠ p → exec (.editBegin p tag []) s =
      .next (s.withReply p (refusalReply ReqKind.editBegin.code tag .notOwner 0 0)))

/-- EDIT_DISCARD (R159): from the owning port it drops the staged set and any transfer with the claim, and is answered OK; from
any other port, or with no claim, it is NOT_OWNER; while the owning port holds a commit it is refused BUSY by the port. The
release is said with the ownership timer running, as it does while no commit is in flight (R156). -/
def Obligations.EditDiscardReleases : Prop :=
  (∀ (s : State) (p : Port) (tag : Byte), Admitted .editDiscard p [] s →
    (∀ c, s.prof.claim = some c → c.owner = p → c.timer ≠ none → exec (.editDiscard p tag []) s =
      .next ((s.setProf { s.prof with claim := none }).withReply p (okReply .editDiscard tag [])))
    ∧ ((∀ c, s.prof.claim = some c → c.owner ≠ p) → exec (.editDiscard p tag []) s =
      .next (s.withReply p (refusalReply ReqKind.editDiscard.code tag .notOwner 0 0))))
  ∧ (∀ (s : State) (p : Port) (tag t' : Byte), s.heldLow = false → (s.port p).replies.length < 4 →
    s.site.state ≠ .init → (s.port p).deferred = some { kind := .commit, tag := t' } →
    exec (.editDiscard p tag []) s =
      .next (s.withReply p (refusalReply ReqKind.editDiscard.code tag .busy 0 0)))

/-- EDIT_PUT (R157), its cases in order: a port without the claim changes nothing; an unknown section keeps the transfer; a
metrological section under the lock is LOCKED, and a transfer of that section dropped.

A BEGIN at offset 0 starts a transfer with its chunk, and any other BEGIN, or one whose chunk exceeds the section, drops the
transfer in progress. Without BEGIN a chunk at the received count is appended; with no transfer, or one of another section,
the request is BAD_SEQUENCE and the transfer stays; a wrong count, or a chunk beyond the section's size, drops it. Every
request the store takes from the owner restarts the ownership timer (R156), and the upper bits of the marks byte are ignored.
SectionEndsTransfer says what END makes of a chunk that is taken.

That an EDIT_PUT is refused BUSY while a commit is in flight whose hold a restart has dropped is the model's choice (log
20), and so are section 0 of an unknown section's refusal and index 0 of BAD_LENGTH (log 9). -/
def Obligations.EditPutTransfers : Prop :=
  (∀ (s : State) (p : Port) (tag code lo hi marks : Byte) (chunk : List Byte),
    Admitted .editPut p (code :: lo :: hi :: marks :: chunk) s →
    ((∀ c, s.prof.claim = some c → c.owner ≠ p) → exec (.editPut p tag (code :: lo :: hi :: marks :: chunk)) s =
      .next (s.withReply p (refusalReply ReqKind.editPut.code tag .notOwner 0 0)))
    ∧ (∀ c, s.prof.claim = some c → c.owner = p → c.timer = none →
      exec (.editPut p tag (code :: lo :: hi :: marks :: chunk)) s =
        .next (s.withReply p (refusalReply ReqKind.editPut.code tag .busy 0 0)))
    ∧ (∀ c, s.prof.claim = some c → c.owner = p → c.timer ≠ none → (code.toNat = 0 ∨ 8 < code.toNat) →
      exec (.editPut p tag (code :: lo :: hi :: marks :: chunk)) s =
        .next ((s.withTransfer c c.transfer).withReply p (refusalReply ReqKind.editPut.code tag .badValue 0 0))))
  ∧ (∀ (s : State) (p : Port) (tag code lo hi marks : Byte) (chunk : List Byte) (k : Sect) (c : Claim) (offset : Nat),
    Admitted .editPut p (code :: lo :: hi :: marks :: chunk) s → sectOfCode code.toNat = some k →
    s.prof.claim = some c → c.owner = p → c.timer ≠ none → offset = lo.toNat + 256 * hi.toNat →
    (k.metrological = true → s.prof.locked = true →
      exec (.editPut p tag (code :: lo :: hi :: marks :: chunk)) s =
        .next ((s.withTransfer c (c.transfer.filter (fun x => decide (x.sect ≠ k)))).withReply p
          (refusalReply ReqKind.editPut.code tag .locked 0 0)))
    ∧ (k.metrological = false ∨ s.prof.locked = false → marks.toNat % 2 = 1 →
      (offset ≠ 0 → exec (.editPut p tag (code :: lo :: hi :: marks :: chunk)) s =
        .next ((s.withTransfer c none).withReply p (refusalReply ReqKind.editPut.code tag .badSequence 0 0)))
      ∧ (offset = 0 → k.size < chunk.length → exec (.editPut p tag (code :: lo :: hi :: marks :: chunk)) s =
        .next ((s.withTransfer c none).withReply p (refusalReply ReqKind.editPut.code tag .badLength k.code 0)))
      ∧ (offset = 0 → chunk.length ≤ k.size → marks.toNat / 2 % 2 = 0 →
        exec (.editPut p tag (code :: lo :: hi :: marks :: chunk)) s =
          .next ((s.withTransfer c (some { sect := k, bytes := chunk })).withReply p
            (okReply .editPut tag (leBytes 2 chunk.length)))))
    ∧ (k.metrological = false ∨ s.prof.locked = false → marks.toNat % 2 = 0 →
      ((c.transfer = none ∨ ∃ x, c.transfer = some x ∧ x.sect ≠ k) →
        exec (.editPut p tag (code :: lo :: hi :: marks :: chunk)) s =
          .next ((s.withTransfer c c.transfer).withReply p (refusalReply ReqKind.editPut.code tag .badSequence 0 0)))
      ∧ (∀ bytes, c.transfer = some { sect := k, bytes := bytes } →
        (offset ≠ bytes.length → exec (.editPut p tag (code :: lo :: hi :: marks :: chunk)) s =
          .next ((s.withTransfer c none).withReply p (refusalReply ReqKind.editPut.code tag .badSequence 0 0)))
        ∧ (offset = bytes.length → k.size < bytes.length + chunk.length →
          exec (.editPut p tag (code :: lo :: hi :: marks :: chunk)) s =
            .next ((s.withTransfer c none).withReply p (refusalReply ReqKind.editPut.code tag .badLength k.code 0)))
        ∧ (offset = bytes.length → bytes.length + chunk.length ≤ k.size → marks.toNat / 2 % 2 = 0 →
          exec (.editPut p tag (code :: lo :: hi :: marks :: chunk)) s =
            .next ((s.withTransfer c (some { sect := k, bytes := bytes ++ chunk })).withReply p
              (okReply .editPut tag (leBytes 2 (bytes.length + chunk.length))))))))
  ∧ [Sect.site, .stripmap, .lanes, .tempcomp, .speedcomp, .probes, .classes, .autocal].map Sect.code
      = [1, 2, 3, 4, 5, 6, 7, 8]
  ∧ (∀ k : Sect, sectOfCode k.code = some k)
  ∧ [Sect.site, .stripmap, .lanes, .tempcomp, .speedcomp, .probes, .classes, .autocal].map Sect.size
      = [32, 288, 108, 18, 16, 50, 2369, 16]
  ∧ (∀ k : Sect, k.metrological = false ↔ k = .site ∨ k = .classes)

/-- A section at its END (R158), sent whole with BEGIN and END or by the last chunk of a continued transfer, as every CLASSES
section above 960 bytes is: if it passes its checks it replaces that section of the staged set; if not, the staged set stays
and the reply names section and index. Either way no transfer is left. That a section sent short names its code and index 0
with BAD_LENGTH is the model's choice (log 9).

What passes lies in the ranges of R1, R50, R90, R122, R134 and R154, differs from the staged set in that section only, and
reads back as sent but for its reserved bytes (R151); and the bytes of every section in those ranges pass.

No commit is in flight here; EditPutTransfers says what an EDIT_PUT answers while one is. -/
def Obligations.SectionEndsTransfer : Prop :=
  ∀ (s : State) (p : Port) (tag code lo hi marks : Byte) (before chunk sent : List Byte) (k : Sect) (c : Claim),
    Admitted .editPut p (code :: lo :: hi :: marks :: chunk) s → sectOfCode code.toNat = some k →
    s.prof.claim = some c → c.owner = p → c.timer ≠ none → (k.metrological = false ∨ s.prof.locked = false) →
    marks.toNat / 2 % 2 = 1 →
    (marks.toNat % 2 = 1 ∧ before = []
      ∨ marks.toNat % 2 = 0 ∧ c.transfer = some { sect := k, bytes := before }) →
    lo.toNat + 256 * hi.toNat = before.length → sent = before ++ chunk → sent.length ≤ k.size →
    (∀ q, validateSection c.staged k sent = .ok q → exec (.editPut p tag (code :: lo :: hi :: marks :: chunk)) s =
      .next ((s.setProf { s.prof with claim := (some
        { c with timer := some s.now, staged := q, transfer := none }) }).withReply p
          (okReply .editPut tag (leBytes 2 sent.length)))
      ∧ q = withSection k c.staged q ∧ SectionInRange k q ∧ ReadsBack k sent q)
    ∧ (∀ r, SectionInRange k r → sent = sectionBytes r k →
      validateSection c.staged k sent = .ok (withSection k c.staged r))
    ∧ (∀ st i, validateSection c.staged k sent = .error (st, i) →
      (st = .badValue ∨ st = .badLength) ∧ exec (.editPut p tag (code :: lo :: hi :: marks :: chunk)) s =
        .next ((s.withTransfer c none).withReply p (refusalReply ReqKind.editPut.code tag st k.code i)))
    ∧ (k ≠ .classes → sent.length < k.size → validateSection c.staged k sent = .error (.badLength, 0))

/-- READ_SECTION (R160): up to 960 bytes of a section from an offset within it, with its size and, for the active set,
the generation; a staged read is the owner's only and restarts its timer. That NOT_OWNER comes before the offset is judged
is the model's choice (log 10), and so is BUSY for a staged read while a commit is in flight whose hold a restart has
dropped (log 20). -/
def Obligations.ReadSectionReads : Prop :=
  ∀ (s : State) (p : Port) (tag code lo hi : Byte) (k : Sect) (offset : Nat),
    sectOfCode code.toNat = some k → offset = lo.toNat + 256 * hi.toNat →
    (Admitted .readSection p [0, code, lo, hi] s → offset ≤ (sectionBytes s.prof.active k).length →
      exec (.readSection p tag [0, code, lo, hi]) s = .next (s.withReply p (okReply .readSection tag
        (leBytes 2 (sectionBytes s.prof.active k).length ++ leBytes 4 s.prof.generation
          ++ ((sectionBytes s.prof.active k).drop offset).take 960))))
    ∧ (∀ c, Admitted .readSection p [1, code, lo, hi] s → s.prof.claim = some c → c.owner = p → c.timer = none →
      exec (.readSection p tag [1, code, lo, hi]) s =
        .next (s.withReply p (refusalReply ReqKind.readSection.code tag .busy 0 0)))
    ∧ (∀ c, Admitted .readSection p [1, code, lo, hi] s → s.prof.claim = some c → c.owner = p → c.timer ≠ none →
      offset ≤ (sectionBytes c.staged k).length →
      exec (.readSection p tag [1, code, lo, hi]) s =
        .next ((s.setProf { s.prof with claim := some { c with timer := some s.now } }).withReply p
          (okReply .readSection tag (leBytes 2 (sectionBytes c.staged k).length ++ [0, 0, 0, 0]
            ++ ((sectionBytes c.staged k).drop offset).take 960))))
    ∧ (Admitted .readSection p [1, code, lo, hi] s → (∀ c, s.prof.claim = some c → c.owner ≠ p) →
      exec (.readSection p tag [1, code, lo, hi]) s =
        .next (s.withReply p (refusalReply ReqKind.readSection.code tag .notOwner 0 0)))

/-- COMMIT (R161): the claim, the transfer, the lock and the cross-checks are judged in this order; a commit that passes
stops the ownership timer, places COMMIT and is deferred.

A commit is metrological when STRIPMAP, LANES, TEMPCOMP, SPEEDCOMP, PROBES or AUTOCAL differs (R152). The cross-checks name
the lowest channel mapped above the lane count, then the lowest lane that counts without a row mapped on both sides, then
the lowest one whose primary probe is not enabled (R161).

That a COMMIT, and an EDIT_DISCARD too, is refused BUSY while an earlier one is in flight whose hold a restart has dropped is
the model's choice (log 20). -/
def Obligations.CommitIsJudged : Prop :=
  (∀ a b : Profile, metroDiffer a b = true ↔ a.strips ≠ b.strips ∨ a.lanes ≠ b.lanes ∨ a.tempcomp ≠ b.tempcomp
    ∨ a.speedcomp ≠ b.speedcomp ∨ a.probes ≠ b.probes ∨ a.autocal ≠ b.autocal)
  ∧ (∀ q : Profile, CrossChecked q)
  ∧ ∀ (s : State) (p : Port) (tag : Byte), Admitted .commit p [] s →
    ((∀ c, s.prof.claim = some c → c.owner ≠ p) → exec (.commit p tag []) s =
      .next (s.withReply p (refusalReply ReqKind.commit.code tag .notOwner 0 0)))
    ∧ (∀ c, s.prof.claim = some c → c.owner = p → c.timer = none →
      exec (.commit p tag []) s = .next (s.withReply p (refusalReply ReqKind.commit.code tag .busy 0 0))
        ∧ (Admitted .editDiscard p [] s → exec (.editDiscard p tag []) s =
          .next (s.withReply p (refusalReply ReqKind.editDiscard.code tag .busy 0 0))))
    ∧ (∀ c, s.prof.claim = some c → c.owner = p → c.timer ≠ none →
      (c.transfer ≠ none → exec (.commit p tag []) s =
        .next ((s.setProf { s.prof with claim := some { c with timer := some s.now } }).withReply p
          (refusalReply ReqKind.commit.code tag .badSequence 0 0)))
      ∧ (c.transfer = none → (s.prof.locked = true ∨ s.prof.lockPending = true) →
          metroDiffer c.staged s.prof.active = true → exec (.commit p tag []) s =
        .next ((s.setProf { s.prof with claim := some { c with timer := some s.now } }).withReply p
          (refusalReply ReqKind.commit.code tag .locked 0 0)))
      ∧ (c.transfer = none →
          ((s.prof.locked = false ∧ s.prof.lockPending = false) ∨ metroDiffer c.staged s.prof.active = false) →
        (∀ k i, inconsistency c.staged = some (k, i) → exec (.commit p tag []) s =
          .next ((s.setProf { s.prof with claim := some { c with timer := some s.now } }).withReply p
            (refusalReply ReqKind.commit.code tag .inconsistent k.code i)))
        ∧ (inconsistency c.staged = none → exec (.commit p tag []) s =
          .next ((s.setProf { s.prof with
            claim := some { c with timer := none }, reasons := { s.prof.reasons with commit := true } }).setPort p
              { s.port p with deferred := some { kind := .commit, tag := tag } }))))

/-- The profile store's clock: 960,000 ticks after its timer was last started the claim is released (R156); while no write
is in progress, one starts for the first reason in the order COMMIT, LOCK, BOOT, LEARNED (R165). -/
def Obligations.TimeoutAndWriteStart : Prop :=
  (∀ (s : State) (c : Claim) (t0 : Tick), s.heldLow = false → s.prof.claim = some c → c.timer = some t0 →
    hasPassed t0 960000 s.now = true → exec .ownershipTimeout s = .next (s.setProf { s.prof with claim := none }))
  ∧ (∀ (s : State) (k : Reason), s.heldLow = false → s.prof.write = none → s.prof.reasons.has k = true →
    (s.prof.reasons.commit = true → k = .commit) → (s.prof.reasons.lock = true → k = .commit ∨ k = .lock) →
    (s.prof.reasons.boot = true → k ≠ .learned) →
    ∃ w, exec .imageWriteStart s =
        .next (s.setProf { s.prof with write := some w, reasons := s.prof.reasons.put false k })
      ∧ w.reason = k ∧ w.start = s.now
      ∧ (k = .lock → w.content.locked = true ∧ w.content.audit = min (s.prof.audit + 1) 4294967295
          ∧ w.content.profile = s.prof.active)
      ∧ (k = .boot ∨ k = .learned → w.content.locked = s.prof.locked ∧ w.content.audit = s.prof.audit
          ∧ w.content.profile = s.prof.active)
      ∧ (k = .commit → ∀ c, s.prof.claim = some c → w.content.profile = c.staged
          ∧ w.content.locked = s.prof.locked
          ∧ w.content.audit = (if metroDiffer c.staged s.prof.active = true then min (s.prof.audit + 1) 4294967295
              else s.prof.audit)
          ∧ ∀ l : LaneIx, w.content.cal[l].fA =
              if metroDiffer c.staged s.prof.active = true then c.staged.lanes[l].fA else s.cal[l].fA)
      ∧ w.content.boot = s.prof.boot
      ∧ (k ≠ .commit → ∀ l : LaneIx, w.content.cal[l] =
          { fA := s.cal[l].fA, updates := s.cal[l].updates, limit := s.cal[l].limit }))

/-- A successful commit write (R144, R147, R162, R163): the set it carries becomes active, the generation rises by one, a
metrological commit raises the audit count, the claim is released, NOPROFILE becomes STANDBY, and the committing port's
reply OK carries the new generation. A metrological commit sets every factor afresh, empties every window and removes
LEARNED, whatever lanes are active; only the records that close at the same moment, built under the new generation, are
offered to the fresh windows after it. Where every active lane stays active and no candidate is overdue by the new set, none
closes, and the records and frames stay as they are.

A changed STRIPMAP restarts every channel, with CHANNEL_STATE for each that changes or settles again, and empties the
axle former (R21, R80). Each probe is enabled, disabled, restarted or left alone as its entry and the curve say, with
PROBE_STATE for each that changes (R51), and a conversion of a probe it disables is voided (R45). -/
def Obligations.CommitCompletes : Prop :=
  ∀ (s : State) (w : ImageWrite) (c : Claim) (tag : Byte) (metro : Bool), s.heldLow = false →
    s.prof.write = some w → w.reason = .commit → hasPassed w.start 1 s.now = true →
    s.prof.claim = some c → (s.port c.owner).deferred = some { kind := .commit, tag := tag } →
    metro = metroDiffer w.content.profile s.prof.active →
    ∃ t, exec (.imageWriteComplete true) s = .next t ∧ t.prof.active = w.content.profile
      ∧ t.prof.medium = .holds w.content ∧ t.prof.write = none ∧ t.prof.writeFault = false ∧ t.prof.claim = none
      ∧ t.prof.generation = min (s.prof.generation + 1) 4294967295
      ∧ t.prof.audit = (if metro then min (s.prof.audit + 1) 4294967295 else s.prof.audit)
      ∧ t.prof.locked = s.prof.locked ∧ t.prof.boot = s.prof.boot
      ∧ t.site = { s.site with state := if s.site.state = .noProfile then .standby else s.site.state }
      ∧ (t.port c.owner).deferred = none
      ∧ okReply .commit tag (leBytes 4 t.prof.generation) ∈ (t.port c.owner).replies
      ∧ (metro = true → ∃ (u : State) (rs : List VehicleRec), FreshFactors u w.content.profile
          ∧ (∀ l : LaneIx, u.cal[l].outcome = s.cal[l].outcome) ∧ u.prof.active = w.content.profile ∧ u.temp = t.temp
          ∧ u.prof.reasons.learned = false ∧ t.cal = (u.offerAll rs).cal
          ∧ t.prof.reasons.learned = (u.offerAll rs).prof.reasons.learned
          ∧ ∀ r ∈ rs, r.generation = t.prof.generation)
      ∧ (LanesKept s w.content.profile → NoneOverdueBy s w.content.profile → t.store = s.store ∧ t.asm = s.asm
          ∧ (metro = true → t.prof.reasons.learned = false ∧ FreshFactors t w.content.profile)
          ∧ (w.content.profile.strips = s.prof.active.strips → t.strip = s.strip))
      ∧ t.prof.replaced = some s.prof.active
      ∧ (w.content.profile.strips ≠ s.prof.active.strips →
          (∀ k : ChanIx, t.strip.channels[k] =
            { state := if (w.content.profile.strips[k]).lane = none then .off else .settling, settleSum := 0,
              settleCount := 0, baseline := none, detector := .quiet, bucket := 0, miss := 0, discard := 0 })
            ∧ t.strip.leakStart = s.strip.leakStart ∧ (∀ r q, t.waiting r q = [])
            ∧ (∀ l : LaneIx, t.former.candidates[l] = [])
            ∧ ∀ p : Port, (t.port p).events[EventClass.channelState.index] =
                (((List.finRange 24).filter (fun k : ChanIx => decide (t.strip.channels[k].state = .settling
                  ∨ t.strip.channels[k].state ≠ s.strip.channels[k].state))).map (fun k => itemBit k.val)).foldl
                    (fun e i => cellRaised i e) (s.port p).events[EventClass.channelState.index])
      ∧ (∀ q : ProbeIx,
          (w.content.profile.probes.entries[q].enabled = false → s.prof.active.probes.entries[q].enabled = true →
            t.temp.probes[q] =
                { state := .absent, lastRaw := none, lastOutcome := none, warm := 0, spike := 0, badRun := 0,
                  filtered := none }
              ∧ ∀ k, s.temp.conv = some k → k.input = .probe q → t.temp.conv = some { k with voided := true })
          ∧ (w.content.profile.probes.entries[q].enabled = true → s.prof.active.probes.entries[q].enabled = false →
            t.temp.probes[q] =
              { state := .warmup, lastRaw := none, lastOutcome := none, warm := 0, spike := 0, badRun := 0,
                filtered := none })
          ∧ (w.content.profile.probes.entries[q].enabled = true → s.prof.active.probes.entries[q].enabled = true →
            (w.content.profile.probes.curve ≠ s.prof.active.probes.curve
                ∨ w.content.profile.probes.entries[q].trim ≠ s.prof.active.probes.entries[q].trim →
              t.temp.probes[q] =
                { s.temp.probes[q] with state := .warmup, warm := 0, spike := 0, badRun := 0, filtered := none })
            ∧ (w.content.profile.probes.curve = s.prof.active.probes.curve →
                w.content.profile.probes.entries[q].trim = s.prof.active.probes.entries[q].trim →
              t.temp.probes[q] = s.temp.probes[q])))
      ∧ (∀ p : Port, (t.port p).events[EventClass.probeState.index] =
          (((List.finRange 8).filter (fun q : ProbeIx => decide (t.temp.probes[q].state ≠ s.temp.probes[q].state))).map
            (fun q => itemBit q.val)).foldl (fun e i => cellRaised i e)
              (s.port p).events[EventClass.probeState.index])

/-- The other ends of a write (R162, R166, R167, R170): a failed one sets the write-fault mark and leaves a bad medium; a
failed commit keeps the claim, restarts its timer and answers STORE_FAULT; a lock write clears the pending mark and sets
the lock only if it succeeded; a BOOT write takes the site from INIT to STANDBY either way; a LEARNED write does no more. -/
def Obligations.WriteServesItsReason : Prop :=
  ∀ (s : State) (w : ImageWrite) (agrees : Bool) (prof : ProfileStore), s.heldLow = false →
    s.prof.write = some w → hasPassed w.start 1 s.now = true →
    prof = { s.prof with
      write := none, writeFault := !agrees, medium := if agrees then .holds w.content else .failed } →
    (w.reason = .learned → exec (.imageWriteComplete agrees) s = .next (s.setProf prof))
    ∧ (w.reason = .boot → s.site.state = .init → exec (.imageWriteComplete agrees) s =
        .next ((s.setProf prof).setSite { s.site with state := .standby }))
    ∧ (w.reason = .lock → exec (.imageWriteComplete agrees) s = .next (s.setProf { prof with
        lockPending := false, locked := agrees || s.prof.locked,
        audit := if agrees then min (s.prof.audit + 1) 4294967295 else s.prof.audit }))
    ∧ (∀ c tag, w.reason = .commit → agrees = false → s.prof.claim = some c →
        (s.port c.owner).deferred = some { kind := .commit, tag := tag } →
        exec (.imageWriteComplete agrees) s = .next ((s.setProf { prof with
          claim := some { c with timer := some s.now } }).setPort c.owner
            { s.port c.owner with
              deferred := none,
              replies := (s.port c.owner).replies ++ [refusalReply ReqKind.commit.code tag .storeFault 0 0] }))

/-- LOCK (R167): refused NOPROFILE in NOPROFILE and LOCKED when set or pending; otherwise it is pending and placed, and
answered at once. RESTART (R171): the first makes a restart pending, a second changes nothing; each is answered OK. That
the restart is pending from the taking on, before its reply has been sent, is the model's reading (log 21). -/
def Obligations.LockAndRestartTaken : Prop :=
  (∀ (s : State) (p : Port) (tag : Byte), Admitted .lock p [] s →
    (s.site.state = .noProfile → exec (.lock p tag []) s =
      .next (s.withReply p (refusalReply ReqKind.lock.code tag .noProfile 0 0)))
    ∧ (s.site.state ≠ .noProfile → (s.prof.locked = true ∨ s.prof.lockPending = true) → exec (.lock p tag []) s =
      .next (s.withReply p (refusalReply ReqKind.lock.code tag .locked 0 0)))
    ∧ (s.site.state ≠ .noProfile → s.prof.locked = false → s.prof.lockPending = false → exec (.lock p tag []) s =
      .next ((s.setProf { s.prof with
        lockPending := true, reasons := { s.prof.reasons with lock := true } }).withReply p (okReply .lock tag []))))
  ∧ (∀ (s : State) (p : Port) (tag : Byte), Admitted .restart p [] s →
    (s.site.restart = none → exec (.restart p tag []) s =
      .next ((s.setSite { s.site with restart := some { replySent := false } }).withReply p
        { okReply .restart tag [] with endsRestart := true }))
    ∧ (s.site.restart ≠ none → exec (.restart p tag []) s = .next (s.withReply p (okReply .restart tag []))))

/-- SITE_RUN (R169): a value other than on and off is BAD_VALUE in every site state; on and off are refused in NOPROFILE; on
enters WEIGHING; off enters STANDBY and leaves no open frame and no candidate (R39). -/
def Obligations.SiteRunMoves : Prop :=
  ∀ (s : State) (p : Port) (tag b : Byte), Admitted .siteRun p [b] s →
    (s.site.state = .noProfile → b.toNat ≤ 1 → exec (.siteRun p tag [b]) s =
      .next (s.withReply p (refusalReply ReqKind.siteRun.code tag .noProfile 0 0)))
    ∧ (1 < b.toNat → exec (.siteRun p tag [b]) s =
      .next (s.withReply p (refusalReply ReqKind.siteRun.code tag .badValue 0 0)))
    ∧ (s.site.state ≠ .noProfile → b = 1 → exec (.siteRun p tag [b]) s =
      .next ((s.setSite { s.site with state := .weighing }).withReply p (okReply .siteRun tag [3])))
    ∧ (s.site.state ≠ .noProfile → b = 0 → IdleLanesEmpty s →
      ∃ t, exec (.siteRun p tag [b]) s = .next t ∧ t.site = { s.site with state := .standby }
        ∧ (∀ l : LaneIx, t.asm.frames[l] = none ∧ t.former.candidates[l] = [])
        ∧ (t.port p).replies = (s.port p).replies ++ [okReply .siteRun tag [2]]
        ∧ t.prof.active = s.prof.active ∧ KeepsAllBut [.former, .asm, .store, .cal, .prof, .site, .ports] s t)

/-- LANE_SET (R38): a lane outside 1 to 6 or another action is refused; opening a lane, or closing one that is not active,
sets the closure alone; closing an active lane leaves it without frame and without candidate (R39).

Its open frame closes ABORTED: the record is built with class 0, consumes a sequence number, and is screened and offered to
the store (R112, R121). Its candidates are discarded, and the waiting hits of the lane and of those candidates removed;
without a frame nothing else moves. Other lanes' candidates with no hit of the lane waiting stay (R72). That a hit which
such a candidate awaits at a neighbouring lane's position is removed with it is the model's reading (DEDUCED, log 12). -/
def Obligations.LaneSetCloses : Prop :=
  ∀ (s : State) (p : Port) (tag n act : Byte), Admitted .laneSet p [n, act] s →
    ((n.toNat = 0 ∨ 6 < n.toNat ∨ 1 < act.toNat) → exec (.laneSet p tag [n, act]) s =
      .next (s.withReply p (refusalReply ReqKind.laneSet.code tag .badValue 0 0)))
    ∧ (∀ l : LaneIx, n.toNat = l.val + 1 →
      (act = 0 ∨ (act = 1 ∧ s.laneActive l = false) → exec (.laneSet p tag [n, act]) s =
        .next ((s.setSite { s.site with closed := s.site.closed.set l (decide (act = 1)) }).withReply p
          (okReply .laneSet tag [act])))
      ∧ (act = 1 → s.laneActive l = true →
        ∃ t, exec (.laneSet p tag [n, act]) s = .next t ∧ t.site = { s.site with closed := s.site.closed.set l true }
          ∧ t.laneActive l = false ∧ t.asm.frames[l] = none ∧ t.former.candidates[l] = []
          ∧ (t.port p).replies = (s.port p).replies ++ [okReply .laneSet tag [1]]
          ∧ ((∀ k : LaneIx, k ≠ l → ∀ c ∈ s.former.candidates[k], c.sides ≠ []
                ∧ ∀ h, .waiting h ∈ c.sides → h.lane ≠ l) →
            t.former.candidates = s.former.candidates.set l []
              ∧ (∀ r q, t.waiting r q = (s.waiting r q).filter (fun y => decide (y.lane ≠ l
                  ∧ ∀ c ∈ s.former.candidates[l], Side.waiting y ∉ c.sides)))
              ∧ t.former.late = s.former.late ∧ t.former.nextId = s.former.nextId
              ∧ KeepsAllBut [.former, .asm, .store, .cal, .prof, .site, .ports] s t
              ∧ (s.asm.frames[l] = none → t.asm = s.asm ∧ t.store = s.store ∧ t.cal = s.cal ∧ t.prof = s.prof
                ∧ t.ports = (s.withReply p (okReply .laneSet tag [1])).ports)
              ∧ (∀ f, s.asm.frames[l] = some f → ∃ u,
                ClosedFrame (s.setSite { s.site with closed := s.site.closed.set l true }) l f .aborted u
                  ∧ t.asm = u.asm ∧ t.store = u.store ∧ t.cal = u.cal ∧ t.prof = u.prof
                  ∧ t.ports = (u.withReply p (okReply .laneSet tag [1])).ports))))

/-- TIME_SET (R172) sets site time and the epoch and nothing else that the manual names; IDENT (R173) answers in every site
state and changes nothing. The phase of the running millisecond after TIME_SET is the model's choice (log 7) and left
open here. -/
def Obligations.TimeSetAndIdent : Prop :=
  (∀ (s : State) (p : Port) (tag : Byte) (payload : List Byte), Admitted .timeSet p payload s →
    ∃ t, exec (.timeSet p tag payload) s = .next t ∧ t.site.time = BitVec.ofNat 48 (leNat payload)
      ∧ t.site = { s.site with time := t.site.time, timePhase := t.site.timePhase, epochSet := true }
      ∧ t.ports = (s.withReply p (okReply .timeSet tag [])).ports ∧ KeepsAllBut [.site, .ports] s t)
  ∧ (∀ (s : State) (p : Port) (tag : Byte), Admitted .ident p [] s →
    exec (.ident p tag []) s = .next (s.withReply p (okReply .ident tag
      ([BitVec.ofNat 8 (match s.site.cause with | .power => 0 | .line => 1 | .restart => 2),
        BitVec.ofNat 8 (match s.site.state with | .init => 0 | .noProfile => 1 | .standby => 2 | .weighing => 3),
        BitVec.ofNat 8 ((if s.site.storeLost then 1 else 0) + (if s.site.strapOpen then 2 else 0)
          + (if s.prof.locked then 4 else 0) + (if s.prof.lockPending then 8 else 0))]
        ++ leBytes 4 s.prof.audit ++ leBytes 4 s.prof.boot ++ leBytes 4 s.prof.generation
        ++ leBytes 4 s.prof.active.site.siteNumber))))

/-! ### Frames, requests and notices (chapter 9) -/

/-- STATUS (R180): a reply payload of 693 bytes, after which every count of the asking port is 0 and every list empty;
nothing else changes but the model's own count of free reads (log 3).

The payload holds the fields of chapter 9's STATUS result, each at its offset: the status byte, the channels (R19), the
loops and lanes (R41), the converter, probes and lane temperatures (R60), the axle former (R82), the assembler, the store
and the counter (R133), auto-calibration (R150), the profile store and site controller (R173), and the asking port's
events, mask, link error counts and deferred request. The ownership time of a stopped timer is left open (log 3).

Two clauses are not the manual's words. STATUS shows the lock and its pending mark (R167), and the layout names no place
for them: that they are bits 4 and 5 of the marks byte at offset 610, with bits 6 and 7 at 0, is the model's choice (DESIGN
CHOICE, log 31). That the ownership time is the floor of the seconds left, and 0 without a claim, is its reading (DEDUCED,
log 3). -/
def Obligations.StatusClearsAskingPort : Prop :=
  (∀ (s : State) (p : Port) (tag : Byte), Admitted .status p [] s →
    ∃ t result x, exec (.status p tag []) s = .next t ∧ x = (okReply .status tag result).payload ∧ x.length = 693
      ∧ t.port p = { s.port p with
          events := t.port p |>.events, replies := (s.port p).replies ++ [okReply .status tag result] }
      ∧ (∀ i : Fin 13, (t.port p).events[i].count = 0 ∧ (t.port p).events[i].list = 0)
      ∧ t.port (otherPort p) = s.port (otherPort p) ∧ t.ports.stream = s.ports.stream
      ∧ KeepsAllBut [.ports, .freeReads] s t
      ∧ HoldsAt x 0 [0]
      ∧ (∀ c : ChanIx, HoldsAt x (1 + 9 * c.val)
          (leBytes 1 s.strip.channels[c].state.code ++ leBytes 1 (if s.strip.channels[c].baseline.isSome then 1 else 0)
            ++ leSigned 2 (s.strip.channels[c].baseline.getD 0) ++ leBytes 2 s.strip.channels[c].bucket
            ++ leBytes 1 s.strip.channels[c].miss ++ leBytes 2 s.strip.channels[c].discard))
      ∧ (∀ l : LaneIx, HoldsAt x (217 + 2 * l.val)
          (leBytes 1 s.loops[l].up.filtered.code ++ leBytes 1 s.loops[l].down.filtered.code))
      ∧ (∀ l : LaneIx, HoldsAt x (229 + 6 * l.val)
          (leBytes 1 s.loops[l].presence.code
            ++ leBytes 1 ((if s.loops[l].congested then 1 else 0) + (if s.site.closed[l] then 2 else 0)
              + (if s.laneActive l then 4 else 0) + (if s.loops[l].speed.isSome then 8 else 0)
              + (if s.loops[l].lastLength.isSome then 16 else 0))
            ++ leBytes 2 ((s.loops[l].speed.map (·.1)).getD 0) ++ leBytes 2 (s.loops[l].lastLength.getD 0)))
      ∧ HoldsAt x 265
          (leBytes 1 (if s.temp.conv.isSome then 1 else 0)
            ++ leBytes 1 (match s.temp.conv with
              | none => 255
              | some { input := .zref, .. } => 8
              | some { input := .probe q, .. } => q.val)
            ++ leBytes 1 ((s.temp.slot.map (fun r => r.probe.val)).getD 255)
            ++ leBytes 1 ((if s.temp.zeroFault then 1 else 0) + (if s.temp.lastZero.isSome then 2 else 0)
              + (if s.temp.passInProgress then 4 else 0))
            ++ leSigned 1 s.temp.offset ++ leSigned 2 (s.temp.lastZero.getD 0) ++ leBytes 2 s.temp.zeroFaults
            ++ leBytes 2 s.temp.late)
      ∧ (∀ q : ProbeIx, HoldsAt x (276 + 9 * q.val)
          (leBytes 1 s.temp.probes[q].state.code
            ++ leBytes 1 ((if s.temp.probes[q].lastRaw.isSome then 1 else 0)
              + (if s.temp.probes[q].filtered.isSome then 2 else 0))
            ++ leBytes 2 (s.temp.probes[q].lastRaw.getD 0)
            ++ leBytes 1 ((s.temp.probes[q].lastOutcome.map ProbeOutcome.code).getD 0) ++ leBytes 1 s.temp.probes[q].warm
            ++ leBytes 1 s.temp.probes[q].spike ++ leSigned 2 (s.temp.probes[q].filtered.getD 0)))
      ∧ (∀ l : LaneIx, HoldsAt x (348 + 8 * l.val)
          (leBytes 1 s.temp.lanes[l].status.code ++ leBytes 1 s.temp.lanes[l].source.code
            ++ leSigned 2 (s.temp.lanes[l].temp.getD 0) ++ leBytes 4 s.temp.lanes[l].holdAge))
      ∧ (∀ q : PosIx, HoldsAt x (396 + q.val) (leBytes 1 (s.waiting .rowA q).length)
          ∧ HoldsAt x (408 + q.val) (leBytes 1 (s.waiting .rowB q).length))
      ∧ (∀ l : LaneIx, HoldsAt x (420 + 3 * l.val)
          (leBytes 1 s.former.candidates[l].length ++ leBytes 2 s.former.late[l]))
      ∧ (∀ l : LaneIx, HoldsAt x (438 + 10 * l.val)
          (leBytes 1 ((if s.asm.frames[l].isSome then 1 else 0)
              + (if (s.asm.frames[l].bind (·.length)).isSome then 2 else 0)
              + (if s.asm.lastMean[l].isSome then 4 else 0))
            ++ leBytes 1 ((s.asm.frames[l].map (fun f => f.axles.length)).getD 0)
            ++ leBytes 6 ((s.asm.frames[l].map (fun f => f.openSite.toNat)).getD 0)
            ++ leBytes 2 (s.asm.lastMean[l].getD 0)))
      ∧ HoldsAt x 498
          (leBytes 1 s.store.length ++ leBytes 2 (slotsUsed s.store)
            ++ leBytes 4 ((s.store.head?.map (fun r => r.seq.toNat)).getD 0)
            ++ leBytes 4 ((s.store.getLast?.map (fun r => r.seq.toNat)).getD 0)
            ++ leBytes 1 s.prof.active.site.highWater ++ leBytes 4 s.asm.seq.toNat
            ++ leBytes 1 (if s.ports.stream then 1 else 0))
      ∧ (∀ l : LaneIx, HoldsAt x (515 + 15 * l.val)
          (leBytes 2 s.cal[l].fA ++ leBytes 2 s.cal[l].updates
            ++ leBytes 1 ((if s.cal[l].limit then 1 else 0) + (if s.cal[l].anchor.isSome then 2 else 0)
              + (if s.cal[l].outcome.isSome then 4 else 0))
            ++ leBytes 1 s.cal[l].window.length ++ leSigned 2 (s.cal[l].anchor.getD 0)
            ++ leBytes 6 ((s.cal[l].window.head?.map (fun e => e.site.toNat)).getD 0)
            ++ leBytes 1 ((s.cal[l].outcome.map OfferOutcome.code).getD 0)))
      ∧ HoldsAt x 605 (leBytes 1 (match s.prof.claim with
          | none => 0
          | some { owner := .cab, .. } => 1
          | some { owner := .svc, .. } => 2))
      ∧ (s.prof.claim = none → HoldsAt x 606 [0])
      ∧ (∀ c t0, s.prof.claim = some c → c.timer = some t0 →
          HoldsAt x 606 (leBytes 1 ((960000 - elapsed t0 s.now) / 8000)))
      ∧ HoldsAt x 607
          (leBytes 1 (((s.prof.claim.bind (·.transfer)).map (fun y => y.sect.code)).getD 0)
            ++ leBytes 2 (((s.prof.claim.bind (·.transfer)).map (fun y => y.bytes.length)).getD 0)
            ++ leBytes 1 ((if ∃ c, s.prof.claim = some c ∧ c.timer = none then 1 else 0) + (if s.site.restart.isSome then 2 else 0)
              + (if s.prof.writeFault then 4 else 0) + (if s.site.epochSet then 8 else 0)
              + (if s.prof.locked then 16 else 0) + (if s.prof.lockPending then 32 else 0))
            ++ leBytes 1 ((s.prof.write.map (fun w => w.reason.code)).getD 0)
            ++ leBytes 1 ((if s.prof.reasons.commit then 1 else 0) + (if s.prof.reasons.learned then 2 else 0)
              + (if s.prof.reasons.lock then 4 else 0) + (if s.prof.reasons.boot then 8 else 0)))
      ∧ (∀ i : Fin 13, HoldsAt x (613 + 5 * i.val)
          (leBytes 1 (s.port p).events[i].count ++ leBytes 4 (s.port p).events[i].list.toNat))
      ∧ HoldsAt x 678 (leBytes 2 (s.port p).mask.toNat)
      ∧ HoldsAt x 680
          (leBytes 2 (s.port p).links.gap ++ leBytes 2 (s.port p).links.framing ++ leBytes 2 (s.port p).links.overrun
            ++ leBytes 2 (s.port p).links.length ++ leBytes 2 (s.port p).links.check ++ leBytes 2 (s.port p).links.overflow)
      ∧ HoldsAt x 692 (leBytes 1 (match (s.port p).deferred with
          | none => 0
          | some { kind := .commit, .. } => 1
          | some { kind := .probeNow, .. } => 2)))
  ∧ [ChanState.off, .settling, .normal, .degraded, .dead].map ChanState.code = [0, 1, 2, 3, 4]
  ∧ [Filtered.free, .occupied, .stuck].map Filtered.code = [0, 1, 2]
  ∧ [Presence.idle, .entering, .spanning, .leaving, .reverse].map Presence.code = [0, 1, 2, 3, 4]
  ∧ [ProbeState.absent, .warmup, .valid, .fault].map ProbeState.code = [0, 1, 2, 3]
  ∧ [ProbeOutcome.filtered, .seeded, .warmup, .spike, .bad, .zeroFault].map ProbeOutcome.code = [0, 1, 2, 3, 4, 5]
  ∧ [TempStatus.none, .live, .held, .stale].map TempStatus.code = [0, 1, 2, 3]
  ∧ [TempSource.none, .primary, .alternate].map TempSource.code = [0, 1, 2]
  ∧ [Reason.commit, .learned, .lock, .boot].map Reason.code = [1, 2, 3, 4]
  ∧ [OfferOutcome.disabled, .classTest, .speedTest, .grossTest, .flagsTest, .temperatureTest, .loadTest, .admitted,
      .restarted, .updated].map OfferOutcome.code = [0, 1, 2, 3, 4, 5, 6, 7, 8, 9]

/-- EVENT_ENABLE (R182): a mask above bit 12 is refused; any other replaces the asking port's mask and is answered. A KIND
outside the catalogue is answered UNKNOWN_KIND (R177). That the reply's KIND is taken modulo 256 for a KIND of 0x80 or
more is the model's reading (log 22). -/
def Obligations.EventEnableAndUnknownKind : Prop :=
  (∀ (s : State) (p : Port) (tag lo hi : Byte), Admitted .eventEnable p [lo, hi] s →
    (32 ≤ hi.toNat → exec (.eventEnable p tag [lo, hi]) s =
      .next (s.withReply p (refusalReply ReqKind.eventEnable.code tag .badValue 0 0)))
    ∧ (hi.toNat < 32 → exec (.eventEnable p tag [lo, hi]) s =
      .next ((s.setPort p { s.port p with mask := BitVec.ofNat 13 (lo.toNat + 256 * hi.toNat) }).withReply p
        (okReply .eventEnable tag [lo, hi]))))
  ∧ (∀ (s : State) (p : Port) (kind tag : Byte) (payload : List Byte), s.heldLow = false →
    (kind.toNat = 0 ∨ 18 < kind.toNat) → (s.port p).replies.length < 4 →
    exec (.unknownKindRequest p kind tag payload) s =
      .next (s.withReply p (refusalReply kind tag .unknownKind 0 0)))

/-- The port engine's tests (R177), for every request of the catalogue: a full reply list loses the request with an
OVERFLOW error and LINK_ERROR; NOT_READY in INIT, BUSY behind a deferred request, WRONG_PORT and BAD_LENGTH come in this
order, and a request so refused changes nothing but the reply list. -/
def Obligations.PortRefusals : Prop :=
  ∀ (s : State) (k : ReqKind) (p : Port) (tag : Byte) (payload : List Byte), s.heldLow = false →
    (4 ≤ (s.port p).replies.length → ∃ t, exec (requestCommand k p tag payload) s = .next t
      ∧ (t.port p).links = { (s.port p).links with overflow := min ((s.port p).links.overflow + 1) 65535 }
      ∧ (∀ q, (t.port q).replies = (s.port q).replies) ∧ t.port (otherPort p) =
        { s.port (otherPort p) with events := (t.port (otherPort p)).events }
      ∧ (∀ q, RaisedOnce .linkError (portBit p) (s.port q).events (t.port q).events) ∧ KeepsAllBut [.ports] s t)
    ∧ ((s.port p).replies.length < 4 →
      (s.site.state = .init → k ≠ .ident → exec (requestCommand k p tag payload) s =
        .next (s.withReply p (refusalReply k.code tag .notReady 0 0)))
      ∧ (s.site.state ≠ .init →
        ((s.port p).deferred ≠ none → k ≠ .ident → k ≠ .status → exec (requestCommand k p tag payload) s =
          .next (s.withReply p (refusalReply k.code tag .busy 0 0)))
        ∧ (((s.port p).deferred = none ∨ k = .ident ∨ k = .status) →
          (p = .svc → (k = .take ∨ k = .stream) → exec (requestCommand k p tag payload) s =
            .next (s.withReply p (refusalReply k.code tag .wrongPort 0 0)))
          ∧ ((p = .cab ∨ (k ≠ .take ∧ k ≠ .stream)) → k.lengthFits payload.length = false →
            exec (requestCommand k p tag payload) s =
              .next (s.withReply p (refusalReply k.code tag .badLength 0 0))))))

/-- Sender and receiver agree (R174, R175): the bytes of a well-formed frame with any KIND, any TAG and any payload of 0 to
1,024 bytes, received from HUNT with no gap between them, are taken as exactly that frame, and the receiver is in HUNT.

A frame of a KIND of the catalogue so taken is that request, and its last byte answers what the request's command answers
with the frame's TAG and payload; one of another KIND is the request of an unknown KIND (R177). -/
def Obligations.WellFormedFrameIsTaken : Prop :=
  (∀ (s : State) (p : Port) (kind tag : Byte) (payload : List Byte), (s.port p).rx = .hunt → payload.length ≤ 1024 →
    s.receiveAll p (frameBytes kind tag payload) =
      (s.setPort p { s.port p with rx := .hunt, gapStart := s.now }).takeFrame p kind tag payload)
  ∧ (∀ (s : State) (p : Port) (kind tag : Byte) (payload : List Byte), s.heldLow = false →
    (∀ k : ReqKind, kind = k.code → exec (requestCommand k p tag payload) s = .next (s.takeFrame p kind tag payload))
    ∧ (kind.toNat = 0 ∨ 18 < kind.toNat →
      exec (.unknownKindRequest p kind tag payload) s = .next (s.takeFrame p kind tag payload)))
  ∧ (∀ (s : State) (p : Port) (b lo kind tag : Byte) (len : Nat) (got : List Byte), s.heldLow = false →
    (s.port p).rx = .check len kind tag got (some lo) →
    (crc16 (leBytes 2 len ++ [kind, tag] ++ got)).toNat = lo.toNat + 256 * b.toNat →
    (∀ k : ReqKind, kind = k.code → exec (.rxByte p b) s =
      exec (requestCommand k p tag got) (s.setPort p { s.port p with rx := .hunt, gapStart := s.now }))
    ∧ (kind.toNat = 0 ∨ 18 < kind.toNat → exec (.rxByte p b) s =
      exec (.unknownKindRequest p kind tag got) (s.setPort p { s.port p with rx := .hunt, gapStart := s.now })))

/-- RX_BYTE (R175): in HUNT a byte other than 0x5A is discarded without count; 0x5A begins a frame; a LEN above 1,024 is a
LENGTH error; a wrong CHECK is a CHECK error without a reply.

Bytes lost on the line (R175, R176): a framing error or an overrun abandons any frame in progress and is counted in
HUNT as well; 10 ms without a byte abandon a frame with a GAP error. Each raises LINK_ERROR naming the port. -/
def Obligations.ReceiverAndLinkErrors : Prop :=
  (∀ (s : State) (p : Port) (b : Byte), s.heldLow = false →
    ((s.port p).rx = .hunt → exec (.rxByte p b) s = .next (s.setPort p
      { s.port p with gapStart := s.now, rx := if b = 0x5A then .length none else .hunt }))
    ∧ (∀ lo, (s.port p).rx = .length (some lo) →
      (lo.toNat + 256 * b.toNat ≤ 1024 → exec (.rxByte p b) s = .next (s.setPort p
        { s.port p with gapStart := s.now, rx := .header (lo.toNat + 256 * b.toNat) none }))
      ∧ (1024 < lo.toNat + 256 * b.toNat → ∃ t, exec (.rxByte p b) s = .next t ∧ (t.port p).rx = .hunt
        ∧ (t.port p).links = { (s.port p).links with length := min ((s.port p).links.length + 1) 65535 }
        ∧ (t.port p).replies = (s.port p).replies
        ∧ (∀ q, RaisedOnce .linkError (portBit p) (s.port q).events (t.port q).events) ∧ KeepsAllBut [.ports] s t))
    ∧ (∀ len kind tag got lo, (s.port p).rx = .check len kind tag got (some lo) →
      (crc16 (leBytes 2 len ++ [kind, tag] ++ got)).toNat ≠ lo.toNat + 256 * b.toNat →
      ∃ t, exec (.rxByte p b) s = .next t ∧ (t.port p).rx = .hunt
        ∧ (t.port p).links = { (s.port p).links with check := min ((s.port p).links.check + 1) 65535 }
        ∧ (t.port p).replies = (s.port p).replies
        ∧ (∀ q, RaisedOnce .linkError (portBit p) (s.port q).events (t.port q).events) ∧ KeepsAllBut [.ports] s t))
  ∧ (∀ (s : State) (p : Port), s.heldLow = false →
    (∀ e, ∃ t, exec (.rxLineError p e) s = .next t ∧ (t.port p).rx = .hunt
      ∧ (t.port p).links = (match e with
        | .framing => { (s.port p).links with framing := min ((s.port p).links.framing + 1) 65535 }
        | .overrun => { (s.port p).links with overrun := min ((s.port p).links.overrun + 1) 65535 })
      ∧ (∀ q, RaisedOnce .linkError (portBit p) (s.port q).events (t.port q).events)
      ∧ (∀ q, (t.port q).replies = (s.port q).replies) ∧ KeepsAllBut [.ports] s t)
    ∧ ((s.port p).rx ≠ .hunt → hasPassed (s.port p).gapStart 80 s.now = true →
      ∃ t, exec (.rxGapTimeout p) s = .next t ∧ (t.port p).rx = .hunt
        ∧ (t.port p).links = { (s.port p).links with gap := min ((s.port p).links.gap + 1) 65535 }
        ∧ (∀ q, RaisedOnce .linkError (portBit p) (s.port q).events (t.port q).events)
        ∧ (∀ q, (t.port q).replies = (s.port q).replies) ∧ KeepsAllBut [.ports] s t))

/-- The transmitter (R183, R184): an idle one begins the head of the reply list; with none waiting, an EVENT frame of KIND
0x41 and TAG 0, whose payload counts and lists in ascending code every enabled class with a count above 0, each with its
code, count and list, which become 0 as it is begun; and a frame sent whole leaves the transmitter idle.

A port over which a restart has passed is set as at a power-on when its frame has been sent (R186): its list is emptied
(R177) and, on the cabinet link, streaming is off.

Three clauses of that setting are the model's choice (DESIGN CHOICE, log 20): that the ports are set one by one, each at the
end of its own frame; that a PROBE_NOW the port took since the restart is dropped with it, its slot emptied; and that a RESTART
whose reply is lost by the setting, still pending (R171), waits for that reply no longer. -/
def Obligations.TransmitterSends : Prop :=
  (∀ (s : State) (p : Port) (r : Reply) (rest : List Reply), s.heldLow = false → (s.port p).tx = none →
    (s.port p).replies = r :: rest → exec (.replySend p) s = .next (s.setPort p
      { s.port p with
        replies := rest,
        tx := some { bytes := frameBytes r.kind r.tag r.payload, start := s.now, endsRestart := r.endsRestart } }))
  ∧ (∀ (s : State) (p : Port) (i : Fin 13) (due : List (Fin 13)), s.heldLow = false → (s.port p).tx = none →
    (s.port p).replies = [] → (s.port p).mask.getLsbD i.val = true → 0 < (s.port p).events[i].count →
    due = (List.finRange 13).filter (fun j =>
      (s.port p).mask.getLsbD j.val && decide (0 < (s.port p).events[j].count)) →
    exec (.eventFrame p) s = .next (s.setPort p
      { s.port p with
        events := Vector.ofFn (fun j => if j ∈ due then { count := 0, list := 0 } else (s.port p).events[j]),
        tx := (some { bytes := frameBytes 0x41 0 (s.port p).eventPayload, start := s.now, endsRestart := false }) })
      ∧ (s.port p).eventPayload = BitVec.ofNat 8 due.length :: due.flatMap (s.port p).eventEntry
      ∧ (∀ j : Fin 13, (s.port p).eventEntry j =
          BitVec.ofNat 8 (j.val + 1) :: BitVec.ofNat 8 (s.port p).events[j].count
            :: leBytes 4 (s.port p).events[j].list.toNat)
      ∧ (s.port p).eventPayload.length = 1 + 6 * due.length)
  ∧ (∀ (s : State) (p : Port) (f : Sending), s.heldLow = false → (s.port p).tx = some f →
    (s.port p).setAfterFrame = false →
    (f.endsRestart = false → exec (.transmitComplete p) s = .next (s.setPort p { s.port p with tx := none }))
    ∧ (f.endsRestart = true → exec (.transmitComplete p) s = .next ((s.setPort p { s.port p with tx := none }).setSite
        { s.site with restart := s.site.restart.map (fun _ => { replySent := true }) })))
  ∧ (∀ (s : State) (p : Port) (f : Sending), s.heldLow = false → (s.port p).tx = some f →
    (s.port p).setAfterFrame = true →
    ∃ t, exec (.transmitComplete p) s = .next t ∧ PortAtStart p (t.port p) ∧ (t.port p).setAfterFrame = false
      ∧ t.port (otherPort p) = s.port (otherPort p)
      ∧ t.ports.stream = (match p with
        | .cab => false
        | .svc => s.ports.stream)
      ∧ t.temp = { s.temp with
          slot := if ∃ r, s.temp.slot = some r ∧ r.port = p then none else s.temp.slot }
      ∧ ((∃ r ∈ (s.port p).replies, r.endsRestart = true) → t.site =
        { s.site with restart := s.site.restart.map (fun _ => { replySent := true }) })
      ∧ ((∀ r ∈ (s.port p).replies, r.endsRestart = false) → t.site =
        { s.site with restart := if f.endsRestart = true then s.site.restart.map (fun _ => { replySent := true })
            else s.site.restart })
      ∧ KeepsAllBut [.temp, .site, .ports] s t)

/-! ### The whole machine -/

/-- Every step keeps the limits of the store, the sequence counter and the open frames (R109, R116, R126). -/
def Obligations.StoreLimitsKept : Prop :=
  ∀ s t : State, StoreLimits s → step s = .next t → StoreLimits t

/-- Every step keeps R39: a lane that is not active has no open vehicle frame and no axle candidate. -/
def Obligations.IdleLanesStayEmpty : Prop :=
  ∀ s t : State, IdleLanesEmpty s → step s = .next t → IdleLanesEmpty t

/-- Every step keeps the event counts within 255 and the link error counts within 65,535 (R176, R181), and the axle former
within its limits: at most 4 hits in a pending list (R62), at most 4 open candidates in a lane (R68), one or two sides in a
candidate, each with a hit, and no two candidates of one number, which the model gives them in the order of their opening
(R67). -/
def Obligations.CountLimitsKept : Prop :=
  (∀ s t : State, CountLimits s → step s = .next t → CountLimits t)
  ∧ (∀ s t : State, FormerLimits s → step s = .next t → FormerLimits t)

/-- The active set changes at two moments only, the completion of a commit and a start (R152): every other command leaves it
and the generation as they are, whatever frames, axles and factors it moves, and so does the end of a write for another
reason and of a failed one. But for the end of a write, the lock, the counts and the medium stay as well.

While a commit is in flight, the claim and its staged set stay as they were judged (R161, R162, R167), whatever else
happens: only the end of the commit's own write or a start ends that. After a restart has dropped the port's hold of the
commit this is the model's choice (log 20). -/
def Obligations.ActiveSetChangesAtTwoMoments : Prop :=
  (∀ (s t : State) (c : Instr), exec c s = .next t → (∀ strap, c ≠ .powerOn strap) →
    (∀ strap, c ≠ .lineReset strap) → c ≠ .resetNHeldLow → c ≠ .restartTakesPlace →
    ¬ (c = .imageWriteComplete true ∧ ∃ w, s.prof.write = some w ∧ w.reason = .commit) →
    t.prof.active = s.prof.active ∧ t.prof.generation = s.prof.generation)
  ∧ (∀ (s t : State) (c : Instr), exec c s = .next t → (∀ strap, c ≠ .powerOn strap) → (∀ strap, c ≠ .lineReset strap) →
    c ≠ .resetNHeldLow → c ≠ .restartTakesPlace → (∀ agrees, c ≠ .imageWriteComplete agrees) →
    t.prof.active = s.prof.active ∧ t.prof.generation = s.prof.generation ∧ t.prof.locked = s.prof.locked
      ∧ t.prof.audit = s.prof.audit ∧ t.prof.boot = s.prof.boot ∧ t.prof.medium = s.prof.medium)
  ∧ (∀ (s t : State) (c : Instr) (x : Claim), exec c s = .next t → s.prof.claim = some x → x.timer = none →
    (∀ strap, c ≠ .powerOn strap) → (∀ strap, c ≠ .lineReset strap) → c ≠ .resetNHeldLow → c ≠ .restartTakesPlace →
    ¬ (∃ agrees w, c = .imageWriteComplete agrees ∧ s.prof.write = some w ∧ w.reason = .commit) →
    t.prof.claim = some x)

/-- Writing a CLASSES section out and reading it in agree (R122, R151): every list of up to 32 valid entries is read back
from its bytes as it was, so no bit of the layout is dropped. -/
def Obligations.ClassTableRoundTrip : Prop :=
  ∀ (p q : Profile), p.classes.length ≤ 32 → (∀ e ∈ p.classes, classOk e = true) →
    validateSection q .classes (sectionBytes p .classes) = .ok { q with classes := p.classes }
end

