-- ==== Sys2Proof/Laws/State.lean ====
section
/-! SUPPORT. What every update of the state does to every field: one lemma per field per update. -/

namespace Sys2Proof.Machine

open Sys2Proof

namespace State

variable (s : State)

/-! ### setPending -/

@[simp] theorem setPending_pending (q : List Instr) : (s.setPending q).pending = q := rfl
@[simp] theorem setPending_now (q : List Instr) : (s.setPending q).now = s.now := rfl
@[simp] theorem setPending_heldLow (q : List Instr) : (s.setPending q).heldLow = s.heldLow := rfl
@[simp] theorem setPending_strip (q : List Instr) : (s.setPending q).strip = s.strip := rfl
@[simp] theorem setPending_loops (q : List Instr) : (s.setPending q).loops = s.loops := rfl
@[simp] theorem setPending_temp (q : List Instr) : (s.setPending q).temp = s.temp := rfl
@[simp] theorem setPending_former (q : List Instr) : (s.setPending q).former = s.former := rfl
@[simp] theorem setPending_asm (q : List Instr) : (s.setPending q).asm = s.asm := rfl
@[simp] theorem setPending_store (q : List Instr) : (s.setPending q).store = s.store := rfl
@[simp] theorem setPending_cal (q : List Instr) : (s.setPending q).cal = s.cal := rfl
@[simp] theorem setPending_prof (q : List Instr) : (s.setPending q).prof = s.prof := rfl
@[simp] theorem setPending_site (q : List Instr) : (s.setPending q).site = s.site := rfl
@[simp] theorem setPending_ports (q : List Instr) : (s.setPending q).ports = s.ports := rfl
@[simp] theorem setPending_freeReads (q : List Instr) : (s.setPending q).freeReads = s.freeReads := rfl

/-! ### setNow -/

@[simp] theorem setNow_pending (x : Tick) : (s.setNow x).pending = s.pending := rfl
@[simp] theorem setNow_now (x : Tick) : (s.setNow x).now = x := rfl
@[simp] theorem setNow_heldLow (x : Tick) : (s.setNow x).heldLow = s.heldLow := rfl
@[simp] theorem setNow_strip (x : Tick) : (s.setNow x).strip = s.strip := rfl
@[simp] theorem setNow_loops (x : Tick) : (s.setNow x).loops = s.loops := rfl
@[simp] theorem setNow_temp (x : Tick) : (s.setNow x).temp = s.temp := rfl
@[simp] theorem setNow_former (x : Tick) : (s.setNow x).former = s.former := rfl
@[simp] theorem setNow_asm (x : Tick) : (s.setNow x).asm = s.asm := rfl
@[simp] theorem setNow_store (x : Tick) : (s.setNow x).store = s.store := rfl
@[simp] theorem setNow_cal (x : Tick) : (s.setNow x).cal = s.cal := rfl
@[simp] theorem setNow_prof (x : Tick) : (s.setNow x).prof = s.prof := rfl
@[simp] theorem setNow_site (x : Tick) : (s.setNow x).site = s.site := rfl
@[simp] theorem setNow_ports (x : Tick) : (s.setNow x).ports = s.ports := rfl
@[simp] theorem setNow_freeReads (x : Tick) : (s.setNow x).freeReads = s.freeReads := rfl

/-! ### setHeldLow -/

@[simp] theorem setHeldLow_pending (x : Bool) : (s.setHeldLow x).pending = s.pending := rfl
@[simp] theorem setHeldLow_now (x : Bool) : (s.setHeldLow x).now = s.now := rfl
@[simp] theorem setHeldLow_heldLow (x : Bool) : (s.setHeldLow x).heldLow = x := rfl
@[simp] theorem setHeldLow_strip (x : Bool) : (s.setHeldLow x).strip = s.strip := rfl
@[simp] theorem setHeldLow_loops (x : Bool) : (s.setHeldLow x).loops = s.loops := rfl
@[simp] theorem setHeldLow_temp (x : Bool) : (s.setHeldLow x).temp = s.temp := rfl
@[simp] theorem setHeldLow_former (x : Bool) : (s.setHeldLow x).former = s.former := rfl
@[simp] theorem setHeldLow_asm (x : Bool) : (s.setHeldLow x).asm = s.asm := rfl
@[simp] theorem setHeldLow_store (x : Bool) : (s.setHeldLow x).store = s.store := rfl
@[simp] theorem setHeldLow_cal (x : Bool) : (s.setHeldLow x).cal = s.cal := rfl
@[simp] theorem setHeldLow_prof (x : Bool) : (s.setHeldLow x).prof = s.prof := rfl
@[simp] theorem setHeldLow_site (x : Bool) : (s.setHeldLow x).site = s.site := rfl
@[simp] theorem setHeldLow_ports (x : Bool) : (s.setHeldLow x).ports = s.ports := rfl
@[simp] theorem setHeldLow_freeReads (x : Bool) : (s.setHeldLow x).freeReads = s.freeReads := rfl

/-! ### setStrip -/

@[simp] theorem setStrip_pending (x : StripFrontEnd) : (s.setStrip x).pending = s.pending := rfl
@[simp] theorem setStrip_now (x : StripFrontEnd) : (s.setStrip x).now = s.now := rfl
@[simp] theorem setStrip_heldLow (x : StripFrontEnd) : (s.setStrip x).heldLow = s.heldLow := rfl
@[simp] theorem setStrip_strip (x : StripFrontEnd) : (s.setStrip x).strip = x := rfl
@[simp] theorem setStrip_loops (x : StripFrontEnd) : (s.setStrip x).loops = s.loops := rfl
@[simp] theorem setStrip_temp (x : StripFrontEnd) : (s.setStrip x).temp = s.temp := rfl
@[simp] theorem setStrip_former (x : StripFrontEnd) : (s.setStrip x).former = s.former := rfl
@[simp] theorem setStrip_asm (x : StripFrontEnd) : (s.setStrip x).asm = s.asm := rfl
@[simp] theorem setStrip_store (x : StripFrontEnd) : (s.setStrip x).store = s.store := rfl
@[simp] theorem setStrip_cal (x : StripFrontEnd) : (s.setStrip x).cal = s.cal := rfl
@[simp] theorem setStrip_prof (x : StripFrontEnd) : (s.setStrip x).prof = s.prof := rfl
@[simp] theorem setStrip_site (x : StripFrontEnd) : (s.setStrip x).site = s.site := rfl
@[simp] theorem setStrip_ports (x : StripFrontEnd) : (s.setStrip x).ports = s.ports := rfl
@[simp] theorem setStrip_freeReads (x : StripFrontEnd) : (s.setStrip x).freeReads = s.freeReads := rfl

/-! ### setLoops -/

@[simp] theorem setLoops_pending (x : Vector LaneMonitor 6) : (s.setLoops x).pending = s.pending := rfl
@[simp] theorem setLoops_now (x : Vector LaneMonitor 6) : (s.setLoops x).now = s.now := rfl
@[simp] theorem setLoops_heldLow (x : Vector LaneMonitor 6) : (s.setLoops x).heldLow = s.heldLow := rfl
@[simp] theorem setLoops_strip (x : Vector LaneMonitor 6) : (s.setLoops x).strip = s.strip := rfl
@[simp] theorem setLoops_loops (x : Vector LaneMonitor 6) : (s.setLoops x).loops = x := rfl
@[simp] theorem setLoops_temp (x : Vector LaneMonitor 6) : (s.setLoops x).temp = s.temp := rfl
@[simp] theorem setLoops_former (x : Vector LaneMonitor 6) : (s.setLoops x).former = s.former := rfl
@[simp] theorem setLoops_asm (x : Vector LaneMonitor 6) : (s.setLoops x).asm = s.asm := rfl
@[simp] theorem setLoops_store (x : Vector LaneMonitor 6) : (s.setLoops x).store = s.store := rfl
@[simp] theorem setLoops_cal (x : Vector LaneMonitor 6) : (s.setLoops x).cal = s.cal := rfl
@[simp] theorem setLoops_prof (x : Vector LaneMonitor 6) : (s.setLoops x).prof = s.prof := rfl
@[simp] theorem setLoops_site (x : Vector LaneMonitor 6) : (s.setLoops x).site = s.site := rfl
@[simp] theorem setLoops_ports (x : Vector LaneMonitor 6) : (s.setLoops x).ports = s.ports := rfl
@[simp] theorem setLoops_freeReads (x : Vector LaneMonitor 6) : (s.setLoops x).freeReads = s.freeReads := rfl

/-! ### setTemp -/

@[simp] theorem setTemp_pending (x : TempUnit) : (s.setTemp x).pending = s.pending := rfl
@[simp] theorem setTemp_now (x : TempUnit) : (s.setTemp x).now = s.now := rfl
@[simp] theorem setTemp_heldLow (x : TempUnit) : (s.setTemp x).heldLow = s.heldLow := rfl
@[simp] theorem setTemp_strip (x : TempUnit) : (s.setTemp x).strip = s.strip := rfl
@[simp] theorem setTemp_loops (x : TempUnit) : (s.setTemp x).loops = s.loops := rfl
@[simp] theorem setTemp_temp (x : TempUnit) : (s.setTemp x).temp = x := rfl
@[simp] theorem setTemp_former (x : TempUnit) : (s.setTemp x).former = s.former := rfl
@[simp] theorem setTemp_asm (x : TempUnit) : (s.setTemp x).asm = s.asm := rfl
@[simp] theorem setTemp_store (x : TempUnit) : (s.setTemp x).store = s.store := rfl
@[simp] theorem setTemp_cal (x : TempUnit) : (s.setTemp x).cal = s.cal := rfl
@[simp] theorem setTemp_prof (x : TempUnit) : (s.setTemp x).prof = s.prof := rfl
@[simp] theorem setTemp_site (x : TempUnit) : (s.setTemp x).site = s.site := rfl
@[simp] theorem setTemp_ports (x : TempUnit) : (s.setTemp x).ports = s.ports := rfl
@[simp] theorem setTemp_freeReads (x : TempUnit) : (s.setTemp x).freeReads = s.freeReads := rfl

/-! ### setFormer -/

@[simp] theorem setFormer_pending (x : AxleFormer) : (s.setFormer x).pending = s.pending := rfl
@[simp] theorem setFormer_now (x : AxleFormer) : (s.setFormer x).now = s.now := rfl
@[simp] theorem setFormer_heldLow (x : AxleFormer) : (s.setFormer x).heldLow = s.heldLow := rfl
@[simp] theorem setFormer_strip (x : AxleFormer) : (s.setFormer x).strip = s.strip := rfl
@[simp] theorem setFormer_loops (x : AxleFormer) : (s.setFormer x).loops = s.loops := rfl
@[simp] theorem setFormer_temp (x : AxleFormer) : (s.setFormer x).temp = s.temp := rfl
@[simp] theorem setFormer_former (x : AxleFormer) : (s.setFormer x).former = x := rfl
@[simp] theorem setFormer_asm (x : AxleFormer) : (s.setFormer x).asm = s.asm := rfl
@[simp] theorem setFormer_store (x : AxleFormer) : (s.setFormer x).store = s.store := rfl
@[simp] theorem setFormer_cal (x : AxleFormer) : (s.setFormer x).cal = s.cal := rfl
@[simp] theorem setFormer_prof (x : AxleFormer) : (s.setFormer x).prof = s.prof := rfl
@[simp] theorem setFormer_site (x : AxleFormer) : (s.setFormer x).site = s.site := rfl
@[simp] theorem setFormer_ports (x : AxleFormer) : (s.setFormer x).ports = s.ports := rfl
@[simp] theorem setFormer_freeReads (x : AxleFormer) : (s.setFormer x).freeReads = s.freeReads := rfl

/-! ### setAsm -/

@[simp] theorem setAsm_pending (x : Assembler) : (s.setAsm x).pending = s.pending := rfl
@[simp] theorem setAsm_now (x : Assembler) : (s.setAsm x).now = s.now := rfl
@[simp] theorem setAsm_heldLow (x : Assembler) : (s.setAsm x).heldLow = s.heldLow := rfl
@[simp] theorem setAsm_strip (x : Assembler) : (s.setAsm x).strip = s.strip := rfl
@[simp] theorem setAsm_loops (x : Assembler) : (s.setAsm x).loops = s.loops := rfl
@[simp] theorem setAsm_temp (x : Assembler) : (s.setAsm x).temp = s.temp := rfl
@[simp] theorem setAsm_former (x : Assembler) : (s.setAsm x).former = s.former := rfl
@[simp] theorem setAsm_asm (x : Assembler) : (s.setAsm x).asm = x := rfl
@[simp] theorem setAsm_store (x : Assembler) : (s.setAsm x).store = s.store := rfl
@[simp] theorem setAsm_cal (x : Assembler) : (s.setAsm x).cal = s.cal := rfl
@[simp] theorem setAsm_prof (x : Assembler) : (s.setAsm x).prof = s.prof := rfl
@[simp] theorem setAsm_site (x : Assembler) : (s.setAsm x).site = s.site := rfl
@[simp] theorem setAsm_ports (x : Assembler) : (s.setAsm x).ports = s.ports := rfl
@[simp] theorem setAsm_freeReads (x : Assembler) : (s.setAsm x).freeReads = s.freeReads := rfl

/-! ### setStore -/

@[simp] theorem setStore_pending (x : List VehicleRec) : (s.setStore x).pending = s.pending := rfl
@[simp] theorem setStore_now (x : List VehicleRec) : (s.setStore x).now = s.now := rfl
@[simp] theorem setStore_heldLow (x : List VehicleRec) : (s.setStore x).heldLow = s.heldLow := rfl
@[simp] theorem setStore_strip (x : List VehicleRec) : (s.setStore x).strip = s.strip := rfl
@[simp] theorem setStore_loops (x : List VehicleRec) : (s.setStore x).loops = s.loops := rfl
@[simp] theorem setStore_temp (x : List VehicleRec) : (s.setStore x).temp = s.temp := rfl
@[simp] theorem setStore_former (x : List VehicleRec) : (s.setStore x).former = s.former := rfl
@[simp] theorem setStore_asm (x : List VehicleRec) : (s.setStore x).asm = s.asm := rfl
@[simp] theorem setStore_store (x : List VehicleRec) : (s.setStore x).store = x := rfl
@[simp] theorem setStore_cal (x : List VehicleRec) : (s.setStore x).cal = s.cal := rfl
@[simp] theorem setStore_prof (x : List VehicleRec) : (s.setStore x).prof = s.prof := rfl
@[simp] theorem setStore_site (x : List VehicleRec) : (s.setStore x).site = s.site := rfl
@[simp] theorem setStore_ports (x : List VehicleRec) : (s.setStore x).ports = s.ports := rfl
@[simp] theorem setStore_freeReads (x : List VehicleRec) : (s.setStore x).freeReads = s.freeReads := rfl

/-! ### setCal -/

@[simp] theorem setCal_pending (x : Vector LaneCal 6) : (s.setCal x).pending = s.pending := rfl
@[simp] theorem setCal_now (x : Vector LaneCal 6) : (s.setCal x).now = s.now := rfl
@[simp] theorem setCal_heldLow (x : Vector LaneCal 6) : (s.setCal x).heldLow = s.heldLow := rfl
@[simp] theorem setCal_strip (x : Vector LaneCal 6) : (s.setCal x).strip = s.strip := rfl
@[simp] theorem setCal_loops (x : Vector LaneCal 6) : (s.setCal x).loops = s.loops := rfl
@[simp] theorem setCal_temp (x : Vector LaneCal 6) : (s.setCal x).temp = s.temp := rfl
@[simp] theorem setCal_former (x : Vector LaneCal 6) : (s.setCal x).former = s.former := rfl
@[simp] theorem setCal_asm (x : Vector LaneCal 6) : (s.setCal x).asm = s.asm := rfl
@[simp] theorem setCal_store (x : Vector LaneCal 6) : (s.setCal x).store = s.store := rfl
@[simp] theorem setCal_cal (x : Vector LaneCal 6) : (s.setCal x).cal = x := rfl
@[simp] theorem setCal_prof (x : Vector LaneCal 6) : (s.setCal x).prof = s.prof := rfl
@[simp] theorem setCal_site (x : Vector LaneCal 6) : (s.setCal x).site = s.site := rfl
@[simp] theorem setCal_ports (x : Vector LaneCal 6) : (s.setCal x).ports = s.ports := rfl
@[simp] theorem setCal_freeReads (x : Vector LaneCal 6) : (s.setCal x).freeReads = s.freeReads := rfl

/-! ### setProf -/

@[simp] theorem setProf_pending (x : ProfileStore) : (s.setProf x).pending = s.pending := rfl
@[simp] theorem setProf_now (x : ProfileStore) : (s.setProf x).now = s.now := rfl
@[simp] theorem setProf_heldLow (x : ProfileStore) : (s.setProf x).heldLow = s.heldLow := rfl
@[simp] theorem setProf_strip (x : ProfileStore) : (s.setProf x).strip = s.strip := rfl
@[simp] theorem setProf_loops (x : ProfileStore) : (s.setProf x).loops = s.loops := rfl
@[simp] theorem setProf_temp (x : ProfileStore) : (s.setProf x).temp = s.temp := rfl
@[simp] theorem setProf_former (x : ProfileStore) : (s.setProf x).former = s.former := rfl
@[simp] theorem setProf_asm (x : ProfileStore) : (s.setProf x).asm = s.asm := rfl
@[simp] theorem setProf_store (x : ProfileStore) : (s.setProf x).store = s.store := rfl
@[simp] theorem setProf_cal (x : ProfileStore) : (s.setProf x).cal = s.cal := rfl
@[simp] theorem setProf_prof (x : ProfileStore) : (s.setProf x).prof = x := rfl
@[simp] theorem setProf_site (x : ProfileStore) : (s.setProf x).site = s.site := rfl
@[simp] theorem setProf_ports (x : ProfileStore) : (s.setProf x).ports = s.ports := rfl
@[simp] theorem setProf_freeReads (x : ProfileStore) : (s.setProf x).freeReads = s.freeReads := rfl

/-! ### setSite -/

@[simp] theorem setSite_pending (x : SiteCtl) : (s.setSite x).pending = s.pending := rfl
@[simp] theorem setSite_now (x : SiteCtl) : (s.setSite x).now = s.now := rfl
@[simp] theorem setSite_heldLow (x : SiteCtl) : (s.setSite x).heldLow = s.heldLow := rfl
@[simp] theorem setSite_strip (x : SiteCtl) : (s.setSite x).strip = s.strip := rfl
@[simp] theorem setSite_loops (x : SiteCtl) : (s.setSite x).loops = s.loops := rfl
@[simp] theorem setSite_temp (x : SiteCtl) : (s.setSite x).temp = s.temp := rfl
@[simp] theorem setSite_former (x : SiteCtl) : (s.setSite x).former = s.former := rfl
@[simp] theorem setSite_asm (x : SiteCtl) : (s.setSite x).asm = s.asm := rfl
@[simp] theorem setSite_store (x : SiteCtl) : (s.setSite x).store = s.store := rfl
@[simp] theorem setSite_cal (x : SiteCtl) : (s.setSite x).cal = s.cal := rfl
@[simp] theorem setSite_prof (x : SiteCtl) : (s.setSite x).prof = s.prof := rfl
@[simp] theorem setSite_site (x : SiteCtl) : (s.setSite x).site = x := rfl
@[simp] theorem setSite_ports (x : SiteCtl) : (s.setSite x).ports = s.ports := rfl
@[simp] theorem setSite_freeReads (x : SiteCtl) : (s.setSite x).freeReads = s.freeReads := rfl

/-! ### setPorts -/

@[simp] theorem setPorts_pending (x : Ports) : (s.setPorts x).pending = s.pending := rfl
@[simp] theorem setPorts_now (x : Ports) : (s.setPorts x).now = s.now := rfl
@[simp] theorem setPorts_heldLow (x : Ports) : (s.setPorts x).heldLow = s.heldLow := rfl
@[simp] theorem setPorts_strip (x : Ports) : (s.setPorts x).strip = s.strip := rfl
@[simp] theorem setPorts_loops (x : Ports) : (s.setPorts x).loops = s.loops := rfl
@[simp] theorem setPorts_temp (x : Ports) : (s.setPorts x).temp = s.temp := rfl
@[simp] theorem setPorts_former (x : Ports) : (s.setPorts x).former = s.former := rfl
@[simp] theorem setPorts_asm (x : Ports) : (s.setPorts x).asm = s.asm := rfl
@[simp] theorem setPorts_store (x : Ports) : (s.setPorts x).store = s.store := rfl
@[simp] theorem setPorts_cal (x : Ports) : (s.setPorts x).cal = s.cal := rfl
@[simp] theorem setPorts_prof (x : Ports) : (s.setPorts x).prof = s.prof := rfl
@[simp] theorem setPorts_site (x : Ports) : (s.setPorts x).site = s.site := rfl
@[simp] theorem setPorts_ports (x : Ports) : (s.setPorts x).ports = x := rfl
@[simp] theorem setPorts_freeReads (x : Ports) : (s.setPorts x).freeReads = s.freeReads := rfl

/-! ### setFreeReads -/

@[simp] theorem setFreeReads_pending (x : Nat) : (s.setFreeReads x).pending = s.pending := rfl
@[simp] theorem setFreeReads_now (x : Nat) : (s.setFreeReads x).now = s.now := rfl
@[simp] theorem setFreeReads_heldLow (x : Nat) : (s.setFreeReads x).heldLow = s.heldLow := rfl
@[simp] theorem setFreeReads_strip (x : Nat) : (s.setFreeReads x).strip = s.strip := rfl
@[simp] theorem setFreeReads_loops (x : Nat) : (s.setFreeReads x).loops = s.loops := rfl
@[simp] theorem setFreeReads_temp (x : Nat) : (s.setFreeReads x).temp = s.temp := rfl
@[simp] theorem setFreeReads_former (x : Nat) : (s.setFreeReads x).former = s.former := rfl
@[simp] theorem setFreeReads_asm (x : Nat) : (s.setFreeReads x).asm = s.asm := rfl
@[simp] theorem setFreeReads_store (x : Nat) : (s.setFreeReads x).store = s.store := rfl
@[simp] theorem setFreeReads_cal (x : Nat) : (s.setFreeReads x).cal = s.cal := rfl
@[simp] theorem setFreeReads_prof (x : Nat) : (s.setFreeReads x).prof = s.prof := rfl
@[simp] theorem setFreeReads_site (x : Nat) : (s.setFreeReads x).site = s.site := rfl
@[simp] theorem setFreeReads_ports (x : Nat) : (s.setFreeReads x).ports = s.ports := rfl
@[simp] theorem setFreeReads_freeReads (x : Nat) : (s.setFreeReads x).freeReads = x := rfl

/-! ### setChannel -/

@[simp] theorem setChannel_pending (c : ChanIx) (x : Channel) : (s.setChannel c x).pending = s.pending := rfl
@[simp] theorem setChannel_now (c : ChanIx) (x : Channel) : (s.setChannel c x).now = s.now := rfl
@[simp] theorem setChannel_heldLow (c : ChanIx) (x : Channel) : (s.setChannel c x).heldLow = s.heldLow := rfl
@[simp] theorem setChannel_loops (c : ChanIx) (x : Channel) : (s.setChannel c x).loops = s.loops := rfl
@[simp] theorem setChannel_temp (c : ChanIx) (x : Channel) : (s.setChannel c x).temp = s.temp := rfl
@[simp] theorem setChannel_former (c : ChanIx) (x : Channel) : (s.setChannel c x).former = s.former := rfl
@[simp] theorem setChannel_asm (c : ChanIx) (x : Channel) : (s.setChannel c x).asm = s.asm := rfl
@[simp] theorem setChannel_store (c : ChanIx) (x : Channel) : (s.setChannel c x).store = s.store := rfl
@[simp] theorem setChannel_cal (c : ChanIx) (x : Channel) : (s.setChannel c x).cal = s.cal := rfl
@[simp] theorem setChannel_prof (c : ChanIx) (x : Channel) : (s.setChannel c x).prof = s.prof := rfl
@[simp] theorem setChannel_site (c : ChanIx) (x : Channel) : (s.setChannel c x).site = s.site := rfl
@[simp] theorem setChannel_ports (c : ChanIx) (x : Channel) : (s.setChannel c x).ports = s.ports := rfl
@[simp] theorem setChannel_freeReads (c : ChanIx) (x : Channel) : (s.setChannel c x).freeReads = s.freeReads := rfl

/-! ### setLaneMon -/

@[simp] theorem setLaneMon_pending (l : LaneIx) (x : LaneMonitor) : (s.setLaneMon l x).pending = s.pending := rfl
@[simp] theorem setLaneMon_now (l : LaneIx) (x : LaneMonitor) : (s.setLaneMon l x).now = s.now := rfl
@[simp] theorem setLaneMon_heldLow (l : LaneIx) (x : LaneMonitor) : (s.setLaneMon l x).heldLow = s.heldLow := rfl
@[simp] theorem setLaneMon_strip (l : LaneIx) (x : LaneMonitor) : (s.setLaneMon l x).strip = s.strip := rfl
@[simp] theorem setLaneMon_temp (l : LaneIx) (x : LaneMonitor) : (s.setLaneMon l x).temp = s.temp := rfl
@[simp] theorem setLaneMon_former (l : LaneIx) (x : LaneMonitor) : (s.setLaneMon l x).former = s.former := rfl
@[simp] theorem setLaneMon_asm (l : LaneIx) (x : LaneMonitor) : (s.setLaneMon l x).asm = s.asm := rfl
@[simp] theorem setLaneMon_store (l : LaneIx) (x : LaneMonitor) : (s.setLaneMon l x).store = s.store := rfl
@[simp] theorem setLaneMon_cal (l : LaneIx) (x : LaneMonitor) : (s.setLaneMon l x).cal = s.cal := rfl
@[simp] theorem setLaneMon_prof (l : LaneIx) (x : LaneMonitor) : (s.setLaneMon l x).prof = s.prof := rfl
@[simp] theorem setLaneMon_site (l : LaneIx) (x : LaneMonitor) : (s.setLaneMon l x).site = s.site := rfl
@[simp] theorem setLaneMon_ports (l : LaneIx) (x : LaneMonitor) : (s.setLaneMon l x).ports = s.ports := rfl
@[simp] theorem setLaneMon_freeReads (l : LaneIx) (x : LaneMonitor) : (s.setLaneMon l x).freeReads = s.freeReads := rfl

/-! ### setLaneCal -/

@[simp] theorem setLaneCal_pending (l : LaneIx) (x : LaneCal) : (s.setLaneCal l x).pending = s.pending := rfl
@[simp] theorem setLaneCal_now (l : LaneIx) (x : LaneCal) : (s.setLaneCal l x).now = s.now := rfl
@[simp] theorem setLaneCal_heldLow (l : LaneIx) (x : LaneCal) : (s.setLaneCal l x).heldLow = s.heldLow := rfl
@[simp] theorem setLaneCal_strip (l : LaneIx) (x : LaneCal) : (s.setLaneCal l x).strip = s.strip := rfl
@[simp] theorem setLaneCal_loops (l : LaneIx) (x : LaneCal) : (s.setLaneCal l x).loops = s.loops := rfl
@[simp] theorem setLaneCal_temp (l : LaneIx) (x : LaneCal) : (s.setLaneCal l x).temp = s.temp := rfl
@[simp] theorem setLaneCal_former (l : LaneIx) (x : LaneCal) : (s.setLaneCal l x).former = s.former := rfl
@[simp] theorem setLaneCal_asm (l : LaneIx) (x : LaneCal) : (s.setLaneCal l x).asm = s.asm := rfl
@[simp] theorem setLaneCal_store (l : LaneIx) (x : LaneCal) : (s.setLaneCal l x).store = s.store := rfl
@[simp] theorem setLaneCal_prof (l : LaneIx) (x : LaneCal) : (s.setLaneCal l x).prof = s.prof := rfl
@[simp] theorem setLaneCal_site (l : LaneIx) (x : LaneCal) : (s.setLaneCal l x).site = s.site := rfl
@[simp] theorem setLaneCal_ports (l : LaneIx) (x : LaneCal) : (s.setLaneCal l x).ports = s.ports := rfl
@[simp] theorem setLaneCal_freeReads (l : LaneIx) (x : LaneCal) : (s.setLaneCal l x).freeReads = s.freeReads := rfl

/-! ### setFrame -/

@[simp] theorem setFrame_pending (l : LaneIx) (x : Option Frame) : (s.setFrame l x).pending = s.pending := rfl
@[simp] theorem setFrame_now (l : LaneIx) (x : Option Frame) : (s.setFrame l x).now = s.now := rfl
@[simp] theorem setFrame_heldLow (l : LaneIx) (x : Option Frame) : (s.setFrame l x).heldLow = s.heldLow := rfl
@[simp] theorem setFrame_strip (l : LaneIx) (x : Option Frame) : (s.setFrame l x).strip = s.strip := rfl
@[simp] theorem setFrame_loops (l : LaneIx) (x : Option Frame) : (s.setFrame l x).loops = s.loops := rfl
@[simp] theorem setFrame_temp (l : LaneIx) (x : Option Frame) : (s.setFrame l x).temp = s.temp := rfl
@[simp] theorem setFrame_former (l : LaneIx) (x : Option Frame) : (s.setFrame l x).former = s.former := rfl
@[simp] theorem setFrame_store (l : LaneIx) (x : Option Frame) : (s.setFrame l x).store = s.store := rfl
@[simp] theorem setFrame_cal (l : LaneIx) (x : Option Frame) : (s.setFrame l x).cal = s.cal := rfl
@[simp] theorem setFrame_prof (l : LaneIx) (x : Option Frame) : (s.setFrame l x).prof = s.prof := rfl
@[simp] theorem setFrame_site (l : LaneIx) (x : Option Frame) : (s.setFrame l x).site = s.site := rfl
@[simp] theorem setFrame_ports (l : LaneIx) (x : Option Frame) : (s.setFrame l x).ports = s.ports := rfl
@[simp] theorem setFrame_freeReads (l : LaneIx) (x : Option Frame) : (s.setFrame l x).freeReads = s.freeReads := rfl

/-! ### setCandidates -/

@[simp] theorem setCandidates_pending (l : LaneIx) (x : List Candidate) : (s.setCandidates l x).pending = s.pending := rfl
@[simp] theorem setCandidates_now (l : LaneIx) (x : List Candidate) : (s.setCandidates l x).now = s.now := rfl
@[simp] theorem setCandidates_heldLow (l : LaneIx) (x : List Candidate) : (s.setCandidates l x).heldLow = s.heldLow := rfl
@[simp] theorem setCandidates_strip (l : LaneIx) (x : List Candidate) : (s.setCandidates l x).strip = s.strip := rfl
@[simp] theorem setCandidates_loops (l : LaneIx) (x : List Candidate) : (s.setCandidates l x).loops = s.loops := rfl
@[simp] theorem setCandidates_temp (l : LaneIx) (x : List Candidate) : (s.setCandidates l x).temp = s.temp := rfl
@[simp] theorem setCandidates_asm (l : LaneIx) (x : List Candidate) : (s.setCandidates l x).asm = s.asm := rfl
@[simp] theorem setCandidates_store (l : LaneIx) (x : List Candidate) : (s.setCandidates l x).store = s.store := rfl
@[simp] theorem setCandidates_cal (l : LaneIx) (x : List Candidate) : (s.setCandidates l x).cal = s.cal := rfl
@[simp] theorem setCandidates_prof (l : LaneIx) (x : List Candidate) : (s.setCandidates l x).prof = s.prof := rfl
@[simp] theorem setCandidates_site (l : LaneIx) (x : List Candidate) : (s.setCandidates l x).site = s.site := rfl
@[simp] theorem setCandidates_ports (l : LaneIx) (x : List Candidate) : (s.setCandidates l x).ports = s.ports := rfl
@[simp] theorem setCandidates_freeReads (l : LaneIx) (x : List Candidate) : (s.setCandidates l x).freeReads = s.freeReads := rfl

/-! ### raise -/

@[simp] theorem raise_pending (k : EventClass) (x : BitVec 32) : (s.raise k x).pending = s.pending := rfl
@[simp] theorem raise_now (k : EventClass) (x : BitVec 32) : (s.raise k x).now = s.now := rfl
@[simp] theorem raise_heldLow (k : EventClass) (x : BitVec 32) : (s.raise k x).heldLow = s.heldLow := rfl
@[simp] theorem raise_strip (k : EventClass) (x : BitVec 32) : (s.raise k x).strip = s.strip := rfl
@[simp] theorem raise_loops (k : EventClass) (x : BitVec 32) : (s.raise k x).loops = s.loops := rfl
@[simp] theorem raise_temp (k : EventClass) (x : BitVec 32) : (s.raise k x).temp = s.temp := rfl
@[simp] theorem raise_former (k : EventClass) (x : BitVec 32) : (s.raise k x).former = s.former := rfl
@[simp] theorem raise_asm (k : EventClass) (x : BitVec 32) : (s.raise k x).asm = s.asm := rfl
@[simp] theorem raise_store (k : EventClass) (x : BitVec 32) : (s.raise k x).store = s.store := rfl
@[simp] theorem raise_cal (k : EventClass) (x : BitVec 32) : (s.raise k x).cal = s.cal := rfl
@[simp] theorem raise_prof (k : EventClass) (x : BitVec 32) : (s.raise k x).prof = s.prof := rfl
@[simp] theorem raise_site (k : EventClass) (x : BitVec 32) : (s.raise k x).site = s.site := rfl
@[simp] theorem raise_freeReads (k : EventClass) (x : BitVec 32) : (s.raise k x).freeReads = s.freeReads := rfl

/-! ### raiseAt -/

@[simp] theorem raiseAt_pending (k : EventClass) (i : Nat) : (s.raiseAt k i).pending = s.pending := rfl
@[simp] theorem raiseAt_now (k : EventClass) (i : Nat) : (s.raiseAt k i).now = s.now := rfl
@[simp] theorem raiseAt_heldLow (k : EventClass) (i : Nat) : (s.raiseAt k i).heldLow = s.heldLow := rfl
@[simp] theorem raiseAt_strip (k : EventClass) (i : Nat) : (s.raiseAt k i).strip = s.strip := rfl
@[simp] theorem raiseAt_loops (k : EventClass) (i : Nat) : (s.raiseAt k i).loops = s.loops := rfl
@[simp] theorem raiseAt_temp (k : EventClass) (i : Nat) : (s.raiseAt k i).temp = s.temp := rfl
@[simp] theorem raiseAt_former (k : EventClass) (i : Nat) : (s.raiseAt k i).former = s.former := rfl
@[simp] theorem raiseAt_asm (k : EventClass) (i : Nat) : (s.raiseAt k i).asm = s.asm := rfl
@[simp] theorem raiseAt_store (k : EventClass) (i : Nat) : (s.raiseAt k i).store = s.store := rfl
@[simp] theorem raiseAt_cal (k : EventClass) (i : Nat) : (s.raiseAt k i).cal = s.cal := rfl
@[simp] theorem raiseAt_prof (k : EventClass) (i : Nat) : (s.raiseAt k i).prof = s.prof := rfl
@[simp] theorem raiseAt_site (k : EventClass) (i : Nat) : (s.raiseAt k i).site = s.site := rfl
@[simp] theorem raiseAt_freeReads (k : EventClass) (i : Nat) : (s.raiseAt k i).freeReads = s.freeReads := rfl

/-! ### placeReason -/

@[simp] theorem placeReason_pending (k : Reason) : (s.placeReason k).pending = s.pending := rfl
@[simp] theorem placeReason_now (k : Reason) : (s.placeReason k).now = s.now := rfl
@[simp] theorem placeReason_heldLow (k : Reason) : (s.placeReason k).heldLow = s.heldLow := rfl
@[simp] theorem placeReason_strip (k : Reason) : (s.placeReason k).strip = s.strip := rfl
@[simp] theorem placeReason_loops (k : Reason) : (s.placeReason k).loops = s.loops := rfl
@[simp] theorem placeReason_temp (k : Reason) : (s.placeReason k).temp = s.temp := rfl
@[simp] theorem placeReason_former (k : Reason) : (s.placeReason k).former = s.former := rfl
@[simp] theorem placeReason_asm (k : Reason) : (s.placeReason k).asm = s.asm := rfl
@[simp] theorem placeReason_store (k : Reason) : (s.placeReason k).store = s.store := rfl
@[simp] theorem placeReason_cal (k : Reason) : (s.placeReason k).cal = s.cal := rfl
@[simp] theorem placeReason_site (k : Reason) : (s.placeReason k).site = s.site := rfl
@[simp] theorem placeReason_ports (k : Reason) : (s.placeReason k).ports = s.ports := rfl
@[simp] theorem placeReason_freeReads (k : Reason) : (s.placeReason k).freeReads = s.freeReads := rfl

/-! ### setPort -/

@[simp] theorem setPort_pending (p : Port) (x : PortState) : (s.setPort p x).pending = s.pending := by cases p <;> rfl
@[simp] theorem setPort_now (p : Port) (x : PortState) : (s.setPort p x).now = s.now := by cases p <;> rfl
@[simp] theorem setPort_heldLow (p : Port) (x : PortState) : (s.setPort p x).heldLow = s.heldLow := by cases p <;> rfl
@[simp] theorem setPort_strip (p : Port) (x : PortState) : (s.setPort p x).strip = s.strip := by cases p <;> rfl
@[simp] theorem setPort_loops (p : Port) (x : PortState) : (s.setPort p x).loops = s.loops := by cases p <;> rfl
@[simp] theorem setPort_temp (p : Port) (x : PortState) : (s.setPort p x).temp = s.temp := by cases p <;> rfl
@[simp] theorem setPort_former (p : Port) (x : PortState) : (s.setPort p x).former = s.former := by cases p <;> rfl
@[simp] theorem setPort_asm (p : Port) (x : PortState) : (s.setPort p x).asm = s.asm := by cases p <;> rfl
@[simp] theorem setPort_store (p : Port) (x : PortState) : (s.setPort p x).store = s.store := by cases p <;> rfl
@[simp] theorem setPort_cal (p : Port) (x : PortState) : (s.setPort p x).cal = s.cal := by cases p <;> rfl
@[simp] theorem setPort_prof (p : Port) (x : PortState) : (s.setPort p x).prof = s.prof := by cases p <;> rfl
@[simp] theorem setPort_site (p : Port) (x : PortState) : (s.setPort p x).site = s.site := by cases p <;> rfl
@[simp] theorem setPort_freeReads (p : Port) (x : PortState) : (s.setPort p x).freeReads = s.freeReads := by cases p <;> rfl

@[simp] theorem setPort_stream (p : Port) (x : PortState) : (s.setPort p x).ports.stream = s.ports.stream := by
  cases p <;> rfl

@[simp] theorem port_setPort (p : Port) (x : PortState) : (s.setPort p x).port p = x := by cases p <;> rfl

theorem port_setPort_ne {p q : Port} (h : q ≠ p) (x : PortState) : (s.setPort p x).port q = s.port q := by
  cases p <;> cases q <;> first | rfl | exact absurd rfl h

/-- Two writes of one port: the later stands. -/
@[simp] theorem setPort_setPort (p : Port) (x y : PortState) : (s.setPort p x).setPort p y = s.setPort p y := by
  cases p <;> rfl

/-- Writing back what a port holds changes nothing. -/
@[simp] theorem setPort_port (p : Port) : s.setPort p (s.port p) = s := by cases p <;> rfl

/-! ### port after the other updates -/

@[simp] theorem port_setPending (q : List Instr) (p : Port) : (s.setPending q).port p = s.port p := by cases p <;> rfl
@[simp] theorem port_setNow (x : Tick) (p : Port) : (s.setNow x).port p = s.port p := by cases p <;> rfl
@[simp] theorem port_setHeldLow (x : Bool) (p : Port) : (s.setHeldLow x).port p = s.port p := by cases p <;> rfl
@[simp] theorem port_setStrip (x : StripFrontEnd) (p : Port) : (s.setStrip x).port p = s.port p := by cases p <;> rfl
@[simp] theorem port_setLoops (x : Vector LaneMonitor 6) (p : Port) : (s.setLoops x).port p = s.port p := by cases p <;> rfl
@[simp] theorem port_setTemp (x : TempUnit) (p : Port) : (s.setTemp x).port p = s.port p := by cases p <;> rfl
@[simp] theorem port_setFormer (x : AxleFormer) (p : Port) : (s.setFormer x).port p = s.port p := by cases p <;> rfl
@[simp] theorem port_setAsm (x : Assembler) (p : Port) : (s.setAsm x).port p = s.port p := by cases p <;> rfl
@[simp] theorem port_setStore (x : List VehicleRec) (p : Port) : (s.setStore x).port p = s.port p := by cases p <;> rfl
@[simp] theorem port_setCal (x : Vector LaneCal 6) (p : Port) : (s.setCal x).port p = s.port p := by cases p <;> rfl
@[simp] theorem port_setProf (x : ProfileStore) (p : Port) : (s.setProf x).port p = s.port p := by cases p <;> rfl
@[simp] theorem port_setSite (x : SiteCtl) (p : Port) : (s.setSite x).port p = s.port p := by cases p <;> rfl
@[simp] theorem port_setFreeReads (x : Nat) (p : Port) : (s.setFreeReads x).port p = s.port p := by cases p <;> rfl
@[simp] theorem port_setChannel (c : ChanIx) (x : Channel) (p : Port) : (s.setChannel c x).port p = s.port p := by cases p <;> rfl
@[simp] theorem port_setLaneMon (l : LaneIx) (x : LaneMonitor) (p : Port) : (s.setLaneMon l x).port p = s.port p := by cases p <;> rfl
@[simp] theorem port_setLaneCal (l : LaneIx) (x : LaneCal) (p : Port) : (s.setLaneCal l x).port p = s.port p := by cases p <;> rfl
@[simp] theorem port_setFrame (l : LaneIx) (x : Option Frame) (p : Port) : (s.setFrame l x).port p = s.port p := by cases p <;> rfl
@[simp] theorem port_setCandidates (l : LaneIx) (x : List Candidate) (p : Port) : (s.setCandidates l x).port p = s.port p := by cases p <;> rfl
@[simp] theorem port_placeReason (k : Reason) (p : Port) : (s.placeReason k).port p = s.port p := by cases p <;> rfl

end State

end Sys2Proof.Machine
end

