-- ==== Sys2Proof/Laws/Requests.lean ====
section
/-! SUPPORT. What taking a request can do (R177), and what the block's answer makes of the ports (R178, R179). -/

namespace Sys2Proof.Machine

open Sys2Proof

/-- A reply OK is placed as the manual lays it out (R178). -/
theorem answer_ok (s : State) (p : Port) (k : ReqKind) (tag : Byte) (result : List Byte) :
    s.answer p k.code tag (.ok result) = s.withReply p (okReply k tag result) := rfl

/-- A refusal is placed as the manual lays it out (R178). -/
theorem answer_refused (s : State) (p : Port) (kind tag : Byte) (st : Status) (sect index : Nat) :
    s.answer p kind tag (.refused st sect index) = s.withReply p (refusalReply kind tag st sect index) := rfl

/-- A deferred request is held with its TAG (R179). -/
theorem answer_deferred (s : State) (p : Port) (kind tag : Byte) (k : DeferredKind) :
    s.answer p kind tag (.deferred k) = s.setPort p { s.port p with deferred := some { kind := k, tag := tag } } := rfl

/-- A refusal by the port engine names no section and no index (R178). -/
theorem refuse_eq (s : State) (p : Port) (kind tag : Byte) (st : Status) :
    s.refuse p kind tag st = s.withReply p (refusalReply kind tag st 0 0) := rfl

/-- An admitted request passes the port engine's tests. -/
theorem portRefusal_admitted {k : ReqKind} {p : Port} {payload : List Byte} {s : State} (h : Admitted k p payload s) :
    s.portRefusal p k payload.length = none := by
  obtain ⟨_, _, h3, h4, h5, h6⟩ := h
  have t3 : ¬ (s.site.state = .init ∧ k ≠ .ident) := fun hc => h3.elim (· hc.1) hc.2
  have t4 : ¬ ((s.port p).deferred.isSome = true ∧ k ≠ .ident ∧ k ≠ .status) := by
    rintro ⟨hd, hi, hs⟩
    rcases h4 with h | h | h
    · simp [h] at hd
    · exact hi h
    · exact hs h
  have t5 : ¬ (p = .svc ∧ (k = .take ∨ k = .stream)) := by
    rintro ⟨hp, hk⟩
    rcases h5 with h | h
    · cases p <;> simp_all
    · exact hk.elim h.1 h.2
  simp only [State.portRefusal, if_neg t3, if_neg t4, if_neg t5, h6, Bool.not_true, Bool.false_eq_true, if_false]

/-- An admitted request reaches its block, and the port acts on the block's answer. -/
theorem takeRequest_admitted {k : ReqKind} {p : Port} {payload : List Byte} {s : State} (h : Admitted k p payload s)
    (tag : Byte) (owner : State → State × Answer) :
    s.takeRequest k p tag payload owner = (owner s).1.answer p k.code tag (owner s).2 := by
  have hfull : s.replyListFull p = false := by simpa [State.replyListFull] using h.room
  simp only [State.takeRequest, hfull, Bool.false_eq_true, if_false, portRefusal_admitted h]

/-- Everything a request can do: the list was full and an OVERFLOW error is counted, or the port engine refuses it, or it
reaches its block (R177). -/
theorem takeRequest_cases (s : State) (k : ReqKind) (p : Port) (tag : Byte) (payload : List Byte)
    (owner : State → State × Answer) :
    (4 ≤ (s.port p).replies.length ∧ s.takeRequest k p tag payload owner = s.linkError p .overflow)
      ∨ (∃ st, s.portRefusal p k payload.length = some st
          ∧ s.takeRequest k p tag payload owner = s.withReply p (refusalReply k.code tag st 0 0))
      ∨ ((s.port p).replies.length < 4 ∧ s.portRefusal p k payload.length = none
          ∧ s.takeRequest k p tag payload owner = (owner s).1.answer p k.code tag (owner s).2) := by
  by_cases hfull : 4 ≤ (s.port p).replies.length
  · exact .inl ⟨hfull, by simp [State.takeRequest, State.replyListFull, hfull]⟩
  · have hf : s.replyListFull p = false := by simpa [State.replyListFull] using hfull
    cases hr : s.portRefusal p k payload.length with
    | some st =>
      exact .inr (.inl ⟨st, rfl, by simp only [State.takeRequest, hf, Bool.false_eq_true, if_false, hr, refuse_eq]⟩)
    | none =>
      exact .inr (.inr ⟨by omega, rfl, by simp only [State.takeRequest, hf, Bool.false_eq_true, if_false, hr]⟩)

/-! ### Edit requests and a commit in flight (R156, R161; log 20) -/

/-- The owner's claim. -/
theorem claimOf_owner {s : State} {c : Claim} {p : Port} (hc : s.prof.claim = some c) (ho : c.owner = p) :
    s.claimOf p = some c := by
  simp [State.claimOf, hc, Option.filter, ho]

/-- A port that does not own the claim has none. -/
theorem claimOf_other {s : State} {p : Port} (h : ∀ c, s.prof.claim = some c → c.owner ≠ p) : s.claimOf p = none := by
  cases hc : s.prof.claim with
  | none => simp [State.claimOf, hc]
  | some c => simp [State.claimOf, hc, Option.filter, h c hc]

/-- With the ownership timer running, an edit request of the owner does what its block says. -/
theorem onClaim_running {c : Claim} (h : c.timer ≠ none) (s : State) (edit : State × Answer) :
    s.onClaim c edit = edit := by
  cases ht : c.timer with
  | none => exact absurd ht h
  | some t => simp [State.onClaim, Claim.inFlight, ht]

/-- While a commit is in flight, an edit request of the owner that reaches its block is refused BUSY and changes nothing. -/
theorem onClaim_inFlight {c : Claim} (h : c.timer = none) (s : State) (edit : State × Answer) :
    s.onClaim c edit = (s, .refused .busy 0 0) := by
  simp [State.onClaim, Claim.inFlight, h]

/-! ### Requests of both ports at one moment (R48; log 32) -/

/-- The cabinet link's request never gives way. -/
@[simp] theorem yields_cab (s : State) (k : ReqKind) (fits : List Byte → Bool) : s.yields .cab k fits = false := rfl

/-- The commands that part two moments are those the model takes so. -/
theorem keepsMoment_iff (c : Instr) : keepsMoment c = true ↔ ¬ TellsApart c := by
  constructor
  · rintro h (⟨k, p, tag, payload, rfl⟩ | hr)
    · cases k <;> exact absurd h (by simp [requestCommand, keepsMoment])
    · rcases hr with ⟨_, _, _, _, rfl⟩ | ⟨_, _, rfl⟩ | ⟨_, _, rfl⟩ | ⟨_, rfl⟩ | ⟨_, rfl⟩ | ⟨_, rfl⟩ | rfl | rfl | ⟨_, rfl⟩ | ⟨_, rfl⟩ <;>
        exact absurd h (by simp [keepsMoment])
  · intro h
    cases c <;> first
      | rfl
      | exact absurd (.inl ⟨.ident, _, _, _, rfl⟩) h | exact absurd (.inl ⟨.status, _, _, _, rfl⟩) h
      | exact absurd (.inl ⟨.timeSet, _, _, _, rfl⟩) h | exact absurd (.inl ⟨.siteRun, _, _, _, rfl⟩) h
      | exact absurd (.inl ⟨.laneSet, _, _, _, rfl⟩) h | exact absurd (.inl ⟨.editBegin, _, _, _, rfl⟩) h
      | exact absurd (.inl ⟨.editPut, _, _, _, rfl⟩) h | exact absurd (.inl ⟨.editDiscard, _, _, _, rfl⟩) h
      | exact absurd (.inl ⟨.commit, _, _, _, rfl⟩) h | exact absurd (.inl ⟨.readSection, _, _, _, rfl⟩) h
      | exact absurd (.inl ⟨.take, _, _, _, rfl⟩) h | exact absurd (.inl ⟨.peek, _, _, _, rfl⟩) h
      | exact absurd (.inl ⟨.stream, _, _, _, rfl⟩) h | exact absurd (.inl ⟨.probeNow, _, _, _, rfl⟩) h
      | exact absurd (.inl ⟨.channelRearm, _, _, _, rfl⟩) h | exact absurd (.inl ⟨.lock, _, _, _, rfl⟩) h
      | exact absurd (.inl ⟨.eventEnable, _, _, _, rfl⟩) h | exact absurd (.inl ⟨.restart, _, _, _, rfl⟩) h
      | exact absurd (by simp [TellsApart]) h

/-- Commands that do not part two moments are passed over. -/
theorem awaitedRequest_append {k : ReqKind} (rx : RxState) (rest : List Instr) :
    ∀ pre : List Instr, (∀ c ∈ pre, ¬ TellsApart c) → awaitedRequest k rx (pre ++ rest) = awaitedRequest k rx rest
  | [], _ => rfl
  | c :: pre, h => by
    have hc : keepsMoment c = true := (keepsMoment_iff c).mpr (h c (List.mem_cons_self ..))
    rw [List.cons_append, awaitedRequest, if_pos hc,
      awaitedRequest_append rx rest pre (fun y hy => h y (List.mem_cons_of_mem _ hy))]

/-- The first command that parts two moments decides. -/
theorem awaitedRequest_apart {k : ReqKind} (rx : RxState) {c : Instr} (rest : List Instr) (h : TellsApart c) :
    awaitedRequest k rx (c :: rest) = broughtRequest k rx c := by
  have hc : keepsMoment c = false := Bool.eq_false_iff.mpr fun e => (keepsMoment_iff c).mp e h
  rw [awaitedRequest, hc]
  rfl

/-- A request of the cabinet link's that waits and is admitted contends if its owner has use for it. -/
theorem cabinetContends_admitted {s : State} {k : ReqKind} {payload : List Byte} (fits : List Byte → Bool)
    (hw : awaitedRequest k s.ports.cab.rx s.pending = some payload) (h : Admitted k .cab payload s) :
    s.cabinetContends k fits = fits payload := by
  have hfull : s.replyListFull .cab = false := by simpa [State.replyListFull] using h.room
  simp [State.cabinetContends, hw, hfull, portRefusal_admitted h]

/-- A command runs while RESET_N is not held low. -/
theorem whileRunning_of_runs {s : State} (h : s.heldLow = false) (t : State) : whileRunning s t = .next t := by
  simp only [whileRunning, h, Bool.false_eq_true, if_false]

/-- A command whose condition holds takes effect. -/
theorem whenDue_of_due {s : State} {due : Bool} (h : s.heldLow = false) (hd : due = true) (t : State) :
    whenDue s due t = .next t := by
  simp only [whenDue, hd, if_true, whileRunning_of_runs h]

/-- Every one of the whole commands goes on: none of these forms stops. -/
theorem whileRunning_next (s t : State) : ∃ u, whileRunning s t = .next u := by
  unfold whileRunning
  split
  · exact ⟨_, rfl⟩
  · exact ⟨_, rfl⟩

/-- What a command of this form answers. -/
theorem whileRunning_eq_next {s t u : State} (h : whileRunning s t = .next u) : u = s ∨ u = t := by
  unfold whileRunning at h
  split at h
  · exact .inl (by cases h; rfl)
  · exact .inr (by cases h; rfl)

/-- What a command with a condition answers. -/
theorem whenDue_eq_next {s t u : State} {due : Bool} (h : whenDue s due t = .next u) : u = s ∨ (due = true ∧ u = t) := by
  rcases whileRunning_eq_next h with h | h
  · exact .inl h
  · cases due
    · exact .inl h
    · exact .inr ⟨rfl, h⟩

/-! ### Replies and events -/

@[simp] theorem withReply_port (s : State) (p : Port) (r : Reply) :
    (s.withReply p r).port p = { s.port p with replies := (s.port p).replies ++ [r] } := by
  simp only [State.withReply, State.port_setPort]

/-- One raise, seen from a port (R181). -/
theorem raise_port (s : State) (k : EventClass) (item : BitVec 32) (p : Port) :
    (s.raise k item).port p = (s.port p).raise k item := by
  cases p <;> rfl

/-- One raise on a port raises its class once and no other (R181). -/
theorem raisedOnce_raise (k : EventClass) (item : BitVec 32) (x : PortState) :
    RaisedOnce k item x.events (x.raise k item).events := by
  constructor
  · simp only [PortState.raise, alter, Fin.getElem_fin, Vector.getElem_set_self]
    rfl
  · intro i hi
    have : k.index.val ≠ i.val := fun h => hi (Fin.ext h.symm)
    simp only [PortState.raise, alter, Fin.getElem_fin, Vector.getElem_set_ne _ _ this]

/-- A raise on a state whose ports have not moved is exactly one event. -/
theorem oneEvent_raise {s t : State} (k : EventClass) (item : BitVec 32) (h : t.ports = s.ports) :
    OneEvent k item s (t.raise k item) := by
  refine ⟨?_, ?_, ?_⟩
  · rw [← h]; exact raisedOnce_raise k item t.ports.cab
  · rw [← h]; exact raisedOnce_raise k item t.ports.svc
  · rw [← h]; rfl

end Sys2Proof.Machine
end

