-- ==== Sys2Proof/Laws/Former.lean ====
section
/-! SUPPORT. What the axle former's choices say: which candidate a side joins (R67), which lane a straddle axle goes to
(R73), what a miss notice does (R15), and what an eviction does (R62). -/

namespace Sys2Proof.Machine

open Sys2Proof

/-! ### Candidates (R67) -/

/-- A side that starts at `u` has the start `u`. -/
theorem StartsAt.start_eq {x : Side} {u : Tick} (h : StartsAt x u) : x.start = u := by
  cases x with
  | waiting y => exact h.symm
  | formed w =>
    cases hl : w.lead <;> cases ht : w.trail <;> simp_all [StartsAt, Side.start, Wheel.start]

/-- A side with a hit starts at its start. -/
theorem startsAt_start {x : Side} (h : sideHasHit x = true) : StartsAt x x.start := by
  cases x with
  | waiting y => rfl
  | formed w =>
    cases hl : w.lead <;> cases ht : w.trail <;> simp_all [StartsAt, Side.start, Wheel.start, sideHasHit]

/-- An eligible candidate is one the model takes for eligible, at the distance the model compares. -/
theorem Eligible.eligible {s : State} {c : Candidate} {q : PosIx} {u : Tick} {d : Nat} (h : Eligible s c q u d) :
    c.eligible q u s.prof.active.site.window = true ∧ d = tickDistance u c.firstStart := by
  obtain ⟨x, v, hs, hv, hp, hd, hw⟩ := h
  have := hv.start_eq
  simp [Candidate.eligible, Candidate.firstStart, hs, tickDistance, this, ← hd, hw, hp]

/-- A candidate the model takes for eligible is eligible, if its side has a hit. -/
theorem eligible_of {s : State} {c : Candidate} {q : PosIx} {u : Tick} (hh : ∀ x ∈ c.sides, sideHasHit x = true)
    (h : c.eligible q u s.prof.active.site.window = true) : Eligible s c q u (tickDistance u c.firstStart) := by
  unfold Candidate.eligible at h
  split at h
  · rename_i x hs
    simp only [Bool.and_eq_true, Bool.or_eq_true, decide_eq_true_eq] at h
    have hx := startsAt_start (hh x (by simp [hs]))
    exact ⟨x, x.start, hs, hx, h.1, by simp [Candidate.firstStart, hs, tickDistance], h.2⟩
  · exact absurd h (by simp)

/-- The own neighbour of an eligible candidate's side is on the own pair. -/
theorem ownPair_iff {s : State} {c : Candidate} {q : PosIx} {u : Tick} {d : Nat} (h : Eligible s c q u d) :
    OwnPair c q ↔ c.onOwnPair q = true := by
  obtain ⟨x, v, hs, -, hp, -, -⟩ := h
  have key : posLane x.pos = posLane q ↔ x.pos.val = ownNeighbour q := by
    simp only [posLane, ownNeighbour, Fin.mk.injEq]
    split <;> omega
  constructor
  · rintro ⟨y, hy, hl⟩
    obtain rfl : x = y := by simpa [hs] using hy
    simpa [Candidate.onOwnPair, hs] using key.mp hl
  · intro ho
    exact ⟨x, hs, key.mpr (by simpa [Candidate.onOwnPair, hs] using ho)⟩

/-- The side prefers the candidate the model's comparison answers (R67). -/
theorem preferred_of_nearerOfTwo {s : State} {c c' : Candidate} {q : PosIx} {u : Tick} {d d' : Nat}
    (h : Eligible s c q u d) (h' : Eligible s c' q u d') (hi : c'.id ≠ c.id) (hn : nearerOfTwo q u c' c = c) :
    Preferred q c d c' d' := by
  have hne : c' ≠ c := fun e => hi (congrArg Candidate.id e)
  have e := h.eligible.2
  have e' := h'.eligible.2
  have o := ownPair_iff h
  have o' := ownPair_iff h'
  unfold Preferred
  simp only [o, o', e, e']
  unfold nearerOfTwo at hn
  simp only at hn
  split at hn
  · exact .inl ‹_›
  · split at hn
    · exact absurd hn hne
    · refine .inr ⟨by omega, ?_⟩
      cases ho : c.onOwnPair q <;> cases ho' : c'.onOwnPair q <;> simp [ho, ho'] at hn ⊢
      · exact Nat.lt_of_not_le fun hle => hne (hn hle)
      · exact absurd hn hne
      · exact Nat.lt_of_not_le fun hle => hne (hn hle)

/-- A side opens a candidate where the model finds none eligible and the lane has room. -/
theorem opens_of {s : State} {q : PosIx} {u : Tick}
    (h : ∀ k : LaneIx, ∀ c ∈ s.former.candidates[k], c.eligible q u s.prof.active.site.window = false)
    (hr : s.former.candidates[posLane q].length < 4) : Opens s q u :=
  ⟨fun k c hc d he => by simpa [h k c hc] using he.eligible.1, hr⟩

/-- A side joins the candidate that every comparison of the model answers, before that candidate's deadline. -/
theorem joins_of {s : State} {q : PosIx} {u : Tick} {k : LaneIx} {c : Candidate}
    (hh : ∀ x ∈ c.sides, sideHasHit x = true) (he : c.eligible q u s.prof.active.site.window = true)
    (hp : ∀ k' : LaneIx, ∀ c' ∈ s.former.candidates[k'], c' = c
      ∨ c'.eligible q u s.prof.active.site.window = false ∨ (c'.id ≠ c.id ∧ nearerOfTwo q u c' c = c))
    (hd : ∀ v, v = u ∨ v = c.firstStart →
      hasPassed v ((s.laneEntry k).rowSpacing * 16000 / 2999 + s.prof.active.site.window) s.now = false) :
    Joins s q u k c := by
  have hc := eligible_of (s := s) hh he
  refine ⟨_, hc, fun k' c' d' hm hne h' => ?_, fun v hv => hd v (hv.imp id ?_)⟩
  · obtain rfl | hn | ⟨hi, hn⟩ := hp k' c' hm
    · exact absurd rfl hne
    · simpa [hn] using h'.eligible.1
    · exact preferred_of_nearerOfTwo hc h' hi hn
  · rintro ⟨x, hs, hv⟩
    simp [Candidate.firstStart, hs, hv.start_eq]

/-! ### Lane assignment (R73) -/

/-- The model's test of frame continuation says what `Continues` says. -/
theorem continuation_eq_some_iff {s : State} {l : LaneIx} {time : Tick} {v : Option Nat} {u : Tick} :
    s.continuation l time v = some u ↔ Continues s l time v u := by
  unfold State.continuation Continues
  cases hf : s.asm.frames[l] with
  | none => simp
  | some f =>
    rcases List.eq_nil_or_concat f.axles with hn | ⟨init, p, hp⟩
    · simp [Frame.last, hn]
    · have hl : Frame.last f = some p.axle := by simp [Frame.last, hp]
      have hu : ∀ init' p', f.axles = init' ++ [p'] → p' = p := fun init' p' h => by
        rw [hp, List.concat_eq_append] at h
        exact (List.append_inj' h rfl).2 |> List.cons.inj |>.1.symm
      simp only [Option.bind_some, hl]
      constructor
      · intro h
        split at h
        · rename_i ht
          simp only [Bool.and_eq_true, Bool.not_eq_true', isLater, Bool.and_eq_false_iff, decide_eq_false_iff_not] at ht
          refine ⟨f, init, p, rfl, by simp [hp], (Option.some.inj h).symm, ?_, ?_⟩ <;> obtain rfl := Option.some.inj h
          · exact fun hc => ht.1.elim (fun k => k hc.1) (fun k => k hc.2)
          · have := ht.2
            unfold withinSpacing spacingCm loadLimit at this
            split <;> simp_all
        · cases h
      · rintro ⟨f', init', p', hf', ha, rfl, hn, hw⟩
        obtain rfl := Option.some.inj hf'
        obtain rfl := hu _ _ ha
        rw [if_pos]
        simp only [Bool.and_eq_true, Bool.not_eq_true', isLater, Bool.and_eq_false_iff, decide_eq_false_iff_not]
        refine ⟨?_, ?_⟩
        · by_cases h0 : 0 < elapsed time p'.axle.time
          · exact .inr fun h1 => hn ⟨h0, h1⟩
          · exact .inl h0
        · unfold withinSpacing spacingCm loadLimit
          split at hw <;> simp_all

/-- The model assigns a straddle axle as R73 says. -/
theorem assignedTo_assignStraddle (s : State) (n m : LaneIx) (time : Tick) (v : Option Nat) :
    AssignedTo s n m time v (s.assignStraddle n m time v) := by
  have none_iff : ∀ l, s.continuation l time v = none ↔ ¬ ∃ u, Continues s l time v u := fun l => by
    simp [← continuation_eq_some_iff, Option.eq_none_iff_forall_ne_some]
  constructor
  · rintro ⟨u, hu⟩ hm
    simp [State.assignStraddle, continuation_eq_some_iff.mpr hu, (none_iff m).mpr hm]
  · rintro ⟨u, hu⟩ hn
    simp [State.assignStraddle, continuation_eq_some_iff.mpr hu, (none_iff n).mpr hn]
  · intro u w hu hw
    simp [State.assignStraddle, continuation_eq_some_iff.mpr hu, continuation_eq_some_iff.mpr hw, isLater]
  · intro hn hm
    simp only [State.assignStraddle, (none_iff n).mpr hn, (none_iff m).mpr hm]
    by_cases h1 : s.loops[n].presence = .idle <;> by_cases h2 : s.loops[m].presence = .idle <;> simp_all

/-! ### The gap test (R102, R108) -/

/-- The model's gap test finds too far what `TooFar` says. -/
theorem gapTooFar_iff {s : State} {f : Frame} {a : AxleRec} {init : List FrameAxle} {p : FrameAxle}
    (h : f.axles = init ++ [p]) :
    s.gapTooFar f a = true ↔ TooFar s (elapsed p.axle.time a.time) p.axle.speed a.speed := by
  have hl : f.last = some p.axle := by simp [Frame.last, h]
  simp only [State.gapTooFar, hl, withinSpacing, TooFar, spacingCm, cmApart, loadLimit]
  cases p.axle.speed <;> cases a.speed <;> simp

/-- The spacing the model stores is that of R102. -/
theorem axleSpacing_eq (a b : AxleRec) : axleSpacing a b = spacingOf (elapsed a.time b.time) a.speed b.speed := by
  unfold axleSpacing spacingOf
  cases a.speed <;> cases b.speed <;> rfl

/-! ### Miss notices (R15) -/

/-- A miss notice that leaves its channel alive moves its count alone; the 32nd makes it DEAD, raises CHANNEL_STATE and
withdraws its hits; a channel that counts no misses stays as it is (R15, R16). -/
theorem missNotice_eq (s : State) (c : ChanIx) :
    s.missNotice c =
      if CountsMisses s.strip.channels[c] then
        if min (s.strip.channels[c].miss + 1) 255 < 32 then
          (s.setChannel c { s.strip.channels[c] with miss := min (s.strip.channels[c].miss + 1) 255 }, [])
        else
          let s1 := (s.setChannel c { s.strip.channels[c] with
            miss := min (s.strip.channels[c].miss + 1) 255, state := .dead }).raiseAt .channelState c.val
          (s1.withdrawHits (fun h => decide (h.channel = c)), s1.overdueAfterWithdrawal (fun h => decide (h.channel = c)))
      else (s, []) := by
  unfold State.missNotice CountsMisses satSucc
  generalize s.strip.channels[c] = ch
  obtain ⟨st, _, _, _, _, _, miss, _⟩ := ch
  by_cases hm : min (miss + 1) 255 < 32 <;> cases st <;> simp [hm, Nat.not_le.mpr, Nat.not_lt.mp]

/-- A miss notice does to the strip front end and the ports what R15 and R16 say. -/
theorem missNotice_taken (s : State) (c : ChanIx) : NoticeTaken c s (s.missNotice c).1 := by
  have others : ∀ x, ∀ k : ChanIx, k ≠ c → (s.setChannel c x).strip.channels[k] = s.strip.channels[k] := fun x k hk => by
    simp only [State.setChannel, State.setStrip, Fin.getElem_fin, Vector.getElem_set]
    exact if_neg fun h => hk (Fin.ext h.symm)
  have self : ∀ x, (s.setChannel c x).strip.channels[c] = x := fun x => by simp [State.setChannel, State.setStrip]
  rw [missNotice_eq]
  by_cases hc : CountsMisses s.strip.channels[c]
  · by_cases hm : min (s.strip.channels[c].miss + 1) 255 < 32
    · simp only [hc, hm, if_true]
      refine ⟨⟨others _, rfl⟩, fun _ h => ⟨?_, rfl⟩, fun _ h => ?_, fun h => absurd hc h⟩
      · rw [self, Nat.min_eq_left (by omega)]
      · omega
    · simp only [hc, hm, if_true, if_false]
      refine ⟨⟨others _, rfl⟩, fun _ h => ?_, fun _ h => ⟨?_, oneEvent_raise _ _ rfl⟩, fun h => absurd hc h⟩
      · omega
      · rw [h]; exact self _
  · simp only [hc, if_false]
    exact ⟨⟨fun _ _ => rfl, rfl⟩, fun h => absurd h hc, fun h => absurd h hc, fun _ => ⟨rfl, rfl⟩⟩

/-! ### Withdrawal and eviction (R62, R72) -/

/-- A withdrawal after which no candidate is overdue only takes hits and sides out. -/
theorem withdraw_eq {s : State} {p : HitRec → Bool} (h : s.overdueAfterWithdrawal p = []) :
    s.withdraw p = s.withdrawHits p := by
  simp [State.withdraw, h, State.completeIds, State.complete, State.completeInTurn]

/-- A withdrawal of one hit leaves every candidate without the side that waits for it. -/
theorem without_eq (old : HitRec) (c : Candidate) : c.without (fun x => decide (x = old)) = withoutHit old c := by
  unfold Candidate.without withoutHit
  congr 2
  funext x
  cases x <;> simp

/-- A hit that arrives at a list with room is placed and offered to the candidates. -/
theorem leadingArrival_room {s : State} {h : HitRec} (hr : (s.waiting h.row h.pos).length < 4) :
    s.leadingArrival h = (s.setWaiting h.row h.pos (s.waiting h.row h.pos ++ [h])).wheelStart (.waiting h) := by
  unfold State.leadingArrival
  cases hw : s.waiting h.row h.pos with
  | nil => simp [hw]
  | cons old rest =>
    have : ¬ 4 ≤ (old :: rest).length := by rw [← hw]; omega
    simp only [if_neg this, hw]

/-- At a full list the oldest hit is evicted first. -/
theorem leadingArrival_full {s : State} {h old : HitRec} {rest : List HitRec} (hw : s.waiting h.row h.pos = old :: rest)
    (hl : rest.length = 3) :
    s.leadingArrival h =
      (let u := (s.countDiscard old.channel).withdraw (fun x => decide (x = old))
       (u.setWaiting h.row h.pos (u.waiting h.row h.pos ++ [h])).wheelStart (.waiting h)) := by
  have : 4 ≤ (old :: rest).length := by simp [hl]
  simp only [State.leadingArrival, hw, if_pos this]

end Sys2Proof.Machine
end

