-- ==== Sys2Proof/Laws/Measure.lean ====
section
/-! SUPPORT. What the measuring chain can change: everything a hit, an axle, a frame or a record brings about, from the
strip front end to the record store and the auto-calibration unit, stays within one relation. -/

namespace Sys2Proof.Machine

open Sys2Proof

/-- `t` differs from `s` only where the measuring chain writes: channels, the axle former, frames, the store, the factors,
the write-reason set, the event counts, and the frame counts of the loop monitor. -/
structure Measures (s t : State) : Prop where
  pending : t.pending = s.pending
  now : t.now = s.now
  heldLow : t.heldLow = s.heldLow
  temp : t.temp = s.temp
  site : t.site = s.site
  freeReads : t.freeReads = s.freeReads
  stream : t.ports.stream = s.ports.stream
  prof : t.prof = { s.prof with reasons := t.prof.reasons }
  port : ∀ p, t.port p = { s.port p with events := (t.port p).events }
  loops : ∀ l : LaneIx, t.loops[l] = { s.loops[l] with frameCount := t.loops[l].frameCount }

namespace Measures

variable {s t u : State}

theorem refl (s : State) : Measures s s :=
  ⟨rfl, rfl, rfl, rfl, rfl, rfl, rfl, rfl, fun _ => rfl, fun _ => rfl⟩

theorem trans (h : Measures s t) (k : Measures t u) : Measures s u where
  pending := k.pending.trans h.pending
  now := k.now.trans h.now
  heldLow := k.heldLow.trans h.heldLow
  temp := k.temp.trans h.temp
  site := k.site.trans h.site
  freeReads := k.freeReads.trans h.freeReads
  stream := k.stream.trans h.stream
  prof := by rw [k.prof, h.prof]
  port p := by rw [k.port p, h.port p]
  loops l := by rw [k.loops l, h.loops l]

theorem active (h : Measures s t) : t.prof.active = s.prof.active := by rw [h.prof]

theorem stripEntry (h : Measures s t) (c : ChanIx) : t.stripEntry c = s.stripEntry c := by
  simp only [State.stripEntry, h.active]

theorem laneEntry (h : Measures s t) (l : LaneIx) : t.laneEntry l = s.laneEntry l := by
  simp only [State.laneEntry, h.active]

/-- Lane activation does not move within the chain. -/
theorem laneActive (h : Measures s t) (l : LaneIx) : t.laneActive l = s.laneActive l := by
  simp only [State.laneActive, State.laneEnabled, h.laneEntry, h.active, h.site]

/-! ### The updates of the chain -/

theorem setStrip (s : State) (x : StripFrontEnd) : Measures s (s.setStrip x) :=
  ⟨rfl, rfl, rfl, rfl, rfl, rfl, rfl, rfl, fun p => by cases p <;> rfl, fun _ => rfl⟩

theorem setFormer (s : State) (x : AxleFormer) : Measures s (s.setFormer x) :=
  ⟨rfl, rfl, rfl, rfl, rfl, rfl, rfl, rfl, fun p => by cases p <;> rfl, fun _ => rfl⟩

theorem setAsm (s : State) (x : Assembler) : Measures s (s.setAsm x) :=
  ⟨rfl, rfl, rfl, rfl, rfl, rfl, rfl, rfl, fun p => by cases p <;> rfl, fun _ => rfl⟩

theorem setStore (s : State) (x : List VehicleRec) : Measures s (s.setStore x) :=
  ⟨rfl, rfl, rfl, rfl, rfl, rfl, rfl, rfl, fun p => by cases p <;> rfl, fun _ => rfl⟩

theorem setCal (s : State) (x : Vector LaneCal 6) : Measures s (s.setCal x) :=
  ⟨rfl, rfl, rfl, rfl, rfl, rfl, rfl, rfl, fun p => by cases p <;> rfl, fun _ => rfl⟩

theorem setChannel (s : State) (c : ChanIx) (x : Channel) : Measures s (s.setChannel c x) := setStrip _ _

theorem setCandidates (s : State) (l : LaneIx) (x : List Candidate) : Measures s (s.setCandidates l x) := setFormer _ _

theorem setFrame (s : State) (l : LaneIx) (x : Option Frame) : Measures s (s.setFrame l x) := setAsm _ _

theorem setLaneCal (s : State) (l : LaneIx) (x : LaneCal) : Measures s (s.setLaneCal l x) := setCal _ _

theorem raise (s : State) (k : EventClass) (x : BitVec 32) : Measures s (s.raise k x) :=
  ⟨rfl, rfl, rfl, rfl, rfl, rfl, rfl, rfl, fun p => by cases p <;> rfl, fun _ => rfl⟩

theorem raiseAt (s : State) (k : EventClass) (i : Nat) : Measures s (s.raiseAt k i) := raise _ _ _

theorem placeReason (s : State) (k : Reason) : Measures s (s.placeReason k) :=
  ⟨rfl, rfl, rfl, rfl, rfl, rfl, rfl, rfl, fun p => by cases p <;> rfl, fun _ => rfl⟩

/-- A write of one lane of the loop monitor that moves the frame count alone. -/
theorem setFrameCount (s : State) (l : LaneIx) (n : Nat) :
    Measures s (s.setLaneMon l { s.loops[l] with frameCount := n }) := by
  refine ⟨rfl, rfl, rfl, rfl, rfl, rfl, rfl, rfl, fun p => by cases p <;> rfl, fun k => ?_⟩
  simp only [State.setLaneMon, State.setLoops_loops, Fin.getElem_fin, Vector.getElem_set]
  split
  · rename_i h; simp only [h]
  · rfl

/-! ### Vehicles -/

theorem updateFactor (s : State) (l : LaneIx) (c : LaneCal) : Measures s (s.updateFactor l c) := by
  unfold State.updateFactor
  refine trans ?_ (placeReason _ _)
  split
  · exact ((setLaneCal _ _ _).trans (raiseAt _ _ _)).trans (raiseAt _ _ _)
  · exact (setLaneCal _ _ _).trans (raiseAt _ _ _)

theorem offerToCal (s : State) (r : VehicleRec) : Measures s (s.offerToCal r) := by
  unfold State.offerToCal
  split
  · exact setLaneCal _ _ _
  · dsimp only
    split
    · exact updateFactor _ _ _
    · exact setLaneCal _ _ _

theorem offerToStore (s : State) (r : VehicleRec) : Measures s (s.offerToStore r) := by
  unfold State.offerToStore
  split
  · dsimp only
    split
    · exact (setStore _ _).trans (raise _ _ _)
    · exact setStore _ _
  · exact raiseAt _ _ _

theorem closeFrame (s : State) (l : LaneIx) (cause : CloseCause) : Measures s (s.closeFrame l cause) := by
  unfold State.closeFrame
  split
  · exact refl _
  · dsimp only
    refine trans (trans ?_ (offerToStore _ _)) (offerToCal _ _)
    split
    · exact (setAsm _ _).trans (raiseAt _ _ _)
    · exact setAsm _ _

theorem openFrame (s : State) (a : AxleRec) : Measures s (s.openFrame a) := by
  have key : ∀ f : Frame, Measures s ((s.setFrame a.lane (some f)).setLaneMon a.lane
      (if s.loops[a.lane].uView then
        { s.loops[a.lane] with frameCount := satSucc 255 s.loops[a.lane].frameCount } else s.loops[a.lane])) := by
    intro f
    refine trans (setFrame s a.lane (some f)) ?_
    split
    · exact setFrameCount (s.setFrame a.lane (some f)) a.lane _
    · exact setFrameCount (s.setFrame a.lane (some f)) a.lane s.loops[a.lane].frameCount
  exact key _

theorem handOn (s : State) (a : AxleRec) : Measures s (s.handOn a) := by
  unfold State.handOn
  split
  · exact openFrame _ _
  · split
    · exact (closeFrame _ _ _).trans (openFrame _ _)
    · split
      · exact (closeFrame _ _ _).trans (openFrame _ _)
      · exact setFrame _ _ _

/-! ### The axle former -/

theorem setWaiting (s : State) (r : StripRow) (q : PosIx) (hs : List HitRec) : Measures s (s.setWaiting r q hs) := by
  cases r <;> exact setFormer _ _

theorem withdrawHits (s : State) (p : HitRec → Bool) : Measures s (s.withdrawHits p) := setFormer _ _

theorem missNotice (s : State) (c : ChanIx) : Measures s (s.missNotice c).1 := by
  unfold State.missNotice
  dsimp only
  split
  · split
    · exact ((setChannel _ _ _).trans (raiseAt _ _ _)).trans (withdrawHits _ _)
    · exact setChannel _ _ _
  · split
    · exact ((setChannel _ _ _).trans (raiseAt _ _ _)).trans (withdrawHits _ _)
    · exact setChannel _ _ _
  · exact refl _

theorem missAt (s : State) (r : StripRow) (q : PosIx) : Measures s (s.missAt r q).1 := by
  unfold State.missAt
  split
  · exact refl _
  · exact missNotice _ _

theorem axleNotices (ws : List Wheel) (s : State) : Measures s (State.axleNotices ws s).1 := by
  induction ws generalizing s with
  | nil => exact refl _
  | cons w rest ih =>
    unfold State.axleNotices
    split
    · exact (missAt _ _ _).trans (ih _)
    · exact ih _

theorem deliverAxle (s : State) (holding : LaneIx) (time : Tick) (ws : List Wheel) (seen : List AxleWheel)
    (forced : Bool) : Measures s (s.deliverAxle holding time ws seen forced) := by
  have key : ∀ (l : LaneIx) (a : AxleRec), Measures s
      (if !s.laneActive l then s
        else if s.isLateAxle l time then
          s.setFormer { s.former with late := alter s.former.late l (satSucc 65535) }
        else s.handOn a) := by
    intro l a
    split
    · exact refl _
    · split
      · exact setFormer _ _
      · exact handOn _ _
  exact key _ _

theorem completeOne (s : State) (l : LaneIx) (c : Candidate) (forced : Bool) :
    Measures s (s.completeOne l c forced).1 := by
  unfold State.completeOne
  exact ((setFormer s _).trans (axleNotices _ _)).trans (deliverAxle _ _ _ _ _ _)

theorem completeInTurn (n : Nat) (todo : List (Nat × Bool)) (s : State) :
    Measures s (State.completeInTurn n todo s) := by
  induction n generalizing todo s with
  | zero => exact refl _
  | succ n ih =>
    cases todo with
    | nil => exact refl _
    | cons x rest =>
      unfold State.completeInTurn
      split
      · exact ih _ _
      · split
        · exact (completeOne _ _ _ _).trans (ih _ _)
        · exact (completeOne _ _ _ _).trans (ih _ _)

theorem complete (s : State) (todo : List (Nat × Bool)) : Measures s (s.complete todo) := completeInTurn _ _ _

theorem completeIds (s : State) (ids : List Nat) : Measures s (s.completeIds ids) := complete _ _

theorem withdraw (s : State) (p : HitRec → Bool) : Measures s (s.withdraw p) :=
  (withdrawHits _ _).trans (completeIds _ _)

theorem countDiscard (s : State) (c : ChanIx) : Measures s (s.countDiscard c) := setChannel _ _ _

theorem makeRoom (s : State) (l : LaneIx) : Measures s (s.makeRoom l) := by
  unfold State.makeRoom
  split
  · split
    · exact complete _ _
    · exact refl _
  · exact refl _

theorem wheelStart (s : State) (x : Side) : Measures s (s.wheelStart x) := by
  unfold State.wheelStart
  split
  · dsimp only
    split
    · split
      · exact (setFormer _ _).trans (completeIds _ _)
      · exact setFormer _ _
    · exact setFormer _ _
  · dsimp only
    split
    · exact (makeRoom _ _).trans (setFormer _ _)
    · exact makeRoom _ _

theorem leadingArrival (s : State) (h : HitRec) : Measures s (s.leadingArrival h) := by
  unfold State.leadingArrival
  refine trans ?_ ((setWaiting _ _ _ _).trans (wheelStart _ _))
  split
  · split
    · exact (countDiscard _ _).trans (withdraw _ _)
    · exact refl _
  · exact refl _

theorem pairHits (s : State) (lead trail : HitRec) (v : Nat) (reverse : Bool) :
    Measures s (s.pairHits lead trail v reverse) := by
  unfold State.pairHits
  dsimp only
  split
  · exact setWaiting _ _ _ _
  · have key : ∀ (b : Bool) (u : State) (ids : List Nat), Measures s u →
        Measures s (if b then u.completeIds ids else u) := by
      intro b u ids h
      cases b
      · exact h
      · exact h.trans (completeIds _ _)
    exact key _ _ _ ((setWaiting _ _ _ _).trans (setCandidates _ _ _))

theorem trailingArrival (s : State) (h : HitRec) (reverse : Bool) : Measures s (s.trailingArrival h reverse) := by
  unfold State.trailingArrival
  dsimp only
  split
  · exact pairHits _ _ _ _ _
  · refine trans ?_ (wheelStart _ _)
    refine trans ?_ (completeIds _ _)
    split
    · exact refl _
    · exact missAt _ _ _

theorem hitArrival (s : State) (h : HitRec) : Measures s (s.hitArrival h) := by
  unfold State.hitArrival
  dsimp only
  split
  · exact leadingArrival _ _
  · exact trailingArrival _ _ _

theorem expireLeading (s : State) (r : StripRow) (q : PosIx) (h : HitRec) : Measures s (s.expireLeading r q h) :=
  (setWaiting _ _ _ _).trans (setFormer _ _)

theorem abortFrames (s : State) (ls : List LaneIx) : Measures s (s.abortFrames ls) := by
  unfold State.abortFrames
  induction ls generalizing s with
  | nil => exact refl _
  | cons l rest ih => exact (closeFrame _ _ _).trans (ih _)

/-- What lanes that became inactive lose (R39). -/
theorem recompose (s before : State) : Measures s (s.recompose before) := by
  unfold State.recompose
  dsimp only
  split
  · exact refl _
  · exact ((abortFrames _ _).trans (setFormer _ _)).trans (withdraw _ _)

theorem completeOverdue (s : State) : Measures s s.completeOverdue := completeIds _ _

/-! ### The strip front end -/

theorem disposeLong (s : State) (c : ChanIx) : Measures s (s.disposeLong c) := by
  unfold State.disposeLong
  split
  · exact countDiscard _ _
  · exact refl _

theorem pourBucket (s : State) (c : ChanIx) (n : Nat) : Measures s (s.pourBucket c n) := by
  unfold State.pourBucket
  dsimp only
  split
  · exact (setChannel _ _ _).trans (raiseAt _ _ _)
  · exact setChannel _ _ _

theorem disposeHit (s : State) (c : ChanIx) (start stop : Tick) (area : Nat) (peak : Int) (clips : Nat) :
    Measures s (s.disposeHit c start stop area peak clips) := by
  unfold State.disposeHit
  split
  · exact refl _
  · split
    · exact refl _
    · split
      · exact countDiscard _ _
      · exact (pourBucket _ _ _).trans (hitArrival _ _)
      · exact (pourBucket _ _ _).trans (hitArrival _ _)
      · exact refl _
      · exact refl _

/-- One sample, with all it brings about. -/
theorem takeSample (s : State) (c : ChanIx) (x : BitVec 16) : Measures s (s.takeSample c x) := by
  unfold State.takeSample
  dsimp only
  refine trans (show Measures s (s.sampled c x) from setStrip s _) ?_
  split
  · exact refl _
  · exact refl _
  · exact raiseAt _ _ _
  · exact disposeLong _ _
  · exact disposeHit _ _ _ _ _ _ _

theorem leakChannel (s : State) (c : ChanIx) : Measures s (s.leakChannel c) := by
  unfold State.leakChannel
  dsimp only
  split
  · exact (setChannel _ _ _).trans (raiseAt _ _ _)
  · exact setChannel _ _ _

end Measures

/-! ### Folds -/

/-- A relation every step of a fold keeps holds of the whole fold. -/
theorem foldl_keeps {α β : Type} (R : β → β → Prop) (refl : ∀ b, R b b) (trans : ∀ {a b c}, R a b → R b c → R a c)
    (f : β → α → β) (step : ∀ b a, R b (f b a)) (l : List α) (b : β) : R b (l.foldl f b) := by
  induction l generalizing b with
  | nil => exact refl b
  | cons a rest ih => exact trans (step b a) (ih _)

end Sys2Proof.Machine
end

