-- ==== Sys2Proof/Laws/Spans.lean ====
section
/-! SUPPORT. When a span of the active set has passed (R24, R34, R66, R111), what the end of a frame does to a port (R171,
R186), and how a payload of equal parts is read at an offset. -/

namespace Sys2Proof.Machine

open Sys2Proof

/-! ### Spans -/

/-- The clock's test of a span says what `SpanPassed` says. -/
theorem spanPassed_iff (s : State) (start : Tick) (span : Profile → Nat) :
    s.spanPassed start span = true ↔ SpanPassed s start span := by
  cases h : s.prof.replaced <;> simp [State.spanPassed, SpanPassed, h]

/-- Without a commit at this tick the active set alone decides. -/
theorem spanPassed_of_not_replaced {s : State} (h : s.prof.replaced = none) (start : Tick) (span : Profile → Nat) :
    s.spanPassed start span = hasPassed start (span s.prof.active) s.now := by
  simp [State.spanPassed, h]

/-- What a commit of this tick brings forward is not due yet. -/
theorem not_spanPassed_of_broughtForward {s : State} {start : Tick} {span : Profile → Nat}
    (h : BroughtForward s start span) : s.spanPassed start span = false := by
  obtain ⟨old, ho, hp⟩ := h
  simp [State.spanPassed, ho, hp]

/-- A span either has passed, is brought forward by a commit of this tick, or has not passed by the active set. -/
theorem spanPassed_cases (s : State) (start : Tick) (span : Profile → Nat) :
    SpanPassed s start span ∨ BroughtForward s start span ∨ hasPassed start (span s.prof.active) s.now = false := by
  cases h : s.prof.replaced with
  | none => cases hp : hasPassed start (span s.prof.active) s.now <;> simp [SpanPassed, h, hp]
  | some old =>
    cases hp : hasPassed start (span s.prof.active) s.now <;> cases ho : hasPassed start (span old) s.now <;>
      simp [SpanPassed, BroughtForward, h, hp, ho]

/-! ### The end of a frame -/

/-- Everything the end of a frame can do before the restart's own reply is looked at: the transmitter becomes idle, and a
port a restart has passed over is set as at a power-on (R186). -/
theorem frameSent_eq (s : State) (p : Port) (f : Sending) :
    s.frameSent p f =
      (let t := if (s.port p).setAfterFrame = true then s.setPassedPort p else s.setPort p { s.port p with tx := none }
       if f.endsRestart then t.setSite t.site.replySent else t) := by
  cases h : (s.port p).setAfterFrame <;> simp [State.frameSent, h]

/-- The setting of a passed port touches the ports, the immediate-request slot and the pending restart, and nothing else. -/
theorem setPassedPort_keeps (s : State) (p : Port) : KeepsAllBut [.temp, .site, .ports] s (s.setPassedPort p) := by
  intro b hb
  cases p <;> cases b <;> first | rfl | (simp at hb)

/-! ### Payloads of equal parts -/

/-- Part `i` of a list of parts of one width stands at `width * i`. -/
theorem take_drop_flatMap {α : Type} (width : Nat) (part : α → List Byte) :
    ∀ (xs : List α), (∀ x ∈ xs, (part x).length = width) → ∀ (i : Nat) (h : i < xs.length),
      ((xs.flatMap part).drop (width * i)).take width = part xs[i]
  | [], _, i, h => absurd h (Nat.not_lt_zero i)
  | x :: xs, hw, 0, _ => by
    have : (part x).length = width := hw x (List.mem_cons_self ..)
    simp [List.flatMap_cons, ← this]
  | x :: xs, hw, i + 1, h => by
    have hx : (part x).length = width := hw x (List.mem_cons_self ..)
    have ih := take_drop_flatMap width part xs (fun y hy => hw y (List.mem_cons_of_mem _ hy)) i (Nat.lt_of_succ_lt_succ h)
    have : width * (i + 1) = (part x).length + width * i := by rw [hx, Nat.mul_succ, Nat.add_comm]
    rw [List.flatMap_cons, this, List.drop_append, List.drop_eq_nil_of_le (Nat.le_add_right ..), List.nil_append,
      Nat.add_sub_cancel_left, List.getElem_cons_succ, ih]

end Sys2Proof.Machine
end

