-- ==== Sys2Proof/Laws/Starts.lean ====
section
/-! SUPPORT. What the end of an image check makes of the blocks. -/

namespace Sys2Proof.Machine

open Sys2Proof

/-- From the temperature unit's start values, the end of an image check changes the channels, the loops and the temperature
unit and nothing else (R22, R40, R43, R44, R61): mapped channels settle, every line is read once, enabled probes warm up, and
the first pass has taken the zero reference from its list. -/
theorem beginBlocks_eq {s : State} (h : s.temp = startTemp) :
    s.beginBlocks = { s with
      strip := { s.strip with channels := Vector.ofFn (fun c => remappedChannel (s.stripEntry c)) },
      loops := s.loops.map (fun m => m.readAtStart s.now),
      temp := { startTemp with
        conv := some { input := .zref, origin := .scan, start := s.now },
        passList := (allProbes.filter (fun p => s.prof.active.probes.entries[p].enabled)).map ConvInput.probe,
        lastPass := some s.now,
        probes := Vector.ofFn (fun p =>
          if s.prof.active.probes.entries[p].enabled then { startProbe with state := .warmup } else startProbe) } } := by
  cases s
  cases h
  rfl

end Sys2Proof.Machine
end

