-- ==== Sys2Proof/Tests/Slice0.lean ====
section
/-! SUPPORT. Tests of the model on the manual's figures, the smoke tests of WellFormed and Decode, and for every
statement a state and operands that meet its hypotheses. -/

namespace Sys2Proof.Tests

open Sys2Proof Sys2Proof.Machine

-- One test after another: kernel evaluations waiting side by side each hold a thread with its stack.
set_option Elab.async false

/-! ### A small site -/

/-- A channel mapped in a lane, with the default thresholds. -/
def mapped (l : LaneIx) (r : StripRow) (d : StripSide) : StripEntry :=
  { defaultStrip with lane := some l, row := r, side := d }

/-- Lane 1 enabled with four channels, 1 and 2 in row A, 3 and 4 in row B; probe 0 enabled. -/
def siteProfile : Profile :=
  { defaultProfile with
    strips := (((defaultProfile.strips.set 0 (mapped 0 .rowA .left)).set 1 (mapped 0 .rowA .right)).set 2
      (mapped 0 .rowB .left)).set 3 (mapped 0 .rowB .right),
    lanes := defaultProfile.lanes.set 0 { defaultLane 0 with enabled := true },
    probes := { defaultProfile.probes with
      entries := defaultProfile.probes.entries.set 0 { enabled := true, trim := 0 } } }

/-- The site weighing at tick 3,000,000. -/
def road : State :=
  ((State.reset.setNow 3000000).setSite { State.reset.site with state := .weighing }).setProf
    { State.reset.prof with active := siteProfile }

/-- The site in STANDBY. -/
def parked : State :=
  road.setSite { road.site with state := .standby }

/-- A channel in a state with baseline 0. -/
def channel (st : ChanState) (d : Detector) : Channel :=
  { startChannel with state := st, baseline := some 0, detector := d }

/-- The site with channel 1 so. -/
def withChannel (ch : Channel) : State :=
  road.setChannel 0 ch

/-- A hit in progress that has seen 5 samples. -/
def hitAcc (n : Nat) : HitAcc :=
  { start := 2999000, area := 6890, peak := 2780, clips := 9, samples := n }

/-- A closing run of three. -/
def closingRun : EndRun :=
  { first := 2999997, run := 3, sum := 170, clips := 0 }

/-- A delivered hit of channel `c` starting at a tick. -/
def hitOf (c : ChanIx) (r : StripRow) (d : StripSide) (t : Tick) : HitRec :=
  { channel := c, lane := 0, row := r, side := d, start := t, stop := t + 20, area := 48000, peak := 2780, samples := 20,
    clips := 0, clip := false }

/-- An axle of lane 1 at a tick, with load 8,000 kg. -/
def axleAt (t : Tick) : AxleRec :=
  { lane := 0, holding := 0, time := t, wheels := [], speed := some 20000, source := .wheelPair, flags := 0,
    generation := 0, load := some 8000, tempUsed := 200, tempStatus := .none }

/-- A frame of one axle. -/
def frameAt (t : Tick) : Frame :=
  { openTick := t, openSite := 0, axles := [{ axle := axleAt t, spacing := none }], flags := 0, generation := 0,
    length := none, shared := false, overdue := false }

/-- A record of `n` axles. -/
def recordOf (n : Nat) : VehicleRec :=
  { boot := 0, seq := 1, lane := 0, openSite := 0, closeSite := 0, meanSpeed := some 20000, classCode := 0,
    tempUsed := 200, tempStatus := .live, generation := 0, flags := 0, length := none, gross := some 16000,
    axles := List.replicate n
      { speed := some 20000, load := some 8000, left := some 4000, right := some 4000, spacing := none, tempUsed := 200,
        flags := 0 } }

/-- An image of the site, locked. -/
def goodImage : Image :=
  { profile := siteProfile, cal := Vector.replicate 6 { fA := 4055, updates := 37, limit := false }, locked := true,
    audit := 5, boot := 7 }

/-- A write in progress for a reason, started a tick ago. -/
def writeFor (k : Reason) : ImageWrite :=
  { reason := k, content := goodImage, start := 2999999 }

/-- The cabinet link's claim on a copy of the active set. -/
def claimOf (p : Port) : Claim :=
  { owner := p, staged := siteProfile, transfer := none, timer := some 2040000 }

/-- The site with a claim. -/
def claimed (p : Port) : State :=
  parked.setProf { parked.prof with claim := some (claimOf p) }

/-- The tests of the port engine on concrete operands. -/
def admits (k : ReqKind) (p : Port) (payload : List Byte) (s : State) : Bool :=
  !s.heldLow && decide ((s.port p).replies.length < 4) && decide (s.site.state ≠ .init) && decide ((s.port p).deferred = none)
    && (decide (p = .cab) || decide (k ≠ .take ∧ k ≠ .stream)) && k.lengthFits payload.length

theorem admitted_of_admits {k : ReqKind} {p : Port} {payload : List Byte} {s : State}
    (h : admits k p payload s = true) : Admitted k p payload s := by
  simp only [admits, Bool.and_eq_true, Bool.or_eq_true, decide_eq_true_eq, Bool.not_eq_true'] at h
  obtain ⟨⟨⟨⟨⟨h1, h2⟩, h3⟩, h4⟩, h5⟩, h6⟩ := h
  exact ⟨h1, h2, .inl h3, .inl h4, h5, h6⟩

/-! ### Decoding and well-formed commands -/

theorem test_no_word_spells_a_command : decodeTableWord 8 0x5A = none ∧ decodeTableWord 32 0 = none := by decide

theorem test_long_payload_is_ill_formed :
    (Instr.status .cab 0 (List.replicate 1025 0)).wellFormed = false
      ∧ (Instr.editPut .svc 1 (List.replicate 1024 0)).wellFormed = true := by decide +kernel

theorem test_catalogue_kind_is_ill_formed :
    (Instr.unknownKindRequest .cab 0x12 0 []).wellFormed = false
      ∧ (Instr.unknownKindRequest .cab 0x13 0 []).wellFormed = true := by decide +kernel

/-! ### The manual's figures -/

/-- R174: the check over the bytes 0x31 to 0x39. -/
theorem test_crc : crc16 [0x31, 0x32, 0x33, 0x34, 0x35, 0x36, 0x37, 0x38, 0x39] = 0x29B1 := by decide +kernel

/-- R4: a difference of 127 leaves the baseline, one of 128 moves it by 1, either way. -/
theorem test_baseline_step :
    trackBaseline 0 127 = 0 ∧ trackBaseline 0 128 = 1 ∧ trackBaseline 0 (-128) = -1 ∧ trackBaseline 120 150 = 120 := by
  decide +kernel

/-- The worked sequence of chapter 1: the sample at t+7 breaks the run and its held sum joins. -/
theorem test_broken_run :
    (detectorStep 400 7 120 340 (.ending { start := 1, area := 6490, peak := 2780, clips := 0, samples := 5 }
      { first := 6, run := 1, sum := 180, clips := 0 })).1
      = .inHit { start := 1, area := 6890, peak := 2780, clips := 0, samples := 7 } := by decide +kernel

/-- The worked sequence of chapter 1: the fourth low sample ends the hit at t+8. -/
theorem test_hit_ends :
    detectorStep 400 11 120 130 (.ending { start := 1, area := 6890, peak := 2780, clips := 0, samples := 7 }
      { first := 8, run := 3, sum := 170, clips := 0 }) = (.quiet, 120, .hit 1 8 6890 2780 0) := by decide +kernel

/-- Chapter 1, A CHANNEL DEGRADES AND RECOVERS: 250 and 9 clips give 259, and 100 clips add 64. -/
theorem test_bucket : bucketAfter 250 9 = 259 ∧ bucketAfter 259 100 = 323 := by decide

/-- The leak that brings 129 to 128, half of 256, ends DEGRADED. -/
theorem test_leak :
    ((channel .degraded .quiet).leak 256).state = .normal
      ∧ (({ channel .degraded .quiet with bucket := 130 }).leak 256).state = .degraded
      ∧ (({ channel .degraded .quiet with bucket := 129 }).leak 256).state = .normal := by decide +kernel

/-- R30: the bounds of Δ at 4,000 mm. -/
theorem test_loop_speed :
    loopSpeed 4000 1600 = some 20000 ∧ loopSpeed 4000 534 = some 59925 ∧ loopSpeed 4000 533 = none
      ∧ loopSpeed 4000 21340 = some 1500 ∧ loopSpeed 4000 21341 = none ∧ loopSpeed 4000 0 = none := by decide +kernel

/-- Chapter 2 and chapter 6: the two worked lengths. -/
theorem test_occupancy_length :
    occupancyLength 7000 20000 200 = 1550 ∧ occupancyLength 6728 21996 200 = 1650 := by decide +kernel

/-- Chapter 3, the worked conversion: raw 2,200 at offset 12 is 2,188, and 21.7 degrees with trim 5. -/
theorem test_conversion :
    correctedRaw 12 2200 = 2188
      ∧ clampInt (-400) 850 (interpolate [(2048, 250), (2304, 180)] 2188 + 5) = 217
      ∧ clampInt (-400) 850 (interpolate [(2048, 250), (2304, 180)] 2184 + 5) = 218 := by decide +kernel

/-- Chapter 3, the worked pass: f 210 moves to 211 on t 217. -/
theorem test_filter :
    (Probe.good { startProbe with state := .valid, filtered := some 210 } 217).1.filtered = some 211 := by decide +kernel

/-- R64, R66: the bounds of Δ at 3,000 mm. -/
theorem test_pairing_bounds :
    pairSpeed 3000 (hitOf 0 .rowA .left 1000) (hitOf 2 .rowB .left 1399) = none
      ∧ pairSpeed 3000 (hitOf 0 .rowA .left 1000) (hitOf 2 .rowB .left 1400) = some 60000
      ∧ pairSpeed 3000 (hitOf 0 .rowA .left 1000) (hitOf 2 .rowB .left 17005) = some 1500
      ∧ pairSpeed 3000 (hitOf 0 .rowA .left 1000) (hitOf 2 .rowB .left 17006) = none
      ∧ pairSpeed 3000 (hitOf 0 .rowA .left 1000) (hitOf 2 .rowB .left 1000) = none := by decide +kernel

/-- R64's table: Δmax at 3,000 mm. -/
theorem test_max_wait : road.maxWait 0 = 16005 := by decide +kernel

/-- Chapter 4's lorry: two wheel speeds and their mean. -/
theorem test_wheel_pair_speed :
    wheelPairSpeed [{ pos := 3, lead := none, trail := none, speed := some 20000, reverse := false },
      { pos := 4, lead := none, trail := none, speed := some 19950, reverse := false }] = some 19975 := by decide +kernel

/-- R89: the falling segment, and the ends. -/
theorem test_interpolation :
    interpolate [(-200, 1180), (-100, 1130)] (-155) = 1157 ∧ interpolate [(-200, 1180), (-100, 1130)] (-150) = 1155
      ∧ interpolate [(-200, 1180), (-100, 1130)] (-320) = 1180
      ∧ interpolate [(-200, 1180), (-100, 1130)] 0 = 1130 := by decide +kernel

/-- R90: the site tables' values at 290, 315 and 25,200 mm/s. -/
theorem test_tables :
    tempFactor #v[1180, 1130, 1090, 1060, 1030, 1000, 960, 915, 870] 290 = 1003
      ∧ tempFactor #v[1180, 1130, 1090, 1060, 1030, 1000, 960, 915, 870] 315 = 994
      ∧ speedFactor #v[1120, 1080, 1055, 1040, 1030, 1024, 1020, 1018] 25200 = 1030
      ∧ speedFactor #v[1120, 1080, 1055, 1040, 1030, 1024, 1020, 1018] 52000 = 1018 := by decide +kernel

/-- R93: the least and greatest F, and the two of the straddle axle. -/
theorem test_combined_factor :
    combinedFactor 512 512 3686 = 922 ∧ combinedFactor 2047 2047 4506 = 18006 ∧ combinedFactor 994 1030 4055 = 3959
      ∧ combinedFactor 994 1040 4055 = 3998 ∧ combinedFactor 1003 1040 3960 = 3939 := by decide +kernel

/-- Chapter 5's worked axle: the three estimates and the left wheel. -/
theorem test_worked_loads :
    stage4 (stage2 (stage1 48000 25000 50).1 6827).1 3959 = (4833, false)
      ∧ stage4 (stage2 (stage1 49200 25000 50).1 6790).1 3959 = (4927, false)
      ∧ stage4 (stage2 (stage1 46100 25000 50).1 6900).1 3959 = (4691, false)
      ∧ (combineRows 15 [⟨4833, false⟩, ⟨4927, false⟩]).1 = some 4880
      ∧ rowsSplit 15 4833 4927 = false := by decide +kernel

/-- R102 and chapter 4: the worked spacings. -/
theorem test_spacing :
    spacingCm 2300 25000 25200 = 722 ∧ spacingCm 1440 19975 20000 = 360 ∧ spacingCm 3200 20000 20000 = 800
      ∧ spacingCm 2764 21990 22000 = 760 := by decide +kernel

/-- R125: the five-axle lorry of chapter 6. -/
theorem test_overload :
    overLimit 11500 5 (some 12000) = false ∧ overLimit 40000 5 (some 42100) = true ∧ overLimit 40000 5 none = false := by
  decide +kernel

/-- R123: entry 3 of chapter 6's table takes the lorry with its length and not without. -/
theorem test_class_entry :
    let e : ClassEntry := { code := 11, minAxles := 5, maxAxles := 5, track := .forbidden,
                            ranges := [(300, 450), (500, 1200), (110, 160), (110, 160)], gross := none,
                            length := some (1400, 1900) }
    let axle := fun g : Option Nat => ({ speed := none, load := none, left := none, right := none, spacing := g,
                                         tempUsed := 0, flags := 0 } : AxleEntry)
    let axles := [axle (some 360), axle (some 760), axle (some 131), axle (some 131), axle none]
    e.matchesRecord axles none (some 1650) = true ∧ e.matchesRecord axles none none = false := by decide +kernel

/-- R116: after 2^32 − 1 comes 1. -/
theorem test_sequence_wraps : nextSeq 4294967295 = 1 ∧ nextSeq 40212 = 40213 := by decide +kernel

/-- Chapter 7's worked update: mean 6,993, proposal 3,943, step to 4,035. -/
theorem test_factor_update :
    trimmedMean [6950, 7020, 6880, 7110, 6990, 7300, 6940, 7050, 6500, 7000, 6970, 7080, 6910, 7030, 6960, 7010] = 6993
      ∧ proposedFactor 4055 6800 6993 = 3943 ∧ steppedFactor 4055 3943 = 4035 ∧ clampFactor 4035 = 4035
      ∧ clampFactor 4507 = 4506 := by decide +kernel

/-- R138: the afternoon's band: 251 joins an anchor of 236, 180 restarts the window. -/
theorem test_temperature_band :
    let c : LaneCal := { defaultLaneCal with window := [{ load := 6960, site := 0, temp := 236 }], anchor := some 236 }
    (c.place { load := 7010, site := 0, temp := 251 }).window.length = 2
      ∧ (c.place { load := 7010, site := 0, temp := 180 }).outcome = some .restarted
      ∧ (c.place { load := 7010, site := 0, temp := 180 }).anchor = some 180 := by decide +kernel

/-- R153: the default set passes every check of R154 and R161. -/
theorem test_default_set_is_good : profileGood defaultProfile = true ∧ profileGood siteProfile = true := by decide +kernel

/-- R151: the sizes of the fixed sections. -/
theorem test_section_sizes :
    (sectionBytes siteProfile .site).length = 32 ∧ (sectionBytes siteProfile .stripmap).length = 288
      ∧ (sectionBytes siteProfile .lanes).length = 108 ∧ (sectionBytes siteProfile .probes).length = 50
      ∧ (sectionBytes siteProfile .autocal).length = 16 ∧ (sectionBytes siteProfile .classes).length = 1 := by
  decide +kernel

/-- R154: a lane count of 7 is index 0, a scan period of 61 s index 11. -/
theorem test_site_ranges :
    firstFailing (siteChecks { defaultSite with laneCount := 7, scanPeriod := 61 }) = some 0
      ∧ firstFailing (siteChecks { defaultSite with scanPeriod := 61 }) = some 11
      ∧ firstFailing (siteChecks defaultSite) = none := by decide +kernel

/-- R1: two channels on one segment give the index of the higher-numbered. -/
theorem test_duplicate_segment :
    firstFailing (stripChecks [] [some (mapped 0 .rowA .left), some (mapped 0 .rowB .left), some (mapped 0 .rowA .left)])
      = some 2 := by decide +kernel

/-- A record of lane 3 without length, its bytes written out from chapter 9's table: FORCED and SINGLE on its one axle, which
lacks a left load and a spacing, at −2.5 °C. -/
theorem test_record_bytes :
    recordBytes
      { boot := 0x01020304, seq := 0xA1B2C3D4, lane := 2, openSite := 0x060504030201, closeSite := 7, meanSpeed := some 20000,
        classCode := 31, tempUsed := -25, tempStatus := .held, generation := 258, flags := 10, length := none,
        gross := some 70000,
        axles := [{ speed := some 20000, load := some 8000, left := none, right := some 4000, spacing := none,
                    tempUsed := -25, flags := 10 }] }
      = [4, 3, 2, 1, 0xD4, 0xC3, 0xB2, 0xA1, 3, 1, 31, 5, 1, 2, 3, 4, 5, 6, 7, 0, 0, 0, 0, 0, 0x20, 0x4E, 0, 0,
          0x70, 0x11, 1, 0, 0xE7, 0xFF, 2, 2, 1, 0, 0, 10, 0, 0, 0,
          11, 0x20, 0x4E, 0x40, 0x1F, 0, 0, 0xA0, 0x0F, 0, 0, 0xE7, 0xFF, 10, 0, 0, 0] := by decide +kernel

theorem test_witness_record_axles :
    (recordOf 1).axles[0]?.isSome = true ∧ (recordOf 15).axles[14]?.isSome = true ∧ (recordOf 15).axles[15]? = none := by
  decide +kernel

/-- Chapter 9: a record of n axles has 43 + 17 × n bytes. -/
theorem test_record_size : (recordBytes (recordOf 5)).length = 128 ∧ (recordBytes (recordOf 2)).length = 77 := by
  decide +kernel

/-- Chapter 9, THE REQUESTS: at most 17 one-axle records in a TAKE, 16 in a PEEK, 3 of 15 axles in a TAKE. -/
theorem test_reply_room :
    (carried takeBudget 48 (List.replicate 20 (recordOf 1))).length = 17
      ∧ (carried peekBudget 48 (List.replicate 20 (recordOf 1))).length = 16
      ∧ (carried takeBudget 48 (List.replicate 20 (recordOf 15))).length = 3 := by decide +kernel

/-- R28: D first in IDLE is REVERSE with WRONG_WAY; U OCCUPIED is ENTERING. -/
theorem test_presence_moves :
    (road.downOccupied 0 5).loops[(0 : LaneIx)].presence = .reverse
      ∧ (road.downOccupied 0 5).ports.svc.events[(0 : Fin 13)] = { count := 1, list := 1 }
      ∧ (road.upOccupied 0 5).loops[(0 : LaneIx)].presence = .entering := by decide +kernel

/-! ### Witnesses: the clock and the starts -/

theorem test_witness_front_command :
    (road.setPending [.bucketLeak]).pending = .bucketLeak :: [] := by decide +kernel

theorem test_witness_due_event :
    (State.reset.setNow 400).pending = [] ∧ (State.reset.setNow 400).dueEvent = some .bucketLeak := by decide +kernel

theorem test_witness_no_due_event :
    (State.reset.setNow 399).pending = [] ∧ (State.reset.setNow 399).dueEvent = none := by decide +kernel

theorem test_witness_held_in_reset :
    (road.setHeldLow true).heldLow = true ∧ (∀ strap, Instr.bucketLeak ≠ .powerOn strap)
      ∧ (∀ strap, Instr.bucketLeak ≠ .lineReset strap) ∧ Instr.bucketLeak ≠ .resetNHeldLow
      ∧ (∀ l d high, Instr.bucketLeak ≠ .loopLineChange l d high) := by
  refine ⟨by decide +kernel, ?_, ?_, ?_, ?_⟩ <;> simp

/-- The site with an image, or a write, or neither. -/
def withMedium (m : Medium) (w : Option ImageWrite) : State :=
  road.setProf { road.prof with medium := m, write := w }

theorem test_witness_line_held :
    (withMedium .blank (some (writeFor .learned))).prof.write ≠ none
      ∧ (withMedium .blank none).prof.write = none := by decide +kernel

theorem test_witness_good_image :
    (withMedium (.holds goodImage) none).heldLow = false ∧ (withMedium (.holds goodImage) none).prof.write = none
      ∧ (withMedium (.holds goodImage) none).prof.medium.goodImage = some goodImage ∧ goodImage.locked = true := by
  decide +kernel

theorem test_witness_bad_image :
    BadMedium (withMedium .torn none).prof ∧ BadMedium (withMedium (.holds goodImage) (some (writeFor .boot))).prof := by
  constructor
  · exact .inr (by decide +kernel)
  · exact .inl (by decide +kernel)

/-- The site with that image, loops 1U and 2D occupied and channel 5 with a discard to its count. -/
def loopsHigh : State :=
  ((withMedium (.holds goodImage) none).setLoops ((road.loops.set 0 (startLaneMonitor true false)).set 1
    (startLaneMonitor false true))).setChannel 4 { startChannel with discard := 3 }

/-- R22, R40, R44, R61: at the end of the image check channel 1 settles and channel 5, unmapped, is OFF without its count;
loop 1U is OCCUPIED and its lane ENTERING, lane 2 LEAVING and not REVERSE; probe 0 alone warms up and waits in the list. -/
theorem test_blocks_begin :
    let t := loopsHigh.powerUp false
    t.strip.channels[(0 : ChanIx)].state = .settling ∧ t.strip.channels[(4 : ChanIx)] = startChannel
      ∧ t.loops[(0 : LaneIx)].up = { high := true, filtered := .occupied, change := none, stuckStart := some 3000000 }
      ∧ t.loops[(0 : LaneIx)].presence = .entering ∧ t.loops[(1 : LaneIx)].presence = .leaving
      ∧ t.loops[(0 : LaneIx)].uOnset = none ∧ t.loops[(0 : LaneIx)].idleSince = none
      ∧ t.temp.probes[(0 : ProbeIx)].state = .warmup ∧ t.temp.probes[(1 : ProbeIx)].state = .absent
      ∧ t.temp.passList = [.probe 0] ∧ t.temp.conv = some { input := .zref, origin := .scan, start := 3000000 } := by
  decide +kernel

/-- The site with a restart whose reply has been sent. -/
def restarting (m : Medium) : State :=
  (withMedium m none).setSite { road.site with restart := some { replySent := true } }

theorem test_witness_restart :
    ∀ m ∈ [Medium.failed, Medium.holds goodImage],
      (restarting m).heldLow = false ∧ (restarting m).site.restart = some { replySent := true }
        ∧ (restarting m).prof.write = none
        ∧ (restarting m).prof.reasons = { commit := false, lock := false, boot := false, learned := false } := by
  decide +kernel

theorem test_witness_restart_images :
    (restarting (.holds goodImage)).prof.medium.goodImage = some goodImage
      ∧ (restarting .failed).prof.medium.goodImage = none := by decide +kernel

/-- A reply to IDENT. -/
def otherReply : Reply := { kind := 0x81, tag := 0, payload := [0], endsRestart := false }

/-- The site of a pending restart with a reply waiting on the service port, which sends a frame or not. -/
def waitingReply (sends : Bool) : State :=
  (restarting .failed).setPort .svc { startPort .svc with
    replies := [otherReply],
    tx := if sends then some { bytes := [0x5A, 0x5A], start := 3000000, endsRestart := false } else none }

/-- R171, R177, R184: a reply placed while the transmitter is free is begun before the restart of that tick and goes on
across it; one behind a frame is lost. -/
theorem test_reply_at_a_restart :
    (waitingReply false).dueEvent = some (.replySend .svc) ∧ (waitingReply true).dueEvent = some .restartTakesPlace
      ∧ (((waitingReply false).sendReply .svc otherReply).restartNow.port .svc).tx.isSome = true
      ∧ ((waitingReply true).restartNow.port .svc).replies = []
      ∧ ((waitingReply true).restartNow.port .svc).setAfterFrame = true
      ∧ ((waitingReply false).restartNow.port .svc) = startPort .svc := by decide +kernel

/-! ### Witnesses: strip channels -/

/-- A settling channel with a count. -/
def settling (n : Nat) : State :=
  withChannel { startChannel with state := .settling, settleSum := 1000, settleCount := n }

theorem test_witness_settling :
    road.heldLow = false ∧ road.strip.channels[(0 : ChanIx)].state = .off
      ∧ (settling 254).strip.channels[(0 : ChanIx)].state = .settling
      ∧ (settling 254).strip.channels[(0 : ChanIx)].settleCount < 255
      ∧ (settling 255).strip.channels[(0 : ChanIx)].state = .settling
      ∧ (settling 255).strip.channels[(0 : ChanIx)].settleCount = 255 := by decide +kernel

theorem test_witness_settled : IsSample (.settlingComplete 0 5) (.settlingComplete 0 5) 0 5 := .inr rfl

/-- The site with channel 1 detecting. -/
def detecting (d : Detector) : State :=
  withChannel (channel .normal d)

theorem detecting_detects (d : Detector) : Detects (detecting d).strip.channels[(0 : ChanIx)] 0 := ⟨.inl rfl, rfl⟩

theorem test_witness_quiet :
    Detects (detecting .quiet).strip.channels[(0 : ChanIx)] 0 ∧ (detecting .quiet).heldLow = false
      ∧ (detecting .quiet).strip.channels[(0 : ChanIx)].detector = .quiet
      ∧ (((detecting .quiet).stripEntry 0).trigger : Int) ≤ deviationOf 0 400
      ∧ deviationOf 0 399 < (((detecting .quiet).stripEntry 0).trigger : Int) :=
  ⟨detecting_detects .quiet, by decide +kernel⟩

theorem test_witness_hit_samples :
    Detects (detecting (.arming 2999999 400 true)).strip.channels[(0 : ChanIx)] 0
      ∧ (detecting (.arming 2999999 400 true)).strip.channels[(0 : ChanIx)].detector = .arming 2999999 400 true
      ∧ Detects (detecting (.inHit (hitAcc 2046))).strip.channels[(0 : ChanIx)] 0
      ∧ (detecting (.inHit (hitAcc 2046))).strip.channels[(0 : ChanIx)].detector = .inHit (hitAcc 2046)
      ∧ (hitAcc 2046).samples < 2047 ∧ ((((detecting .quiet).stripEntry 0).trigger / 2 : Nat) : Int) ≤ deviationOf 0 200
      ∧ deviationOf 0 199 < ((((detecting .quiet).stripEntry 0).trigger / 2 : Nat) : Int)
      ∧ Detects (detecting (.ending (hitAcc 2044) { closingRun with run := 2 })).strip.channels[(0 : ChanIx)] 0
      ∧ (detecting (.ending (hitAcc 2044) { closingRun with run := 2 })).strip.channels[(0 : ChanIx)].detector
          = .ending (hitAcc 2044) { closingRun with run := 2 }
      ∧ (hitAcc 2044).samples + ({ closingRun with run := 2 } : EndRun).run < 2047
      ∧ ({ closingRun with run := 2 } : EndRun).run < 3 :=
  ⟨detecting_detects _, by decide +kernel, detecting_detects _, by decide +kernel, by decide +kernel, by decide +kernel,
    by decide +kernel, detecting_detects _, by decide +kernel, by decide, by decide⟩

/-- An unmapped channel at the end of its hit. -/
def unmappedEnding : State :=
  road.setChannel 23 (channel .normal (.ending (hitAcc 5) closingRun))

theorem test_witness_hit_without_lane :
    IsSample (.stripSample 23 199) (.hitEnd 23 199) 23 199 ∧ Detects unmappedEnding.strip.channels[(23 : ChanIx)] 0
      ∧ unmappedEnding.heldLow = false
      ∧ unmappedEnding.strip.channels[(23 : ChanIx)].detector = .ending (hitAcc 5) closingRun ∧ closingRun.run = 3
      ∧ deviationOf 0 199 < (((unmappedEnding.stripEntry 23).trigger / 2 : Nat) : Int)
      ∧ ∀ l, (unmappedEnding.stripEntry 23).lane = some l → unmappedEnding.laneActive l = false :=
  ⟨.inl rfl, ⟨.inl rfl, rfl⟩, by decide +kernel⟩

/-- A DEAD channel at the end of its hit. -/
def deadEnding : State :=
  withChannel (channel .dead (.ending (hitAcc 5) closingRun))

theorem test_witness_hit_of_a_dead_channel :
    IsSample (.hitEnd 0 199) (.hitEnd 0 199) 0 199 ∧ Detects deadEnding.strip.channels[(0 : ChanIx)] 0
      ∧ deadEnding.strip.channels[(0 : ChanIx)].detector = .ending (hitAcc 5) closingRun
      ∧ deviationOf 0 199 < (((deadEnding.stripEntry 0).trigger / 2 : Nat) : Int)
      ∧ (deadEnding.stripEntry 0).lane = some 0 ∧ deadEnding.laneActive 0 = true
      ∧ deadEnding.strip.channels[(0 : ChanIx)].state = .dead :=
  ⟨.inr rfl, ⟨.inr (.inr rfl), rfl⟩, by decide +kernel⟩

theorem test_witness_long_hit :
    IsSample (.hitLong 0 199) (.hitLong 0 199) 0 199
      ∧ Detects (detecting (.inHit (hitAcc 2047))).strip.channels[(0 : ChanIx)] 0
      ∧ (detecting (.inHit (hitAcc 2047))).strip.channels[(0 : ChanIx)].detector = .inHit (hitAcc 2047)
      ∧ (hitAcc 2047).samples = 2047 :=
  ⟨.inr rfl, detecting_detects _, by decide +kernel⟩

/-- The 2,048th sample falls into an ENDING run, or breaks one of any length. -/
theorem test_witness_long_hit_in_ending :
    IsSample (.stripSample 0 199) (.hitLong 0 199) 0 199
      ∧ (∀ run ∈ [1, 2, 3],
        (detecting (.ending (hitAcc (2047 - run)) { closingRun with run := run })).strip.channels[(0 : ChanIx)].detector
            = .ending (hitAcc (2047 - run)) { closingRun with run := run }
          ∧ (hitAcc (2047 - run)).samples + ({ closingRun with run := run } : EndRun).run = 2047
          ∧ (((((detecting .quiet).stripEntry 0).trigger / 2 : Nat) : Int) ≤ deviationOf 0 200 ∨ run < 3))
      ∧ Detects (detecting (.ending (hitAcc 2045) { closingRun with run := 2 })).strip.channels[(0 : ChanIx)] 0 :=
  ⟨.inl rfl, by decide +kernel, detecting_detects _⟩

/-- R8: a low and a high sample that cut the hit off, and the recovery run that counts and begins again. -/
theorem test_long_and_recovery :
    let cut := fun x : Int => detectorStep 400 9 0 x (.ending (hitAcc 2045) { closingRun with run := 2 })
    cut 199 = (.recovering 0, 0, .long) ∧ cut 200 = (.recovering 0, 0, .long)
      ∧ detectorStep 400 9 0 199 (.recovering 2) = (.recovering 3, 0, .none)
      ∧ detectorStep 400 9 0 200 (.recovering 3) = (.recovering 0, 0, .none)
      ∧ detectorStep 400 9 0 199 (.recovering 3) = (.quiet, 0, .recovered) := by decide +kernel

theorem test_witness_recovery_run :
    Detects (detecting (.recovering 2)).strip.channels[(0 : ChanIx)] 0
      ∧ (detecting (.recovering 2)).strip.channels[(0 : ChanIx)].detector = .recovering 2
      ∧ (detecting (.recovering 2)).heldLow = false
      ∧ deviationOf 0 199 < ((((detecting .quiet).stripEntry 0).trigger / 2 : Nat) : Int)
      ∧ ((((detecting .quiet).stripEntry 0).trigger / 2 : Nat) : Int) ≤ deviationOf 0 200 :=
  ⟨detecting_detects _, by decide +kernel⟩

theorem test_witness_recovery :
    IsSample (.recoveryEnd 0 199) (.recoveryEnd 0 199) 0 199
      ∧ Detects (detecting (.recovering 3)).strip.channels[(0 : ChanIx)] 0
      ∧ (detecting (.recovering 3)).strip.channels[(0 : ChanIx)].detector = .recovering 3
      ∧ deviationOf 0 199 < ((((detecting (.recovering 3)).stripEntry 0).trigger / 2 : Nat) : Int) :=
  ⟨.inr rfl, detecting_detects _, by decide +kernel⟩

/-- A NORMAL row-A channel at the end of its hit, its bucket at a level. -/
def hitEnding (level : Nat) : State :=
  withChannel { channel .normal (.ending (hitAcc 5) closingRun) with bucket := level }

theorem test_witness_leading_hit :
    ∀ level ∈ [247, 248],
      (hitEnding level).heldLow = false ∧ (hitEnding level).strip.channels[(0 : ChanIx)].state ≠ .dead
        ∧ (hitEnding level).strip.channels[(0 : ChanIx)].detector = .ending (hitAcc 5) closingRun
        ∧ deviationOf 0 199 < ((((hitEnding level).stripEntry 0).trigger / 2 : Nat) : Int)
        ∧ ((hitEnding level).stripEntry 0).lane = some 0 ∧ (hitEnding level).laneActive 0 = true
        ∧ ((hitEnding level).stripEntry 0).row = .rowA ∧ (hitEnding level).loops[(0 : LaneIx)].presence ≠ .reverse
        ∧ ∀ k : LaneIx, (hitEnding level).former.candidates[k] = [] := by decide +kernel

theorem test_witness_leading_hit_lists :
    Detects (hitEnding 248).strip.channels[(0 : ChanIx)] 0 ∧ ∀ r q, (hitEnding 248).waiting r q = [] := by
  refine ⟨⟨.inl rfl, rfl⟩, fun r => ?_⟩
  cases r <;> decide +kernel

/-- The end of channel 1's hit, which began at tick 2,999,000, with these candidates in lane 1. -/
def gathering (cs : List Candidate) : State :=
  (hitEnding 0).setFormer { startFormer with
    waitA := (startFormer.waitA.set 1 [hitOf 1 .rowA .right 2999040]).set 0 [hitOf 0 .rowA .left 2990000],
    candidates := startFormer.candidates.set 0 cs, nextId := 9 }

/-- A candidate of one waiting hit. -/
def oneSided (id : Nat) (h : HitRec) : Candidate :=
  { id := id, opened := h.start + 30, sides := [.waiting h] }

/-- A row-B-only wheel. -/
def trailingWheel (h : HitRec) : Wheel :=
  { pos := h.pos, lead := none, trail := some h, speed := none, reverse := false }

/-- Two candidates as near as the window allows, on the right-hand position, and one too far. -/
def neighbours : List Candidate :=
  [oneSided 7 (hitOf 1 .rowA .right 2999041),
    { id := 6, opened := 2999100, sides := [.formed (trailingWheel (hitOf 3 .rowB .right 2998960))] },
    oneSided 5 (hitOf 1 .rowA .right 2999040)]

/-- Four candidates of lane 1 that take no side of channel 1, two of one first start. -/
def crowded : List Candidate :=
  [oneSided 7 (hitOf 1 .rowA .right 2998900), oneSided 4 (hitOf 0 .rowA .left 2990000),
    oneSided 3 (hitOf 1 .rowA .right 2999041), oneSided 8 (hitOf 1 .rowA .right 2990000)]

/-- The axle former's limits on concrete contents. -/
def limitsHold (x : AxleFormer) : Bool :=
  decide (∀ k : LaneIx, ∀ c ∈ x.candidates[k], c.id < x.nextId ∧ (c.sides.length = 1 ∨ c.sides.length = 2)
      ∧ ∀ y ∈ c.sides, sideHasHit y = true)
    && decide ((List.finRange 6).flatMap (fun k : LaneIx => x.candidates[k].map (fun c => c.id))).Nodup
    && decide (∀ q : PosIx, x.waitA[q].length ≤ 4 ∧ x.waitB[q].length ≤ 4)
    && decide (∀ k : LaneIx, x.candidates[k].length ≤ 4)

theorem limits_of {s : State} (h : limitsHold s.former = true) : FormerLimits s := by
  simp only [limitsHold, Bool.and_eq_true, decide_eq_true_eq] at h
  refine ⟨fun k c hc => (h.1.1.1 k c hc).1, h.1.1.2, fun k c hc => (h.1.1.1 k c hc).2, fun r q => ?_, h.2⟩
  cases r
  · exact (h.1.2 q).1
  · exact (h.1.2 q).2

theorem gathering_limits : ∀ cs ∈ [neighbours, crowded, crowded.take 3], FormerLimits (gathering cs) := fun cs hcs =>
  limits_of ((by decide +kernel : ∀ cs ∈ [neighbours, crowded, crowded.take 3], limitsHold (gathering cs).former = true)
    cs hcs)

theorem gathering_delivers (cs : List Candidate) : Delivers (gathering cs) 0 199 0 (hitAcc 5) closingRun where
  runs := rfl
  detects := ⟨0, ⟨.inl rfl, rfl⟩, show deviationOf 0 199 < (((road.stripEntry 0).trigger / 2 : Nat) : Int) by decide +kernel⟩
  alive := show ChanState.normal ≠ .dead by decide
  detector := rfl
  run := rfl
  lane := show (road.stripEntry 0).lane = some 0 by decide +kernel
  active := show road.laneActive 0 = true by decide +kernel

theorem test_witness_delivery :
    IsSample (.hitEnd 0 199) (.hitEnd 0 199) 0 199 ∧ (road.stripEntry 0).row = .rowA
      ∧ road.loops[(0 : LaneIx)].presence ≠ .reverse := ⟨.inr rfl, by decide +kernel⟩

/-- The hit channel 1 delivers there. -/
def newHit : HitRec :=
  { channel := 0, lane := 0, row := .rowA, side := .left, start := 2999000, stop := 2999997, area := 6890, peak := 2780,
    samples := 997, clips := 9, clip := false }

theorem test_witness_joining :
    newHit = deliveredHit (gathering neighbours) 0 0 (hitAcc 5) closingRun
      ∧ ((gathering neighbours).waiting newHit.row newHit.pos).length < 4
      ∧ (gathering neighbours).former.candidates[(0 : LaneIx)]
          = neighbours.take 2 ++ oneSided 5 (hitOf 1 .rowA .right 2999040) :: []
      ∧ Joins (gathering neighbours) newHit.pos newHit.start 0 (oneSided 5 (hitOf 1 .rowA .right 2999040)) := by
  refine ⟨by decide +kernel, by decide +kernel, by decide +kernel, joins_of (by decide +kernel) (by decide +kernel)
    (by decide +kernel) ?_⟩
  rintro v (rfl | rfl) <;> decide +kernel

theorem test_witness_opening :
    newHit = deliveredHit (gathering (crowded.take 3)) 0 0 (hitAcc 5) closingRun
      ∧ Opens (gathering (crowded.take 3)) newHit.pos newHit.start :=
  ⟨by decide +kernel, opens_of (by decide +kernel) (by decide +kernel)⟩

theorem not_eligible {cs : List Candidate} {q : PosIx} {u : Tick}
    (h : ∀ k : LaneIx, ∀ c ∈ (gathering cs).former.candidates[k],
      c.eligible q u (gathering cs).prof.active.site.window = false) :
    ∀ (k : LaneIx) (c : Candidate), c ∈ (gathering cs).former.candidates[k] → ∀ d, ¬ Eligible (gathering cs) c q u d :=
  fun k c hc d he => by simpa [h k c hc] using he.eligible.1

/-- Row B of the left position is channel 3's. -/
theorem road_row_B : ∀ k : ChanIx, (siteProfile.strips[k].lane = some (posLane 0) ∧ siteProfile.strips[k].side = posSide 0
    ∧ siteProfile.strips[k].row = .rowB) ↔ k = 2 := by decide +kernel

/-- The crowded lane with channel 3 NORMAL at 30 misses. -/
def forcing : State :=
  (gathering crowded).setChannel 2 { channel .normal .quiet with miss := 30 }

theorem test_witness_forced :
    newHit = deliveredHit forcing 0 0 (hitAcc 5) closingRun ∧ forcing.loops[(0 : LaneIx)].presence ≠ .reverse
      ∧ forcing.former.candidates[(0 : LaneIx)]
          = crowded.take 1 ++ oneSided 4 (hitOf 0 .rowA .left 2990000) :: crowded.drop 2
      ∧ 4 ≤ forcing.former.candidates[(0 : LaneIx)].length
      ∧ (∀ k : LaneIx, ∀ c ∈ forcing.former.candidates[k],
          c.eligible newHit.pos newHit.start forcing.prof.active.site.window = false)
      ∧ (hitOf 0 .rowA .left 2990000).lane = 0 ∧ (hitOf 0 .rowA .left 2990000).start ≠ newHit.start
      ∧ (∀ c' ∈ crowded.take 1 ++ crowded.drop 2,
          (0 < elapsed 2990000 c'.firstStart ∧ elapsed 2990000 c'.firstStart < 2 ^ 31)
            ∨ (c'.firstStart = 2990000 ∧ 4 < c'.id))
      ∧ CountsMisses forcing.strip.channels[(2 : ChanIx)] ∧ forcing.strip.channels[(2 : ChanIx)].miss < 31
      ∧ forcing.asm.frames[(0 : LaneIx)] = none := by decide +kernel

theorem test_witness_forced_channel : OnlyMappedAt forcing .rowB (hitOf 0 .rowA .left 2990000).pos 2 :=
  ⟨(road_row_B 2).mpr rfl, fun k h => (road_row_B k).mp h⟩

/-- R67, R68: of two candidates as near the side joins the one opened first; and the FORCED axle leaves before the new
candidate opens. -/
theorem test_side_joins_or_forces :
    let join := (gathering neighbours).takeSample 0 199
    let force := forcing.takeSample 0 199
    (join.former.candidates[(0 : LaneIx)]).map (fun c => (c.id, c.sides.length)) = [(7, 1), (6, 1), (5, 2)]
      ∧ (force.former.candidates[(0 : LaneIx)]).map (fun c => c.id) = [7, 3, 8, 9]
      ∧ (force.asm.frames[(0 : LaneIx)]).map (fun f => f.axles.map (fun a => (a.axle.time, hasFlag a.axle.flags .forced)))
          = some [(2990000, true)]
      ∧ force.strip.channels[(2 : ChanIx)].miss = 31 := by decide +kernel

/-- The oldest hit of channel 1's list. -/
def oldest : HitRec := hitOf 0 .rowA .left 2990000

/-- The end of channel 1's hit at a list that holds 4, the oldest of them on a side of these candidates. -/
def crowding (cs : List Candidate) : State :=
  (gathering cs).setWaiting .rowA 0 [oldest, hitOf 0 .rowA .left 2991000, hitOf 0 .rowA .left 2992000,
    hitOf 0 .rowA .left 2993000]

/-- A candidate of the oldest hit and one of the right side. -/
def mixed : Candidate :=
  { id := 5, opened := 2999100, sides := [.waiting oldest, .waiting (hitOf 1 .rowA .right 2999040)] }

/-- The site with the oldest hit evicted and the new one not placed. -/
def evicting (cs : List Candidate) : State :=
  ((((crowding cs).sampled 0 199).pourBucket 0 9).countDiscard 0).withdraw (fun x => decide (x = oldest))

theorem test_witness_eviction :
    (∀ cs ∈ [[mixed], [oneSided 4 oldest]],
      newHit = deliveredHit (crowding cs) 0 0 (hitAcc 5) closingRun
        ∧ (crowding cs).waiting newHit.row newHit.pos = oldest :: ((crowding cs).waiting .rowA 0).drop 1
        ∧ (((crowding cs).waiting .rowA 0).drop 1).length = 3 ∧ limitsHold (crowding cs).former = true)
      ∧ Joins (evicting [mixed]) newHit.pos newHit.start 0 (withoutHit oldest mixed)
      ∧ Opens (evicting [oneSided 4 oldest]) newHit.pos newHit.start := by
  refine ⟨by decide +kernel, joins_of (by decide +kernel) (by decide +kernel) (by decide +kernel) ?_,
    opens_of (by decide +kernel) (by decide +kernel)⟩
  rintro v (rfl | rfl) <;> decide +kernel

/-- The model's choice of log 35: a straddle candidate of lane 1 that loses its first side, at position 1, while its other
side waits at position 2, in lane 2, stays held in lane 1. -/
theorem test_straddle_candidate_keeps_its_lane :
    let first := hitOf 1 .rowA .right 2999000
    let other := { hitOf 4 .rowA .left 2999010 with lane := 1 }
    let s := road.setCandidates 0 [{ id := 0, opened := 2999000, sides := [.waiting first, .waiting other] }]
    posLane first.pos = 0 ∧ posLane other.pos = 1
      ∧ (s.withdrawHits (fun h => decide (h = first))).former.candidates[(0 : LaneIx)]
          = [{ id := 0, opened := 2999000, sides := [.waiting other] }]
      ∧ (s.withdrawHits (fun h => decide (h = first))).former.candidates[(1 : LaneIx)] = [] := by decide +kernel

theorem test_witness_none_overdue : ∀ cs ∈ [[mixed], [oneSided 4 oldest]], NoneThenOverdue (crowding cs) oldest := by
  intro cs hcs k c hc ho x v hx hne hv
  have key : ∀ cs ∈ [[mixed], [oneSided 4 oldest]], ∀ k : LaneIx, ∀ c ∈ (crowding cs).former.candidates[k],
      ∀ x ∈ c.sides, x = .waiting oldest ∨ hasPassed x.start
        (((crowding cs).laneEntry k).rowSpacing * 16000 / 2999 + (crowding cs).prof.active.site.window)
        (crowding cs).now = false := by decide +kernel
  obtain h | h := key cs hcs k c hc x hx
  · exact absurd h hne
  · rw [← hv.start_eq]; exact h

/-- R62, R17, R72: the fifth hit evicts the oldest, whose channel counts a discard; the candidate keeps its other side,
which the new hit then joins, and a candidate without other side is gone. -/
theorem test_fifth_hit_evicts :
    let t := fun cs => (crowding cs).takeSample 0 199
    ((t [mixed]).waiting .rowA 0).map (fun y => y.start) = [2991000, 2992000, 2993000, 2999000]
      ∧ (t [mixed]).strip.channels[(0 : ChanIx)].discard = 1
      ∧ (t [mixed]).former.candidates[(0 : LaneIx)] =
          [{ mixed with sides := [.waiting (hitOf 1 .rowA .right 2999040), .waiting newHit] }]
      ∧ ((t [oneSided 4 oldest]).former.candidates[(0 : LaneIx)]).map (fun c => (c.id, c.sides)) = [(9, [.waiting newHit])] := by
  decide +kernel

theorem test_witness_leak :
    (State.reset.setNow 400).heldLow = false ∧ hasPassed (State.reset.setNow 400).strip.leakStart 400 400 = true
      ∧ (State.reset.setNow 400).now = 400 := by decide +kernel

theorem test_witness_rearm :
    Admitted .channelRearm .svc [25] road ∧ (25 : Byte).toNat = (24 : Nat) + 1 ∧ Admitted .channelRearm .cab [0] road
      ∧ Admitted .channelRearm .cab [24] road ∧ road.strip.channels[(23 : ChanIx)].state = .off
      ∧ Admitted .channelRearm .cab [1] deadEnding ∧ deadEnding.strip.channels[(0 : ChanIx)].state ≠ .off :=
  ⟨admitted_of_admits (by decide +kernel), by decide, admitted_of_admits (by decide +kernel),
    admitted_of_admits (by decide +kernel), by decide +kernel, admitted_of_admits (by decide +kernel), by decide +kernel⟩

/-! ### Witnesses: loops and lanes -/

/-- Lane 1's monitor. -/
def monitor : LaneMonitor :=
  startLaneMonitor false false

/-- The site with lane 1's monitor so. -/
def withLane (m : LaneMonitor) : State :=
  road.setLaneMon 0 m

/-- A change of loop D, begun 159 ticks ago. -/
def changingD (f : Filtered) (p : Presence) : State :=
  withLane { monitor with
    down := { high := true, filtered := f, change := some 2999841, stuckStart := none }, presence := p,
    uOnset := some 2998241 }

/-- A change is ready when it is pending and its span has passed. -/
theorem ready {s : State} {l : LaneIx} {d : LoopPos} {ct : Tick}
    (h : (s.loops[l].loop d).change = some ct ∧ s.spanPassed ct (rejectSpan l) = true) : ChangeReady s l d ct :=
  ⟨h.1, (spanPassed_iff ..).mp h.2⟩

/-- The site profile with every delay that a commit can shorten at its longest. -/
def slowerSet : Profile :=
  { siteProfile with
    site := { siteProfile.site with closeDelay := 2000, frameTimeout := 10 },
    lanes := siteProfile.lanes.set 0
      { siteProfile.lanes[(0 : LaneIx)] with rowSpacing := 6000, rejectMs := 100, stallS := 30 } }

/-- The same site at the tick at which a commit has replaced a set whose spans are longer. -/
def afterCommit (s : State) : State :=
  s.setProf { s.prof with replaced := some slowerSet }

theorem test_witness_loop_change :
    ChangeReady (changingD .free .idle) 0 .down 2999841 ∧ (changingD .free .idle).heldLow = false
      ∧ ((changingD .free .idle).loops[(0 : LaneIx)].loop .down).filtered ≠ .stuck
      ∧ (changingD .free .idle).loops[(0 : LaneIx)].presence = .idle
      ∧ ChangeReady (changingD .occupied .leaving) 0 .down 2999841
      ∧ ((changingD .occupied .leaving).loops[(0 : LaneIx)].loop .down).filtered ≠ .stuck
      ∧ ((afterCommit (changingD .free .idle)).loops[(0 : LaneIx)].loop .down).change = some 2999841
      ∧ BroughtForward (afterCommit (changingD .free .idle)) 2999841 (rejectSpan 0) :=
  ⟨ready (by decide +kernel), by decide +kernel, by decide +kernel, by decide +kernel, ready (by decide +kernel),
    by decide +kernel, by decide +kernel, ⟨slowerSet, by decide +kernel, by decide +kernel⟩⟩

/-- Loop U leaves lane 1 after 7,000 ticks, in a presence state, with an occupancy start or none, an open frame or the last
record's mean speed alone, and `n` frames seen in it. -/
def leavingU (p : Presence) (start : Option Tick) (frame : Bool) (n : Nat) : State :=
  let t := withLane { monitor with
    up := { high := false, filtered := .occupied, change := some 2999841, stuckStart := none }, presence := p,
    uView := true, uStart := start, frameCount := n }
  t.setAsm { t.asm with
    frames := t.asm.frames.set 0 (if frame then some (frameAt 2995000) else none),
    lastMean := t.asm.lastMean.set 0 (if frame then none else some 20000) }

theorem test_witness_occupancy_report :
    (∀ p ∈ [Presence.entering, .spanning], ∀ frame ∈ [true, false], ∀ n ∈ [1, 2],
      (leavingU p (some 2992841) frame n).heldLow = false
        ∧ ((leavingU p (some 2992841) frame n).loops[(0 : LaneIx)].loop .up).filtered = .occupied
        ∧ (leavingU p (some 2992841) frame n).loops[(0 : LaneIx)].uStart = some 2992841
        ∧ (leavingU p (some 2992841) frame n).loops[(0 : LaneIx)].presence = p
        ∧ ((leavingU p (some 2992841) frame n).loops[(0 : LaneIx)].loop .up).change = some 2999841
        ∧ (leavingU p (some 2992841) frame n).spanPassed 2999841 (rejectSpan 0) = true)
      ∧ ChangeReady (leavingU .reverse (some 2992841) true 1) 0 .up 2999841
      ∧ (leavingU .reverse (some 2992841) true 1).loops[(0 : LaneIx)].presence ≠ .entering
      ∧ (leavingU .reverse (some 2992841) true 1).loops[(0 : LaneIx)].presence ≠ .spanning
      ∧ ChangeReady (leavingU .entering none true 1) 0 .up 2999841 :=
  ⟨by decide +kernel, ready (by decide +kernel), by decide +kernel, by decide +kernel, ready (by decide +kernel)⟩

/-- Chapter 2's length of 1,550 cm reaches the open frame, or the lane alone without one, and a shared occupancy has none
(R32, R33, R114). -/
theorem test_occupancy_report :
    ((leavingU .entering (some 2992841) true 1).acceptChange 0 .up 2999841).loops[(0 : LaneIx)].lastLength = some 1550
      ∧ (((leavingU .entering (some 2992841) true 1).acceptChange 0 .up 2999841).asm.frames[(0 : LaneIx)]).map (·.length)
          = some (some 1550)
      ∧ ((leavingU .spanning (some 2992841) false 1).acceptChange 0 .up 2999841).loops[(0 : LaneIx)].lastLength = some 1550
      ∧ (((leavingU .spanning (some 2992841) true 2).acceptChange 0 .up 2999841).asm.frames[(0 : LaneIx)]).map
          (fun f => (f.shared, f.length)) = some (true, none) := by decide +kernel

theorem test_witness_loop_speed :
    ChangeReady (changingD .free .entering) 0 .down 2999841
      ∧ (changingD .free .entering).loops[(0 : LaneIx)].down.filtered = .free
      ∧ (changingD .free .entering).loops[(0 : LaneIx)].presence = .entering
      ∧ (changingD .free .entering).loops[(0 : LaneIx)].uOnset = some 2998241
      ∧ (changingD .free .entering).loops[(0 : LaneIx)].paired = false
      ∧ elapsed 2998241 2999841 = 1600
      ∧ ((changingD .free .entering).laneEntry 0).loopSpacing = 4000 :=
  ⟨ready (by decide +kernel), by decide +kernel⟩

/-- The same with U and D accepted with one change time. -/
def sameTick : State :=
  (changingD .free .entering).setLaneMon 0 { (changingD .free .entering).loops[(0 : LaneIx)] with uOnset := some 2999841 }

theorem test_witness_loop_speed_of_zero_ticks :
    ChangeReady sameTick 0 .down 2999841 ∧ sameTick.loops[(0 : LaneIx)].down.filtered = .free
      ∧ sameTick.loops[(0 : LaneIx)].presence = .entering ∧ sameTick.loops[(0 : LaneIx)].uOnset = some 2999841
      ∧ sameTick.loops[(0 : LaneIx)].paired = false ∧ elapsed 2999841 2999841 = 0 :=
  ⟨ready (by decide +kernel), by decide +kernel⟩

/-- Loop D of lane 1 accepted OCCUPIED 300 s ago. -/
def stuckAtD : State :=
  withLane { monitor with
    down := { high := true, filtered := .occupied, change := none, stuckStart := some 600000 }, presence := .leaving,
    dView := true }

theorem test_witness_stuck :
    stuckAtD.heldLow = false ∧ (stuckAtD.loops[(0 : LaneIx)].loop .down).stuckStart = some 600000
      ∧ hasPassed 600000 2400000 stuckAtD.now = true ∧ ChangeReady (changingD .stuck .idle) 0 .down 2999841
      ∧ ((changingD .stuck .idle).loops[(0 : LaneIx)].loop .down).filtered = .stuck :=
  ⟨by decide +kernel, by decide +kernel, by decide +kernel, ready (by decide +kernel), by decide +kernel⟩

/-- A lane whose loop speed, stall timer or clear timer is about to expire. -/
def timedLane (congested : Bool) : State :=
  withLane { monitor with
    speed := some (20000, 2920000), stallStart := some 2952000, clearStart := some 2984000, congested := congested }

theorem test_witness_lane_timers :
    (timedLane false).heldLow = false ∧ (timedLane false).loops[(0 : LaneIx)].speed = some (20000, 2920000)
      ∧ hasPassed 2920000 80000 (timedLane false).now = true
      ∧ (timedLane false).loops[(0 : LaneIx)].stallStart = some 2952000
      ∧ (timedLane false).loops[(0 : LaneIx)].congested = false ∧ (timedLane true).loops[(0 : LaneIx)].congested = true
      ∧ (timedLane true).loops[(0 : LaneIx)].stallStart = some 2952000
      ∧ (timedLane true).loops[(0 : LaneIx)].clearStart = some 2984000
      ∧ hasPassed 2984000 16000 (timedLane true).now = true
      ∧ SpanPassed (timedLane false) 2952000 (fun p => 8000 * p.lanes[(0 : LaneIx)].stallS)
      ∧ SpanPassed (timedLane true) 2952000 (fun p => 8000 * p.lanes[(0 : LaneIx)].stallS)
      ∧ BroughtForward (afterCommit (timedLane false)) 2952000 (fun p => 8000 * p.lanes[(0 : LaneIx)].stallS) :=
  ⟨by decide +kernel, by decide +kernel, by decide +kernel, by decide +kernel, by decide +kernel, by decide +kernel,
    by decide +kernel, by decide +kernel, by decide +kernel, (spanPassed_iff ..).mp (by decide +kernel),
    (spanPassed_iff ..).mp (by decide +kernel), ⟨slowerSet, by decide +kernel, by decide +kernel⟩⟩

/-- R34: a stall that a commit brings forward waits for the tick after it. -/
theorem test_stall_waits_a_tick :
    (afterCommit (timedLane false)).stallDue 0 = false ∧ (afterCommit (timedLane false)).tick.stallDue 0 = true := by
  decide +kernel

/-! ### Witnesses: temperature -/

/-- The site with a converter state and a pass list, its last pass start one period ago. -/
def scanning (conv : Option Conversion) (waiting : List ConvInput) : State :=
  road.setTemp { startTemp with conv := conv, passList := waiting, lastPass := some 2920000 }

theorem test_witness_pass_start :
    ∀ s ∈ [scanning none [], scanning none [.zref], scanning (some ⟨.probe 0, .slot, 2999900, false⟩) []],
      s.heldLow = false ∧ s.temp.lastPass = some 2920000
        ∧ hasPassed 2920000 (8000 * s.prof.active.site.scanPeriod) s.now = true := by decide +kernel

theorem test_witness_pass_cases :
    (scanning none [.zref]).temp.passInProgress = true ∧ (scanning none []).temp.passInProgress = false
      ∧ (scanning none []).temp.conv = none ∧ (scanning none []).temp.slot = none
      ∧ (scanning (some ⟨.probe 0, .slot, 2999900, false⟩) []).temp.passInProgress = false
      ∧ (scanning (some ⟨.probe 0, .slot, 2999900, false⟩) []).temp.conv ≠ none := by decide +kernel

/-- The zero reference's conversion ends now. -/
def zeroEnding : State :=
  scanning (some ⟨.zref, .scan, 2999840, false⟩) [.probe 0]

theorem test_witness_zero_reference :
    zeroEnding.heldLow = false ∧ zeroEnding.temp.conv = some ⟨.zref, .scan, 2999840, false⟩
      ∧ hasPassed 2999840 160 zeroEnding.now = true ∧ zeroEnding.temp.slot = none
      ∧ (64 : BitVec 12).toInt.natAbs ≤ 64 ∧ 64 < (65 : BitVec 12).toInt.natAbs
      ∧ 64 < (4031 : BitVec 12).toInt.natAbs := by decide +kernel

/-- Probe 0 so, its conversion ending now. -/
def probing (origin : ConvOrigin) (x : Probe) : State :=
  road.setTemp { startTemp with
    conv := some ⟨.probe 0, origin, 2999840, false⟩, probes := startTemp.probes.set 0 x, lastPass := some 2920001,
    slot := if origin = .slot then some { probe := 0, port := .svc, selected := true } else none }

theorem test_witness_warmup_result :
    ∀ n ∈ [0, 2, 3],
      let s := probing .scan { startProbe with state := .warmup, warm := n }
      s.heldLow = false ∧ s.temp.conv = some ⟨.probe 0, .scan, 2999840, false⟩ ∧ hasPassed 2999840 160 s.now = true
        ∧ s.temp.zeroFault = false ∧ s.temp.probes[(0 : ProbeIx)].state = .warmup
        ∧ s.temp.probes[(0 : ProbeIx)].warm = n
        ∧ 16 ≤ (16 : BitVec 12).toNat ∧ (16 : BitVec 12).toNat ≤ 4079
        ∧ 16 = (max 0 (min 4095 (((16 : BitVec 12).toNat : Int) - s.temp.offset))).toNat := by decide +kernel

theorem test_witness_valid_result :
    ∀ n ∈ [0, 1, 2], ∀ f ∈ [(744 : Int), 643],
      let s := probing .scan { startProbe with state := .valid, filtered := some f, spike := n }
      s.temp.conv = some ⟨.probe 0, .scan, 2999840, false⟩ ∧ s.temp.zeroFault = false
        ∧ s.temp.probes[(0 : ProbeIx)].state = .valid ∧ s.temp.probes[(0 : ProbeIx)].filtered = some f
        ∧ s.temp.probes[(0 : ProbeIx)].spike = n ∧ (4079 : BitVec 12).toNat ≤ 4079
        ∧ 4079 = (max 0 (min 4095 (((4079 : BitVec 12).toNat : Int) - s.temp.offset))).toNat
        ∧ (if f = 744 then (curveTemp s.prof.active.probes 0 4079 - f).natAbs ≤ 100
            else 100 < (curveTemp s.prof.active.probes 0 4079 - f).natAbs) := by decide +kernel

theorem test_witness_bad_result :
    ∀ x ∈ [({ startProbe with state := .warmup, warm := 3 } : Probe),
        { startProbe with state := .valid, filtered := some 200, badRun := 1 }, { startProbe with state := .fault }],
      let s := probing .scan x
      s.heldLow = false ∧ s.temp.conv = some ⟨.probe 0, .scan, 2999840, false⟩ ∧ hasPassed 2999840 160 s.now = true
        ∧ s.temp.zeroFault = false ∧ s.temp.probes[(0 : ProbeIx)] = x ∧ (15 : BitVec 12).toNat < 16
        ∧ 4079 < (4080 : BitVec 12).toNat
        ∧ 15 = (max 0 (min 4095 (((15 : BitVec 12).toNat : Int) - s.temp.offset))).toNat := by decide +kernel

/-- A code of 70 under an offset of 64 is bad by its corrected raw alone. -/
theorem test_witness_bad_by_the_offset :
    6 = (max 0 (min 4095 (((70 : BitVec 12).toNat : Int) - 64))).toNat ∧ 16 ≤ (70 : BitVec 12).toNat := by decide

/-- R52, R53: the second bad result makes the probe FAULT with PROBE_STATE, and a good one leads out of it. -/
theorem test_bad_results :
    let bad := ((probing .scan { startProbe with state := .valid, filtered := some 200, badRun := 1 }).takeProbeResult 0 15)
    bad.temp.probes[(0 : ProbeIx)].state = .fault
      ∧ (bad.port .cab).events[EventClass.probeState.index] = { count := 1, list := 1 }
      ∧ ((probing .scan { startProbe with state := .fault }).takeProbeResult 0 2000).temp.probes[(0 : ProbeIx)]
          = { startProbe with
              state := .warmup, warm := 1, lastRaw := some 2000, lastOutcome := some .warmup } := by decide +kernel

/-- Probe 0's scan conversion, voided by a commit, ends now. -/
def voidedEnding : State :=
  let s := probing .scan { startProbe with state := .warmup }
  s.setTemp { s.temp with conv := some ⟨.probe 0, .scan, 2999840, true⟩ }

theorem test_witness_voided_result :
    voidedEnding.heldLow = false ∧ voidedEnding.temp.conv = some ⟨.probe 0, .scan, 2999840, true⟩
      ∧ hasPassed 2999840 160 voidedEnding.now = true ∧ voidedEnding.temp.probes[(0 : ProbeIx)].state ≠ .absent := by
  decide +kernel

/-- R45, R55: the result of a probe disabled meanwhile and enabled again is discarded. -/
theorem test_voided_result :
    (voidedEnding.deliverResult ⟨.probe 0, .scan, 2999840, true⟩ 2000).temp.probes = voidedEnding.temp.probes := by
  decide +kernel

theorem test_witness_lane_temperatures :
    (probing .scan { startProbe with state := .fault }).temp.probes[(0 : ProbeIx)].state ≠ .absent
      ∧ (probing .scan { startProbe with state := .fault }).temp.zeroFault = false
      ∧ hasPassed 2999840 160 (probing .scan { startProbe with state := .fault }).now = true
      ∧ ((probing .scan { startProbe with state := .fault }).setTemp
          { (probing .scan { startProbe with state := .fault }).temp with zeroFault := true }).temp.zeroFault = true := by
  decide +kernel

/-- Lane 1 HELD for 1,800 s. -/
def heldLane : State :=
  road.setTemp { startTemp with
    lanes := startTemp.lanes.set 0
      { status := .held, temp := some 205, source := .none, holdAge := 1800, holdTicks := 0 } }

theorem test_witness_stale :
    heldLane.heldLow = false ∧ heldLane.temp.lanes[(0 : LaneIx)].status = .held
      ∧ 1800 ≤ heldLane.temp.lanes[(0 : LaneIx)].holdAge := by decide +kernel

/-- The site with the slot so and the converter so. -/
def slotSite (full converting : Bool) : State :=
  road.setTemp { startTemp with
    slot := if full then some { probe := 0, port := .svc, selected := false } else none,
    conv := if converting then some ⟨.zref, .scan, 2999900, false⟩ else none }

theorem test_witness_probe_now :
    Admitted .probeNow .cab [8] road ∧ Admitted .probeNow .cab [7] road
      ∧ road.prof.active.probes.entries[(7 : ProbeIx)].enabled = false
      ∧ road.prof.active.probes.entries[(0 : ProbeIx)].enabled = true
      ∧ Admitted .probeNow .cab [0] (slotSite true true) ∧ (slotSite true true).temp.slot ≠ none
      ∧ Admitted .probeNow .cab [0] (slotSite false true) ∧ (slotSite false true).temp.conv ≠ none
      ∧ Admitted .probeNow .cab [0] (slotSite false false) ∧ (slotSite false false).temp.conv = none :=
  ⟨admitted_of_admits (by decide +kernel), admitted_of_admits (by decide +kernel), by decide +kernel, by decide +kernel,
    admitted_of_admits (by decide +kernel), by decide +kernel, admitted_of_admits (by decide +kernel), by decide +kernel,
    admitted_of_admits (by decide +kernel), by decide +kernel⟩

/-- The site with its slot empty, and these commands waiting. -/
def awaiting (cs : List Instr) : State :=
  (slotSite false false).setPending cs

/-- The cabinet link's receiver awaits the last byte of a PROBE_NOW for probe `n`, TAG 7; and that byte. -/
def probeFrame (n : Byte) : RxState × Byte :=
  let crc := (crc16 (leBytes 2 1 ++ [(0x0E : Byte), 7] ++ [n])).toNat
  (.check 1 0x0E 7 [n] (some (BitVec.ofNat 8 crc)), BitVec.ofNat 8 (crc / 256))

/-- The site whose cabinet link is at the end of a PROBE_NOW for probe `n`, that byte waiting. -/
def byteAwaited (n : Byte) : State :=
  (awaiting [.bucketLeak, .rxByte .cab (probeFrame n).2]).setPort .cab { startPort .cab with rx := (probeFrame n).1 }

/-- R48: with a PROBE_NOW of the cabinet link's at the same moment the service port's is refused BUSY, and the slot stays
empty for it; not so where the cabinet link's names a disabled probe, or where another request or the end of a write parts the
moments. -/
theorem test_probe_now_together :
    (∀ s ∈ [awaiting [.bucketLeak, .probeNow .cab 7 [0]], byteAwaited 0],
      let t := s.takeRequest .probeNow .svc 3 [0] (probeNowOwner .svc [0])
      t.temp.slot = none ∧ (t.port .svc).replies = [refusalReply 0x0E 3 .busy 0 0] ∧ (t.port .svc).deferred = none)
      ∧ ∀ s ∈ [awaiting [.probeNow .cab 7 [7]], byteAwaited 7, awaiting [.probeNow .svc 7 [0]],
          awaiting [.imageWriteComplete true, .probeNow .cab 7 [0]], awaiting [.ident .cab 1 [], .probeNow .cab 7 [0]]],
        let t := s.takeRequest .probeNow .svc 3 [0] (probeNowOwner .svc [0])
        t.temp.slot = some { probe := 0, port := .svc, selected := true } ∧ (t.port .svc).replies = [] := by
  decide +kernel

theorem apart_bucketLeak : ¬ TellsApart .bucketLeak := (keepsMoment_iff _).mp rfl

theorem test_witness_probe_now_together :
    Admitted .probeNow .svc [0] (awaiting [.bucketLeak, .probeNow .cab 7 [0]])
      ∧ Admitted .probeNow .cab [0] (awaiting [.bucketLeak, .probeNow .cab 7 [0]])
      ∧ BringsToCabinet .probeNow [0] (awaiting [.bucketLeak, .probeNow .cab 7 [0]]) (.probeNow .cab 7 [0])
      ∧ TellsApart (.probeNow .cab 7 [0])
      ∧ (awaiting [.bucketLeak, .probeNow .cab 7 [0]]).yields .svc .probeNow
          (awaiting [.bucketLeak, .probeNow .cab 7 [0]]).namesEnabledProbe = true
      ∧ BringsToCabinet .probeNow [7] (byteAwaited 7) (.rxByte .cab (probeFrame 7).2)
      ∧ Admitted .probeNow .cab [7] (byteAwaited 7)
      ∧ (∀ c ∈ (awaiting [.bucketLeak]).pending, ¬ TellsApart c)
      ∧ (awaiting [.bucketLeak]).yields .svc .probeNow (awaiting [.bucketLeak]).namesEnabledProbe = false
      ∧ (awaiting []).temp.slot = none ∧ ∃ t, exec .bucketLeak (awaiting []) = .next t :=
  ⟨admitted_of_admits (by decide +kernel), admitted_of_admits (by decide +kernel), .inl ⟨7, rfl⟩,
    .inl ⟨.probeNow, _, _, _, rfl⟩, by decide +kernel,
    .inr ⟨(probeFrame 7).2, BitVec.ofNat 8 (crc16 (leBytes 2 1 ++ [(0x0E : Byte), 7] ++ [7])).toNat, 7, 1, rfl,
        by decide +kernel, by decide +kernel⟩,
    admitted_of_admits (by decide +kernel), by simpa [awaiting] using apart_bucketLeak, by decide +kernel, by decide +kernel,
    ⟨_, rfl⟩⟩

/-- The slot's conversion for the service port ends now. -/
def slotEnding : State :=
  (probing .slot { startProbe with state := .warmup }).setPort .svc
    { startPort .svc with deferred := some { kind := .probeNow, tag := 9 } }

theorem test_witness_probe_now_answer :
    slotEnding.heldLow = false ∧ slotEnding.temp.conv = some ⟨.probe 0, .slot, 2999840, false⟩
      ∧ hasPassed 2999840 160 slotEnding.now = true
      ∧ slotEnding.temp.slot = some { probe := 0, port := .svc, selected := true }
      ∧ slotEnding.temp.probes[(0 : ProbeIx)].state ≠ .absent ∧ slotEnding.temp.zeroFault = false
      ∧ (slotEnding.port .svc).deferred = some { kind := .probeNow, tag := 9 } := by decide +kernel

/-- The same site after its request has been dropped, or while another one waits in the slot. -/
theorem test_witness_dropped_request :
    ∀ x ∈ [none, some { probe := (0 : ProbeIx), port := Port.cab, selected := false }],
      let s := slotEnding.setTemp { slotEnding.temp with slot := x }
      s.heldLow = false ∧ s.temp.conv = some ⟨.probe 0, .slot, 2999840, false⟩ ∧ hasPassed 2999840 160 s.now = true
        ∧ ∀ r, s.temp.slot = some r → r.selected = false := by
  intro x hx
  refine ⟨by rfl, by rfl, show hasPassed 2999840 160 slotEnding.now = true by decide +kernel, fun r hr => ?_⟩
  obtain rfl | rfl : x = none ∨ x = some { probe := 0, port := .cab, selected := false } := by simpa using hx
  · cases hr
  · cases hr
    rfl

/-! ### Witnesses: wheels, axles and loads -/

/-- A leading hit of channel 1 that has waited Δmax and one tick. -/
def oldHit : HitRec :=
  hitOf 0 .rowA .left 2983994

/-- The site with that hit waiting in its list and its candidate. -/
def oldHitSite : State :=
  road.setFormer { startFormer with
    waitA := startFormer.waitA.set 0 [oldHit],
    candidates := startFormer.candidates.set 0 [{ id := 0, opened := 2984020, sides := [.waiting oldHit] }], nextId := 1 }

theorem test_witness_leading_expiry :
    oldHitSite.heldLow = false ∧ oldHitSite.waiting .rowA 0 = oldHit :: [] ∧ oldHit ∉ ([] : List HitRec)
      ∧ SpanPassed oldHitSite oldHit.start (fun p => p.lanes[posLane 0].rowSpacing * 16000 / 2999 + 1)
      ∧ (afterCommit oldHitSite).waiting .rowA 0 = oldHit :: []
      ∧ BroughtForward (afterCommit oldHitSite) oldHit.start (fun p => p.lanes[posLane 0].rowSpacing * 16000 / 2999 + 1) :=
  ⟨by decide +kernel, by decide +kernel, by decide +kernel, (spanPassed_iff ..).mp (by decide +kernel), by decide +kernel,
    ⟨slowerSet, by decide +kernel, by decide +kernel⟩⟩

/-- The same hit at its candidate's deadline. -/
def deadlineHit : HitRec :=
  hitOf 0 .rowA .left 2983955

/-- The candidate whose deadline it is, its side waiting. -/
def loneCandidate : Candidate :=
  { id := 0, opened := 2983980, sides := [.waiting deadlineHit] }

/-- A hit of row B that led while the lane ran backward. -/
def reverseHit : HitRec :=
  hitOf 2 .rowB .left 2990000

/-- Lane 1 with that candidate, one that waits for the reverse hit and one that waits for a later hit of row A; channel 3
NORMAL with so many misses. -/
def loneSite (miss : Nat) : State :=
  (road.setFormer { startFormer with
    waitA := startFormer.waitA.set 0 [deadlineHit, hitOf 0 .rowA .left 2995000],
    waitB := startFormer.waitB.set 0 [reverseHit],
    candidates := startFormer.candidates.set 0
      [oneSided 1 reverseHit, loneCandidate, oneSided 2 (hitOf 0 .rowA .left 2995000)],
    nextId := 3 }).setChannel 2 { channel .normal .quiet with miss := miss }

theorem test_witness_lone_candidate :
    ∀ m ∈ [30, 31],
      (loneSite m).heldLow = false ∧ (loneSite m).laneActive 0 = true ∧ (loneSite m).asm.frames[(0 : LaneIx)] = none
      ∧ (loneSite m).former.candidates[(0 : LaneIx)]
          = [oneSided 1 reverseHit] ++ loneCandidate :: [oneSided 2 (hitOf 0 .rowA .left 2995000)]
      ∧ (∀ c' ∈ [oneSided 1 reverseHit] ++ [oneSided 2 (hitOf 0 .rowA .left 2995000)], c'.id ≠ loneCandidate.id
        ∧ hasPassed c'.firstStart (((loneSite m).laneEntry 0).rowSpacing * 16000 / 2999
            + (loneSite m).prof.active.site.window) (loneSite m).now = false
        ∧ ¬ (0 < elapsed c'.firstStart deadlineHit.start ∧ elapsed c'.firstStart deadlineHit.start < 2 ^ 31))
      ∧ (∀ k : LaneIx, k ≠ 0 → (loneSite m).former.candidates[k] = []) ∧ loneCandidate.sides = [.waiting deadlineHit]
      ∧ deadlineHit.lane = 0 ∧ deadlineHit.row = .rowA
      ∧ hasPassed deadlineHit.start (((loneSite m).laneEntry 0).rowSpacing * 16000 / 2999
          + (loneSite m).prof.active.site.window) (loneSite m).now = true
      ∧ CountsMisses (loneSite m).strip.channels[(2 : ChanIx)] ∧ (loneSite m).strip.channels[(2 : ChanIx)].miss = m := by
  decide +kernel

theorem test_witness_lone_candidate_others (m : Nat) :
    (∀ (k : LaneIx) (c' : Candidate), c' ∈ (loneSite m).former.candidates[k] → ∀ b,
        MappedAt (loneSite m) .rowB deadlineHit.pos b → LosesAllOrNone b c')
      ∧ OnlyMappedAt (loneSite m) .rowB deadlineHit.pos 2 := by
  refine ⟨fun k c' hc b _ => .inl ?_, (road_row_B 2).mpr rfl, fun k h => (road_row_B k).mp h⟩
  have : ∀ k : LaneIx, ∀ c' ∈ (loneSite 0).former.candidates[k],
      c' ∈ [oneSided 1 reverseHit, loneCandidate, oneSided 2 (hitOf 0 .rowA .left 2995000)] := by decide +kernel
  have h : c' ∈ [oneSided 1 reverseHit, loneCandidate, oneSided 2 (hitOf 0 .rowA .left 2995000)] := this k c' hc
  simp only [List.mem_cons, List.not_mem_nil, or_false] at h
  rcases h with rfl | rfl | rfl <;> exact ⟨_, rfl⟩

/-- R15, R16, R75: the 31st miss counts, the 32nd makes channel 3 DEAD with CHANNEL_STATE and withdraws its waiting hit. -/
theorem test_notice_of_a_completed_axle :
    let t := fun m => (loneSite m).completeIds [0]
    ((t 30).strip.channels[(2 : ChanIx)].miss, (t 30).strip.channels[(2 : ChanIx)].state) = (31, .normal)
      ∧ ((t 31).strip.channels[(2 : ChanIx)].miss, (t 31).strip.channels[(2 : ChanIx)].state) = (32, .dead)
      ∧ ((t 30).former.candidates[(0 : LaneIx)]).map (fun c => c.id) = [1, 2]
      ∧ ((t 31).former.candidates[(0 : LaneIx)]).map (fun c => c.id) = [2]
      ∧ (t 31).waiting .rowB 0 = [] ∧ (t 31).ports.svc.events[EventClass.channelState.index] = { count := 1, list := 4 }
      ∧ (t 30).ports = (loneSite 30).ports := by decide +kernel

/-- The site with lane 2 enabled too, a frame in each lane or none, lane 2's presence so, and lane 2's last axle at a
tick. -/
def straddling (frame1 frame2 : Option Tick) (p : Presence) (closed : Bool) (w : Wheel) : State :=
  let q : Profile := { siteProfile with
    site := { siteProfile.site with laneCount := 2 }, lanes := siteProfile.lanes.set 1 { defaultLane 1 with enabled := true } }
  let s := ((road.setProf { road.prof with active := q }).setFrame 0 (frame1.map frameAt)).setFrame 1 (frame2.map frameAt)
  ((s.setLaneMon 1 { startLaneMonitor false false with presence := p }).setSite
    { s.site with closed := s.site.closed.set 1 closed }).setFormer { startFormer with
      candidates := startFormer.candidates.set 0
        [{ id := 0, opened := 2984000, sides := [.formed (trailingWheel (hitOf 3 .rowB .right 2983955)), .formed w] }],
      nextId := 1 }

/-- The wheel on the left of lane 2, with both hits or with a trailing hit alone. -/
def farWheel (speed : Option Nat) : Wheel :=
  { pos := 2, lead := speed.map (fun _ => { hitOf 11 .rowA .left 2983960 with lane := 1 }),
    trail := some { hitOf 12 .rowB .left 2985160 with lane := 1 }, speed := speed, reverse := false }

theorem test_witness_straddle (f1 f2 : Option Tick) (p : Presence) (closed : Bool) (w : Wheel) :
    (straddling f1 f2 p closed w).heldLow = false
      ∧ (straddling f1 f2 p closed w).former.candidates[(0 : LaneIx)]
          = [{ id := 0, opened := 2984000,
               sides := [.formed (trailingWheel (hitOf 3 .rowB .right 2983955)), .formed w] }]
      ∧ (straddling f1 f2 p closed w).former.candidates[(1 : LaneIx)] = []
      ∧ hasPassed 2983955 (((straddling f1 f2 p closed w).laneEntry 0).rowSpacing * 16000 / 2999
          + (straddling f1 f2 p closed w).prof.active.site.window) (straddling f1 f2 p closed w).now = true :=
  ⟨rfl, rfl, rfl, show hasPassed 2983955 ((defaultLane 0).rowSpacing * 16000 / 2999 + defaultSite.window) 3000000 = true
    by decide +kernel⟩

theorem test_witness_straddle_wheels :
    (∀ v ∈ [some 20000, none], (farWheel v).pos.val = (trailingWheel (hitOf 3 .rowB .right 2983955)).pos.val + 1
        ∧ posLane (farWheel v).pos = 1 ∧ (farWheel v).trail ≠ none)
      ∧ elapsed 2983955 2983960 < 2 ^ 31 ∧ elapsed 2983955 2985160 < 2 ^ 31
      ∧ posLane (trailingWheel (hitOf 3 .rowB .right 2983955)).pos = 0
      ∧ (trailingWheel (hitOf 3 .rowB .right 2983955)).lead = none := by decide +kernel

theorem test_witness_straddle_lane (s : State) (v : Option Nat) :
    AssignedTo s 0 1 2983955 v (s.assignStraddle 0 1 2983955 v) := assignedTo_assignStraddle _ _ _ _ _

theorem test_witness_straddle_starts :
    StartsAt (.formed (trailingWheel (hitOf 3 .rowB .right 2983955))) 2983955
      ∧ StartsAt (.formed (farWheel (some 20000))) 2983960 ∧ StartsAt (.formed (farWheel none)) 2985160 := ⟨rfl, rfl, rfl⟩

/-- R73, R74: a frame's continuation, the later of two, presence, and the default assign the axle; it is late behind a later
axle, and discarded in a closed lane. -/
theorem test_straddle_axle :
    let done := fun f1 f2 p closed => (straddling f1 f2 p closed (farWheel (some 20000))).completeIds [0]
    let counts := fun t : State => ((t.asm.frames[(0 : LaneIx)]).map (fun f => f.axles.length),
      (t.asm.frames[(1 : LaneIx)]).map (fun f => f.axles.length), t.former.late[(1 : LaneIx)])
    counts (done none none .idle false) = (some 1, none, 0)
      ∧ counts (done none none .entering false) = (none, some 1, 0)
      ∧ counts (done (some 2970000) none .entering false) = (some 1, some 1, 0)
      ∧ counts (done none (some 2983956) .entering false) = (none, some 1, 1)
      ∧ counts (done none none .entering true) = (none, none, 0)
      ∧ (straddling (some 2983000) (some 2983001) .idle false (farWheel none)).assignStraddle 0 1 2983955 (some 20000) = 1
      ∧ (straddling (some 2983000) (some 2983000) .idle false (farWheel none)).assignStraddle 0 1 2983955 (some 20000) = 0
      ∧ (straddling none (some 2983000) .idle false (farWheel none)).assignStraddle 0 1 2983955 none = 1 := by
  decide +kernel

/-- Two hits of row A waiting on the left; the second pairs with a hit of row B 2,200 ticks after it, the first is too
old. -/
def leadHit (t : Tick) : HitRec := hitOf 0 .rowA .left t

/-- The trailing hit. -/
def trailHit : HitRec := hitOf 2 .rowB .left 2999980

/-- The full wheel of the right side, at 20,000 mm/s. -/
def rightWheel : Wheel :=
  { pos := 1, lead := some (hitOf 1 .rowA .right 2998785), trail := some (hitOf 3 .rowB .right 2999985),
    speed := some 20000, reverse := false }

/-- Candidate 3 of lane 1 with these sides, between two that wait for the other hits of the list. -/
def pairing (sides : List Side) : State :=
  road.setFormer { startFormer with
    waitA := startFormer.waitA.set 0 [leadHit 2999700, leadHit 2998780, leadHit 2999970],
    candidates := startFormer.candidates.set 0
      [oneSided 5 (leadHit 2999700), { id := 3, opened := 2998800, sides := sides }, oneSided 6 (leadHit 2999970)],
    nextId := 7 }

/-- A hit of the right side that still waits. -/
def rightHit : HitRec := hitOf 1 .rowA .right 2998785

theorem test_witness_trailing_hit :
    ∀ sides ∈ [[Side.waiting (leadHit 2998780)], [.waiting (leadHit 2998780), .waiting rightHit],
        [.formed (trailingWheel (hitOf 3 .rowB .right 2998790)), .waiting (leadHit 2998780)],
        [.waiting (leadHit 2998780), .formed rightWheel], [.formed rightWheel, .waiting (leadHit 2998780)]],
      let s := pairing sides
      let c : Candidate := { id := 3, opened := 2998800, sides := sides }
      s.loops[posLane trailHit.pos].presence ≠ .reverse ∧ trailHit.row = .rowB
        ∧ (leadHit 2998780).row = .rowA ∧ (leadHit 2998780).pos = trailHit.pos
        ∧ s.waiting .rowA trailHit.pos = [leadHit 2999700] ++ leadHit 2998780 :: [leadHit 2999970]
        ∧ leadHit 2998780 ∉ [leadHit 2999700] ∧ leadHit 2998780 ∉ [leadHit 2999970]
        ∧ s.former.candidates[(0 : LaneIx)] = [oneSided 5 (leadHit 2999700)] ++ c :: [oneSided 6 (leadHit 2999970)]
        ∧ (∀ k : LaneIx, ∀ c' ∈ s.former.candidates[k], Side.waiting (leadHit 2998780) ∈ c'.sides → k = 0 ∧ c' = c)
        ∧ (∀ c' ∈ [oneSided 5 (leadHit 2999700)] ++ [oneSided 6 (leadHit 2999970)], c'.id ≠ c.id
          ∧ ¬ (0 < elapsed c'.firstStart c.firstStart ∧ elapsed c'.firstStart c.firstStart < 2 ^ 31))
        ∧ (∀ k : LaneIx, k ≠ 0 → s.former.candidates[k] = [])
        ∧ s.laneActive (posLane trailHit.pos) = true ∧ s.asm.frames[posLane trailHit.pos] = none := by decide +kernel

theorem test_witness_other_side :
    ∀ y ∈ [Side.waiting rightHit, .formed (trailingWheel (hitOf 3 .rowB .right 2998790))],
      y ≠ .waiting (leadHit 2998780) ∧ ¬ FullSide y := by
  simp [FullSide, FullWheel, trailingWheel, rightHit, leadHit, hitOf]

theorem test_witness_trailing_speeds :
    PairsAt (road.laneEntry (posLane trailHit.pos)).rowSpacing (leadHit 2998780) trailHit 20000
      ∧ ∀ x ∈ [leadHit 2999700], ∀ u, ¬ PairsAt (road.laneEntry (posLane trailHit.pos)).rowSpacing x trailHit u := by
  refine ⟨by unfold PairsAt; decide +kernel, ?_⟩
  intro x hx u h
  cases List.mem_singleton.mp hx
  obtain ⟨-, -, hv, -, hu⟩ := h
  have : u = 85714 := hv.trans (by decide +kernel)
  omega

theorem test_witness_full_wheel :
    rightWheel.lead ≠ none ∧ rightWheel.trail ≠ none ∧ rightWheel.speed = some 20000 ∧ rightWheel.reverse = false
      ∧ posLane rightWheel.pos = posLane trailHit.pos := by decide +kernel

/-- The two outcomes of R64 and R69 on these sites. -/
theorem test_trailing_hit_pairs :
    ((pairing [.waiting (leadHit 2998780)]).hitArrival trailHit).waiting .rowA 0 = [leadHit 2999700, leadHit 2999970]
      ∧ (((pairing [.waiting (leadHit 2998780), .waiting rightHit]).hitArrival trailHit).former.candidates[(0 : LaneIx)]).map
          (fun c => (c.id, c.sides.map (fun x => match x with
            | .waiting _ => 0
            | .formed w => w.speed.getD 1))) = [(5, [0]), (3, [20000, 0]), (6, [0])]
      ∧ (((pairing [.formed rightWheel, .waiting (leadHit 2998780)]).hitArrival trailHit).asm.frames[(0 : LaneIx)]).map
          (fun f => f.axles.map (fun a => (a.axle.time, a.axle.speed))) = some [(2998780, some 20000)] := by decide +kernel

/-- R96, R98, R101: the axle is ONE_ROW where one channel of a wheel is DEGRADED beside a NORMAL one (chapter 5's worked
case), and not where both are NORMAL or both DEGRADED. -/
theorem test_usable_rows_mark :
    ([[], [0], [0, 2], [3]] : List (List ChanIx)).map (fun cs =>
      let s := cs.foldl (fun u c => u.setChannel c { channel .degraded .quiet with bucket := 9 })
        (pairing [.formed rightWheel, .waiting (leadHit 2998780)])
      ((s.hitArrival trailHit).asm.frames[(0 : LaneIx)]).map (fun f =>
        f.axles.map (fun a => hasFlag a.axle.flags .oneRow)))
      = [some [false], some [true], some [false], some [true]] := by decide +kernel

/-- Channel 3 of row B ends a hit. -/
def trailingEnding : State :=
  road.setChannel 2 (channel .normal (.ending (hitAcc 5) closingRun))

theorem test_witness_trailing_delivery : Delivers trailingEnding 2 199 0 (hitAcc 5) closingRun where
  runs := rfl
  detects := ⟨0, ⟨.inl rfl, rfl⟩, show deviationOf 0 199 < (((road.stripEntry 2).trigger / 2 : Nat) : Int) by decide +kernel⟩
  alive := show ChanState.normal ≠ .dead by decide
  detector := rfl
  run := rfl
  lane := show (road.stripEntry 2).lane = some 0 by decide +kernel
  active := show road.laneActive 0 = true by decide +kernel

/-- The axle former with a hit of row A too near the trailing hit to pair with it, its candidate, and one on the right that
starts so. -/
def unpairedFormer (right : Tick) : AxleFormer :=
  { startFormer with
    waitA := (startFormer.waitA.set 0 [leadHit 2999700]).set 1 [hitOf 1 .rowA .right right],
    candidates := startFormer.candidates.set 0 [oneSided 5 (leadHit 2999700), oneSided 6 (hitOf 1 .rowA .right right)],
    nextId := 7 }

/-- Lane 1 with it, and channel 1 NORMAL with so many misses. -/
def unpaired (right : Tick) (miss : Nat) : State :=
  (road.setFormer (unpairedFormer right)).setChannel 0 { channel .normal .quiet with miss := miss }

theorem unpaired_limits (miss : Nat) : FormerLimits (unpaired 2999940 miss) ∧ FormerLimits (unpaired 2999939 miss) :=
  ⟨limits_of (show limitsHold (unpairedFormer 2999940) = true by decide +kernel),
    limits_of (show limitsHold (unpairedFormer 2999939) = true by decide +kernel)⟩

/-- Row A of the left position is channel 1's. -/
theorem road_row_A : ∀ k : ChanIx, (siteProfile.strips[k].lane = some (posLane 0) ∧ siteProfile.strips[k].side = posSide 0
    ∧ siteProfile.strips[k].row = .rowA) ↔ k = 0 := by decide +kernel

theorem test_witness_trailing_alone (miss : Nat) :
    (unpaired 2999939 miss).loops[posLane trailHit.pos].presence ≠ .reverse
      ∧ (unpaired 2999939 miss).waiting .rowA trailHit.pos = [leadHit 2999700]
      ∧ (unpaired 2999940 miss).waiting .rowA trailHit.pos = [leadHit 2999700]
      ∧ CountsMisses (unpaired 2999939 miss).strip.channels[(0 : ChanIx)]
      ∧ (unpaired 2999939 miss).strip.channels[(0 : ChanIx)].miss = miss
      ∧ (unpaired 2999940 miss).former.candidates[(0 : LaneIx)]
          = [oneSided 5 (leadHit 2999700)] ++ oneSided 6 (hitOf 1 .rowA .right 2999940) :: []
      ∧ (unpaired 2999939 miss).former.candidates[posLane trailHit.pos].length < 4 :=
  ⟨show road.loops[(0 : LaneIx)].presence ≠ .reverse by decide +kernel, rfl, rfl, .inl rfl, rfl, rfl,
    show (unpairedFormer 2999939).candidates[(0 : LaneIx)].length < 4 by decide +kernel⟩

theorem test_witness_trailing_channel (miss : Nat) : OnlyMappedAt (unpaired 2999939 miss) .rowA trailHit.pos 0 := by
  rw [show trailHit.pos = 0 from by decide]
  exact ⟨(road_row_A 0).mpr rfl, fun k h => (road_row_A k).mp h⟩

theorem test_witness_trailing_joins :
    Joins (unpaired 2999940 30) trailHit.pos trailHit.start 0 (oneSided 6 (hitOf 1 .rowA .right 2999940))
      ∧ Opens (unpaired 2999939 30) trailHit.pos trailHit.start := by
  refine ⟨joins_of (by decide +kernel) (by decide +kernel) (by decide +kernel) ?_,
    opens_of (by decide +kernel) (by decide +kernel)⟩
  rintro v (rfl | rfl) <;> decide +kernel

theorem test_witness_trailing_kills (k : LaneIx) (c : Candidate) (h : c ∈ (unpaired 2999939 31).former.candidates[k]) :
    LosesAllOrNone 0 c
      ∧ ((∃ y, c.sides = [.waiting y] ∧ y.channel = 0) ∨ ∀ d, ¬ Eligible (unpaired 2999939 31) c trailHit.pos trailHit.start d) := by
  have key : ∀ k : LaneIx, ∀ c ∈ (unpaired 2999939 31).former.candidates[k],
      c ∈ [oneSided 5 (leadHit 2999700), oneSided 6 (hitOf 1 .rowA .right 2999939)]
        ∧ c.eligible trailHit.pos trailHit.start (unpaired 2999939 31).prof.active.site.window = false := by decide +kernel
  obtain ⟨hm, he⟩ := key k c h
  refine ⟨.inl ?_, .inr fun d hd => absurd (hd.eligible.1.symm.trans he) (by decide)⟩
  simp only [List.mem_cons, List.not_mem_nil, or_false] at hm
  rcases hm with rfl | rfl <;> exact ⟨_, rfl⟩

/-- R65, R67: the row-B-only wheel joins at the edge of the window and opens beyond it; the 32nd notice makes channel 1 DEAD
and takes its waiting hit's candidate away. -/
theorem test_trailing_hit_alone :
    let t := fun u m => (unpaired u m).hitArrival trailHit
    ((t 2999940 30).former.candidates[(0 : LaneIx)]).map (fun c => (c.id, c.sides.length)) = [(5, 1), (6, 2)]
      ∧ (t 2999940 30).strip.channels[(0 : ChanIx)].miss = 31
      ∧ ((t 2999939 31).former.candidates[(0 : LaneIx)]).map (fun c => (c.id, c.sides.length)) = [(6, 1), (7, 1)]
      ∧ (t 2999939 31).strip.channels[(0 : ChanIx)].state = .dead ∧ (t 2999939 31).waiting .rowA 0 = [] := by
  decide +kernel

theorem test_witness_interpolation :
    [((-200 : Int), (1180 : Int)), (-100, 1130)].Pairwise (fun a b => a.1 < b.1)
      ∧ [((-200 : Int), (1180 : Int)), (-100, 1130)] = [] ++ (-200, 1180) :: (-100, 1130) :: [] ∧ (0 : Nat) < 100 := by
  decide

theorem test_witness_load_stages :
    0 < 20 ∧ 66975748 ≤ 66975748 ∧ 60000 ≤ 60000 ∧ 4294967295 ≤ 4294967295 ∧ 65535 ≤ 65535 ∧ 18006 ≤ 18006
      ∧ 512 ≤ 512 ∧ 512 ≤ 2047 ∧ 3686 ≤ 3686 ∧ 3686 ≤ 4506 := by
  decide

/-- A wheel with two hits whose channels stand so. -/
def wheelOf (a b : ChanState) : AxleWheel :=
  { pos := 0, lead := some { hit := hitOf 0 .rowA .left 1000, state := a },
    trail := some { hit := hitOf 2 .rowB .left 2200, state := b }, speed := some 20000, load := none, flags := 0 }

theorem test_witness_two_rows :
    (usableHits (wheelOf .normal .normal).hits).1
        = [{ hit := hitOf 0 .rowA .left 1000, state := .normal }, { hit := hitOf 2 .rowB .left 2200, state := .normal }]
      ∧ (usableHits (wheelOf .degraded .degraded).hits).1.length = 2 := by decide +kernel

theorem test_witness_usable_rows :
    (usableHits (wheelOf .degraded .normal).hits).1 = [{ hit := hitOf 2 .rowB .left 2200, state := .normal }]
      ∧ (∃ h ∈ (wheelOf .degraded .normal).hits, h.state = .normal)
      ∧ (∀ h ∈ (wheelOf .degraded .dead).hits, h.state ≠ .normal)
      ∧ (∃ h ∈ (wheelOf .degraded .dead).hits, h.state = .degraded)
      ∧ wheelOf .degraded .dead ∈ ({ axleAt 1000 with wheels := [wheelOf .degraded .dead] } : AxleRec).wheels
      ∧ hasFlag (wheelOf .degraded .normal).flags .rowSplit = false
      ∧ (∀ h ∈ (wheelOf .dead .settling).hits, h.state ≠ .normal ∧ h.state ≠ .degraded)
      ∧ ({ axleAt 1000 with wheels := [wheelOf .dead .settling] } : AxleRec).speed = some 20000
      ∧ wheelOf .dead .settling ∈ ({ axleAt 1000 with wheels := [wheelOf .dead .settling] } : AxleRec).wheels := by
  decide +kernel

/-- An axle entry with a load. -/
def entryOf (load : Option Nat) : AxleEntry :=
  { speed := none, load := load, left := none, right := none, spacing := none, tempUsed := 200, flags := 0 }

theorem test_witness_gross :
    (∃ a ∈ [entryOf (some 9571), entryOf none], a.load = none)
      ∧ (∀ a ∈ [entryOf (some 9571), entryOf (some 11420)], a.load ≠ none)
      ∧ grossOf [entryOf (some 9571), entryOf (some 11420)] = some 20991
      ∧ (∀ a ∈ List.replicate 15 (entryOf (some 65535)), ∀ x, a.load = some x → x ≤ 65535)
      ∧ grossOf (List.replicate 15 (entryOf (some 65535))) = some 983025 := by
  refine ⟨by decide, by decide, by decide +kernel, ?_, by decide +kernel⟩
  intro a ha x hx
  obtain ⟨-, rfl⟩ := List.mem_replicate.mp ha
  simp only [entryOf, Option.some.injEq] at hx
  omega

theorem test_witness_no_gross :
    (∃ a ∈ [entryOf none], a.load = none)
      ∧ ({ code := 1, minAxles := 1, maxAxles := 15, track := .any, ranges := [], gross := some (0, 983025),
           length := none } : ClassEntry).gross = some (0, 983025)
      ∧ ({ recordOf 1 with gross := none } : VehicleRec).gross = none := by decide +kernel

/-! ### Witnesses: vehicles and the store -/

/-- Lane 1 with an open frame of `n` axles, its last one 3,200 ticks before `axleAt 3000000`. -/
def meeting (n spacing : Nat) : State :=
  (road.setFrame 0 (some { frameAt 2990000 with
      axles := List.replicate n { axle := axleAt 2995000, spacing := some 360 }
        ++ [{ axle := axleAt 2996800, spacing := none }] })).setProf
    { road.prof with active := { siteProfile with site := { siteProfile.site with maxSpacing := spacing } } }

theorem test_witness_axle_meets_frame :
    (∀ c ∈ [(1, 800), (1, 799), (14, 800)],
      (meeting c.1 c.2).asm.frames[(axleAt 3000000).lane] ≠ none
        ∧ ((meeting c.1 c.2).asm.frames[(0 : LaneIx)]).map (fun f => f.axles.length) = some (c.1 + 1))
      ∧ 3200 = elapsed (axleAt 2996800).time (axleAt 3000000).time
      ∧ (∀ w ∈ [some 20000, none], ¬ TooFar (meeting 1 800) 3200 (some 20000) w ∧ TooFar (meeting 1 799) 3200 (some 20000) w)
      ∧ ¬ TooFar (meeting 1 800) 16000 none none ∧ TooFar (meeting 1 800) 16001 none none := by
  refine ⟨by decide +kernel, by decide +kernel, fun w hw => ?_, Nat.lt_irrefl _, Nat.lt_succ_self _⟩
  obtain rfl | rfl : w = some 20000 ∨ w = none := by simpa using hw
  all_goals exact ⟨show ¬ (meeting 1 800).prof.active.site.maxSpacing < cmApart 3200 20000 20000 by decide +kernel,
    show (meeting 1 799).prof.active.site.maxSpacing < cmApart 3200 20000 20000 by decide +kernel⟩

/-- R108: with one speed it stands for both, and the joined axle leaves its spacing absent; without any, 2 s part them. -/
theorem test_gap_without_speed :
    let spaced := fun (s : State) a => ((s.handOn a).asm.frames[(0 : LaneIx)]).map (fun f => f.axles.map (·.spacing))
    let unsped := fun last => road.setFrame 0 (some { frameAt last with
      axles := [{ axle := { axleAt last with speed := none }, spacing := none }] })
    spaced (meeting 0 800) { axleAt 3000000 with speed := none } = some [none, none]
      ∧ spaced (meeting 0 799) { axleAt 3000000 with speed := none } = some [none]
      ∧ spaced (unsped 2984000) { axleAt 3000000 with speed := none } = some [none, none]
      ∧ spaced (unsped 2983999) { axleAt 3000000 with speed := none } = some [none] := by decide +kernel

/-- Lane 1 with an open frame of one slow axle at a tick, handed on overdue or not, with the frame timeout of 3 s. -/
def slowMeeting (overdue : Bool) (last : Tick) : State :=
  road.setFrame 0 (some { frameAt last with
    axles := [{ axle := { axleAt last with speed := some 1500 }, spacing := none }], overdue := overdue })

/-- A slow axle. -/
def slowAxle (t : Tick) : AxleRec :=
  { axleAt t with speed := some 1500 }

theorem test_witness_join_in_time :
    let frame := fun b last => { frameAt last with
      axles := [{ axle := { axleAt last with speed := some 1500 }, spacing := none }], overdue := b }
    (∀ b, (slowMeeting b 2975999).asm.frames[(0 : LaneIx)] = some (frame b 2975999))
      ∧ ¬ JoinTimedOut (slowMeeting false 2975999) (frame false 2975999) 2975999 3000000
      ∧ ¬ JoinTimedOut (slowMeeting true 2975999) (frame true 2975999) 2975999 2999999
      ∧ JoinTimedOut (slowMeeting true 2975999) (frame true 2975999) 2975999 3000000
      ∧ 450 = min ((elapsed 2975999 3000000 * (1500 + 1500) + 80000) / 160000) 65535
      ∧ 450 ≤ (slowMeeting true 2975999).prof.active.site.maxSpacing
      ∧ (road.axleOverdue (slowAxle 2976000), road.axleOverdue (slowAxle 2976001)) = (true, false) := by
  unfold JoinTimedOut
  decide +kernel

/-- R107, R113: a frame still open takes an axle further than its timeout, and an overdue one the second axle of one
completion. R111, last sentence: an overdue one takes none further than its timeout. -/
theorem test_join_in_time :
    (((slowMeeting false 2975999).handOn (slowAxle 3000000)).asm.frames[(0 : LaneIx)]).map (fun f => f.axles.length) = some 2
      ∧ (((slowMeeting true 2975999).handOn (slowAxle 2999999)).asm.frames[(0 : LaneIx)]).map (fun f => f.axles.length)
          = some 2
      ∧ ((slowMeeting true 2975999).handOn (slowAxle 3000000)).store.map (fun r => r.axles.length) = [1] := by
  decide +kernel

/-- R107, R109: joined, closed for the gap, closed TRUNCATED. -/
theorem test_axle_meets_frame :
    ((meeting 1 800).handOn (axleAt 3000000)).store = []
      ∧ ((meeting 1 799).handOn (axleAt 3000000)).store.map (fun r => (r.axles.length, hasFlag r.flags .truncated))
          = [(2, false)]
      ∧ ((meeting 14 800).handOn (axleAt 3000000)).store.map (fun r => (r.axles.length, hasFlag r.flags .truncated))
          = [(15, true)] := by decide +kernel

/-- Lane 1 with an open frame of one axle, IDLE since a tick. -/
def framed (axle idle : Tick) : State :=
  ((road.setFrame 0 (some (frameAt axle))).setLaneMon 0 { monitor with idleSince := some idle })

theorem test_witness_presence_close :
    (framed 2990000 2998000).heldLow = false ∧ (framed 2990000 2998000).asm.frames[(0 : LaneIx)] = some (frameAt 2990000)
      ∧ (frameAt 2990000).axles.getLast? = some { axle := axleAt 2990000, spacing := none }
      ∧ (framed 2990000 2998000).loops[(0 : LaneIx)].idleSince = some 2998000
      ∧ (framed 2990000 2998000).former.candidates[(0 : LaneIx)] = []
      ∧ SpanPassed (framed 2990000 2998000) (laterOf 2990000 2998000) (fun p => 8 * p.site.closeDelay)
      ∧ BroughtForward (afterCommit (framed 2990000 2998000)) (laterOf 2990000 2998000) (fun p => 8 * p.site.closeDelay) :=
  ⟨by decide +kernel, by decide +kernel, by decide +kernel, by decide +kernel, by decide +kernel,
    (spanPassed_iff ..).mp (by decide +kernel), ⟨slowerSet, by decide +kernel, by decide +kernel⟩⟩

theorem test_witness_frame_timeout :
    (framed 2976000 2999999).asm.frames[(0 : LaneIx)] = some (frameAt 2976000)
      ∧ (frameAt 2976000).axles.getLast? = some { axle := axleAt 2976000, spacing := none }
      ∧ SpanPassed (framed 2976000 2999999) 2976000 (fun p => 8000 * p.site.frameTimeout)
      ∧ BroughtForward (afterCommit (framed 2976000 2999999)) 2976000 (fun p => 8000 * p.site.frameTimeout) :=
  ⟨by decide +kernel, by decide +kernel, (spanPassed_iff ..).mp (by decide +kernel),
    ⟨slowerSet, by decide +kernel, by decide +kernel⟩⟩

/-- A class of one-axle vehicles and one of any vehicle. -/
def classTable : List ClassEntry :=
  [{ code := 7, minAxles := 2, maxAxles := 15, track := .any, ranges := [], gross := none, length := none },
    { code := 3, minAxles := 1, maxAxles := 1, track := .forbidden, ranges := [], gross := some (0, 9000), length := none },
    { code := 9, minAxles := 1, maxAxles := 15, track := .any, ranges := [], gross := none, length := none }]

/-- R123, R124, R125: the first matching entry gives the class; without one the record is UNCLASSED; a REVERSE record is not
searched; 8,000 kg exceed an axle limit of 7,999 kg and not one of 8,000 kg. -/
theorem test_classed_and_screened :
    let closing := fun (flags : BitVec 32) (table : List ClassEntry) (limit : Nat) =>
      let s := framed 2990000 2998000
      (((s.setProf { s.prof with active := { siteProfile with
          classes := table, site := { siteProfile.site with axleLimit := limit } } }).setFrame 0
            (some { frameAt 2990000 with flags := flags })).closeFrame 0 .plain)
    ((closing 0 classTable 8000).store.map (fun r => (r.classCode, hasFlag r.flags .unclassed)) = [(3, false)])
      ∧ ((closing 0 [] 8000).store.map (fun r => (r.classCode, hasFlag r.flags .unclassed)) = [(0, true)])
      ∧ ((closing (BitVec.ofNat 32 (2 ^ 13)) classTable 8000).store.map
          (fun r => (r.classCode, hasFlag r.flags .unclassed)) = [(0, false)])
      ∧ (closing 0 classTable 7999).store.map (fun r => hasFlag r.flags .overloadAxle) = [true]
      ∧ (closing 0 classTable 8000).store.map (fun r => hasFlag r.flags .overloadAxle) = [false] := by decide +kernel

/-- The site with `k` records of `n` axles in the store. -/
def stored (k n : Nat) : State :=
  road.setStore (List.replicate k (recordOf n))

theorem test_witness_store_offer :
    ((stored 47 1).store.length < 48 ∧ slotsUsed (stored 47 1).store + (recordOf 15).axles.length ≤ 256)
      ∧ ((stored 39 5).store.length < (stored 39 5).prof.active.site.highWater
        ∧ (stored 39 5).prof.active.site.highWater ≤ (stored 39 5).store.length + 1)
      ∧ ¬ ((stored 40 6).store.length < 48 ∧ slotsUsed (stored 40 6).store + (recordOf 17).axles.length ≤ 256)
      ∧ ¬ ((stored 48 1).store.length < 48 ∧ slotsUsed (stored 48 1).store + (recordOf 1).axles.length ≤ 256)
      ∧ ¬ ((stored 40 1).store.length < (stored 40 1).prof.active.site.highWater
        ∧ (stored 40 1).prof.active.site.highWater ≤ (stored 40 1).store.length + 1) := by decide +kernel

theorem test_witness_take :
    Admitted .take .cab [0] (stored 48 1) ∧ Admitted .take .cab [49] (stored 48 1) ∧ Admitted .take .cab [48] (stored 48 1)
      ∧ 1 ≤ (48 : Byte).toNat ∧ (48 : Byte).toNat ≤ 48 ∧ 48 < (49 : Byte).toNat :=
  ⟨admitted_of_admits (by decide +kernel), admitted_of_admits (by decide +kernel), admitted_of_admits (by decide +kernel),
    by decide⟩

theorem test_witness_peek :
    Admitted .peek .svc [47, 48] (stored 48 1) ∧ Admitted .peek .svc [48, 1] (stored 48 1)
      ∧ (47 : Byte).toNat ≤ 47 ∧ 47 < (48 : Byte).toNat ∧ 1 ≤ (48 : Byte).toNat ∧ (48 : Byte).toNat ≤ 48 :=
  ⟨admitted_of_admits (by decide +kernel), admitted_of_admits (by decide +kernel), by decide⟩

theorem test_witness_stream :
    Admitted .stream .cab [2] road ∧ 1 < (2 : Byte).toNat ∧ Admitted .stream .cab [1] road
      ∧ Admitted .stream .cab [0] road :=
  ⟨admitted_of_admits (by decide +kernel), by decide, admitted_of_admits (by decide +kernel),
    admitted_of_admits (by decide +kernel)⟩

/-- The site streaming two records. -/
def streaming : State :=
  (stored 2 5).setPorts { road.ports with stream := true }

theorem test_witness_vehicle_frame :
    streaming.heldLow = false ∧ streaming.ports.cab.tx = none ∧ streaming.ports.cab.replies = []
      ∧ (∀ i : Fin 13, streaming.ports.cab.mask.getLsbD i.val = true → streaming.ports.cab.events[i].count = 0)
      ∧ streaming.ports.stream = true ∧ streaming.site.state ≠ .init
      ∧ streaming.store = recordOf 5 :: [recordOf 5] := by decide +kernel

/-! ### Witnesses: auto-calibration -/

/-- Auto-calibration enabled, lane 1 LIVE. -/
def learning : State :=
  (road.setProf { road.prof with active := { siteProfile with autocal := { siteProfile.autocal with enable := true } } }).setTemp
    { startTemp with lanes := (startTemp.lanes.set 0
        { status := .live, temp := some 200, source := .primary, holdAge := 0, holdTicks := 0 }) }

/-- A record every test of R136 admits. -/
def referenceRecord : VehicleRec :=
  { recordOf 5 with classCode := 11, gross := some 40000 }

theorem test_witness_offer :
    learning.offerFailure referenceRecord = none ∧ learning.offerFailure (recordOf 5) = some .classTest
      ∧ road.prof.active.autocal.enable = false ∧ learning.cal[referenceRecord.lane].window.length ≤ 15 := by decide +kernel

/-- R136: the tests in their order, each failed alone by one record or site. -/
theorem test_offer_tests :
    road.offerFailure referenceRecord = some .disabled
      ∧ learning.offerFailure { referenceRecord with classCode := 12 } = some .classTest
      ∧ learning.offerFailure { referenceRecord with meanSpeed := some 25001 } = some .speedTest
      ∧ learning.offerFailure { referenceRecord with gross := none } = some .grossTest
      ∧ learning.offerFailure { referenceRecord with flags := BitVec.ofNat 32 (2 ^ 13) } = some .flagsTest
      ∧ (learning.setTemp startTemp).offerFailure referenceRecord = some .temperatureTest
      ∧ learning.offerFailure { referenceRecord with axles := [] } = some .loadTest
      ∧ road.offerFailure { recordOf 1 with gross := none, meanSpeed := none } = some .disabled := by decide +kernel

/-- Chapter 7's window of 16 loads, at 20.0 degrees. -/
def workedWindow : List CalEntry :=
  [6950, 7020, 6880, 7110, 6990, 7300, 6940, 7050, 6500, 7000, 6970, 7080, 6910, 7030, 6960, 7010].map
    (fun x => { load := x, site := 0, temp := 200 })

/-- A lane with these entries, anchored at 20.0 degrees. -/
def windowed (fA : Nat) (es : List CalEntry) : LaneCal :=
  { defaultLaneCal with fA := fA, window := es, anchor := some 200 }

theorem test_witness_update :
    6500 ∈ (windowed 4055 workedWindow).window.map (fun e => e.load)
      ∧ 7300 ∈ (windowed 4055 workedWindow).window.map (fun e => e.load)
      ∧ (∀ x ∈ (windowed 4055 workedWindow).window.map (fun e => e.load), 6500 ≤ x ∧ x ≤ 7300)
      ∧ 6993 = (((windowed 4055 workedWindow).window.map (fun e => e.load)).sum - 6500 - 7300 + 7) / 14
      ∧ 3943 = ((windowed 4055 workedWindow).fA * 6800 + 6993 / 2) / 6993
      ∧ 4035 = max ((windowed 4055 workedWindow).fA - 20) (min ((windowed 4055 workedWindow).fA + 20) 3943) := by
  decide +kernel

/-- R141: at a bound the clamp binds and sets the flag; a stepped value on the bound leaves it. -/
theorem test_limit_flag :
    (windowed 3690 workedWindow).clampBinds 6000 = true ∧ ((windowed 3690 workedWindow).update 6000).fA = 3686
      ∧ ((windowed 3690 workedWindow).update 6000).limit = true
      ∧ ((windowed 3706 workedWindow).update 6000).fA = 3686
      ∧ ((windowed 3706 workedWindow).update 6000).limit = false
      ∧ ((windowed 4055 workedWindow).update 6800).fA = 4035 := by decide +kernel

/-- The learning site with lane 1's window so. -/
def learningWith (es : List CalEntry) : State :=
  learning.setLaneCal 0 (windowed 4055 es)

theorem test_witness_window :
    ∀ n ∈ [1, 14, 15],
      (learningWith (workedWindow.take n)).offerFailure referenceRecord = none
        ∧ (learningWith (workedWindow.take n)).cal[referenceRecord.lane] = windowed 4055 (workedWindow.take n)
        ∧ (windowed 4055 (workedWindow.take n)).window ≠ [] ∧ (windowed 4055 []).anchor = some 200
        ∧ (windowed 4055 (workedWindow.take n)).window.length = n
        ∧ ((250 : Int) - 200).natAbs ≤ 50 ∧ 50 < ((251 : Int) - 200).natAbs ∧ 50 < ((149 : Int) - 200).natAbs
        ∧ referenceRecord.tempUsed = 200 := by decide +kernel

/-- R139: the sixteenth entry updates the factor and empties the window. -/
theorem test_sixteenth_entry :
    ((learningWith (workedWindow.take 15)).offerToCal referenceRecord).cal[(0 : LaneIx)].updates = 1
      ∧ ((learningWith (workedWindow.take 15)).offerToCal referenceRecord).cal[(0 : LaneIx)].window = []
      ∧ ((learningWith (workedWindow.take 14)).offerToCal referenceRecord).cal[(0 : LaneIx)].window.length = 15 := by
  decide +kernel

/-! ### Witnesses: the site profile -/

theorem test_witness_edit_begin :
    Admitted .editBegin .cab [] parked ∧ parked.prof.claim = none ∧ Admitted .editBegin .cab [] (claimed .cab)
      ∧ (claimed .cab).prof.claim = some (claimOf .cab) ∧ (claimOf .cab).owner = .cab
      ∧ Admitted .editBegin .cab [] (claimed .svc) ∧ (claimed .svc).prof.claim = some (claimOf .svc)
      ∧ (claimOf .svc).owner ≠ .cab :=
  ⟨admitted_of_admits (by decide +kernel), by decide +kernel, admitted_of_admits (by decide +kernel), by decide +kernel,
    by decide, admitted_of_admits (by decide +kernel), by decide +kernel, by decide⟩

/-- Chapter 8, THE EDIT CLAIM: with an EDIT_BEGIN of the cabinet link's at the same moment the service port's is refused
NOT_OWNER and the set stays free; a refused one of the cabinet link's (BAD_LENGTH) does not stand in its way. -/
theorem test_edit_begin_together :
    let t := fun payload : List Byte =>
      (parked.setPending [.editBegin .cab 7 payload]).takeRequest .editBegin .svc 3 [] (editBeginOwner .svc)
    (t []).prof.claim = none ∧ ((t []).port .svc).replies = [refusalReply 6 3 .notOwner 0 0]
      ∧ (t [0]).prof.claim.map (·.owner) = some .svc := by decide +kernel

theorem test_witness_edit_begin_together :
    Admitted .editBegin .svc [] (parked.setPending [.editBegin .cab 7 []])
      ∧ (parked.setPending [.editBegin .cab 7 []]).yields .svc .editBegin (fun _ => true) = true
      ∧ BringsToCabinet .editBegin [0] (parked.setPending [.editBegin .cab 7 [0]]) (.editBegin .cab 7 [0])
      ∧ TellsApart (.editBegin .cab 7 [0]) ∧ ¬ Admitted .editBegin .cab [0] (parked.setPending [.editBegin .cab 7 [0]])
      ∧ (∀ payload, ¬ BringsToCabinet .editBegin payload (parked.setPending [.ident .cab 1 []]) (.ident .cab 1 []))
      ∧ TellsApart (.ident .cab 1 []) ∧ parked.prof.claim = none ∧ ∃ t, exec .bucketLeak parked = .next t := by
  refine ⟨admitted_of_admits (by decide +kernel), by decide +kernel, .inl ⟨7, rfl⟩, .inl ⟨.editBegin, _, _, _, rfl⟩,
    fun h => absurd h.fits (by decide), ?_, .inl ⟨.ident, _, _, _, rfl⟩, by decide +kernel,
    ⟨_, rfl⟩⟩
  rintro payload (⟨_, h⟩ | ⟨_, _, _, _, h, _⟩) <;> exact Instr.noConfusion h

theorem not_owned (s : State) (h : s.prof.claim = some (claimOf .svc)) : ∀ c, s.prof.claim = some c → c.owner ≠ .cab := by
  intro c hc
  rw [h] at hc
  cases hc
  decide

/-- The site profile with its temperature factors changed. -/
def changedFactor : Profile := { siteProfile with tempcomp := Vector.replicate 9 1025 }

/-- The commit write of the changed set. -/
def commitWrite : ImageWrite :=
  { reason := .commit, content := { goodImage with profile := changedFactor }, start := 2999999 }

/-- The committing port waits for its reply. -/
def committing : State :=
  ((claimed .cab).setProf { (claimed .cab).prof with
    claim := some { claimOf .cab with timer := none, staged := changedFactor },
    write := some commitWrite }).setPort .cab
      { startPort .cab with deferred := some { kind := .commit, tag := 9 } }

theorem test_witness_edit_discard :
    Admitted .editDiscard .cab [] (claimed .cab) ∧ Admitted .editDiscard .cab [] (claimed .svc)
      ∧ (∀ c, (claimed .svc).prof.claim = some c → c.owner ≠ .cab) ∧ committing.heldLow = false
      ∧ (committing.port .cab).replies.length < 4 ∧ committing.site.state ≠ .init
      ∧ (committing.port .cab).deferred = some { kind := .commit, tag := 9 } :=
  ⟨admitted_of_admits (by decide +kernel), admitted_of_admits (by decide +kernel), not_owned _ rfl, by decide +kernel,
    by decide +kernel, by decide +kernel, by decide +kernel⟩

/-- The same commit in flight after a restart has dropped the port's hold of it. -/
def holdDropped : State :=
  committing.setPort .cab (startPort .cab)

theorem test_witness_commit_in_flight :
    Admitted .editDiscard .cab [] holdDropped ∧ Admitted .editPut .cab [4, 0, 0, 1] holdDropped
      ∧ Admitted .readSection .cab [1, 4, 0, 0] holdDropped ∧ Admitted .commit .cab [] holdDropped
      ∧ holdDropped.prof.claim = some { claimOf .cab with timer := none, staged := changedFactor }
      ∧ (claimed .cab).prof.claim = some (claimOf .cab) ∧ (claimOf .cab).owner = .cab ∧ (claimOf .cab).timer ≠ none :=
  ⟨admitted_of_admits (by decide +kernel), admitted_of_admits (by decide +kernel), admitted_of_admits (by decide +kernel),
    admitted_of_admits (by decide +kernel), by decide +kernel, by decide +kernel, by decide, by decide +kernel⟩

/-- R161, R167: no edit of its owner changes the set that a commit in flight was judged with. -/
theorem test_commit_in_flight_keeps_set :
    ∀ r ∈ [editDiscardOwner .cab holdDropped, editPutOwner .cab [4, 0, 0, 1] holdDropped,
        readSectionOwner .cab [1, 4, 0, 0] holdDropped, commitOwner .cab holdDropped],
      r.1.prof.claim = holdDropped.prof.claim ∧ r.2 = .refused .busy 0 0 := by
  decide +kernel

/-- The end of a LOCK write while such a commit waits. -/
def lockEnding : State :=
  holdDropped.setProf { holdDropped.prof with write := some { commitWrite with reason := .lock } }

/-- R167: it sets the lock, and the claim of the commit in flight outlasts it. -/
theorem test_witness_claim_outlasts_lock :
    (match exec (.imageWriteComplete true) lockEnding with
      | .next t => some (t.prof.claim, t.prof.locked)
      | _ => none) = some (lockEnding.prof.claim, true)
      ∧ lockEnding.prof.claim = some { claimOf .cab with timer := none, staged := changedFactor } := by
  decide +kernel

/-- The cabinet link's claim with a transfer of TEMPCOMP in progress. -/
def sending (n : Nat) : State :=
  parked.setProf { parked.prof with
    claim := some { claimOf .cab with transfer := some { sect := .tempcomp, bytes := List.replicate n 0 } } }

theorem test_witness_edit_put :
    Admitted .editPut .cab [4, 0, 0, 1] (claimed .svc) ∧ sectOfCode (4 : Byte).toNat = some .tempcomp
      ∧ Admitted .editPut .cab [0, 0, 0, 1] (claimed .cab) ∧ Admitted .editPut .cab [9, 0, 0, 1] (claimed .cab)
      ∧ (0 : Byte).toNat = 0 ∧ 8 < (9 : Byte).toNat
      ∧ Admitted .editPut .cab [4, 0, 0, 1] ((claimed .cab).setProf { (claimed .cab).prof with locked := true })
      ∧ Sect.tempcomp.metrological = true ∧ (claimed .cab).prof.locked = false :=
  ⟨admitted_of_admits (by decide +kernel), by decide, admitted_of_admits (by decide +kernel),
    admitted_of_admits (by decide +kernel), by decide, by decide, admitted_of_admits (by decide +kernel), by decide,
    by decide +kernel⟩

/-- A BEGIN with an upper bit of the marks set, at another offset, with a chunk too long by one, and of a whole section. -/
theorem test_witness_edit_put_begin :
    Admitted .editPut .cab [4, 1, 0, 0xFD] (claimed .cab) ∧ Admitted .editPut .cab [4, 0, 1, 3] (claimed .cab)
      ∧ (0xFD : Byte).toNat % 2 = 1 ∧ (0xFD : Byte).toNat / 2 % 2 = 0
      ∧ (1 : Byte).toNat + 256 * (0 : Byte).toNat ≠ 0 ∧ (0 : Byte).toNat + 256 * (1 : Byte).toNat ≠ 0
      ∧ Admitted .editPut .cab (4 :: 0 :: 0 :: 1 :: List.replicate 19 4) (claimed .cab)
      ∧ Sect.tempcomp.size < (List.replicate 19 (4 : Byte)).length
      ∧ Admitted .editPut .cab (4 :: 0 :: 0 :: 1 :: List.replicate 18 4) (claimed .cab)
      ∧ (List.replicate 18 (4 : Byte)).length ≤ Sect.tempcomp.size :=
  ⟨admitted_of_admits (by decide +kernel), admitted_of_admits (by decide +kernel), by decide, by decide, by decide, by decide,
    admitted_of_admits (by decide +kernel), by decide, admitted_of_admits (by decide +kernel), by decide⟩

/-- A chunk without BEGIN: with no transfer, with one of another section, at a wrong count, one byte too long, and to the
last byte. -/
theorem test_witness_edit_put_continue :
    Admitted .editPut .cab [4, 0, 0, 0] (claimed .cab) ∧ (claimOf .cab).transfer = none
      ∧ Admitted .editPut .cab [5, 16, 0, 0] (sending 16) ∧ sectOfCode (5 : Byte).toNat = some .speedcomp
      ∧ Sect.tempcomp ≠ .speedcomp ∧ (sending 16).prof.locked = false
      ∧ (sending 16).prof.claim.bind (·.transfer) = some { sect := .tempcomp, bytes := List.replicate 16 0 }
      ∧ Admitted .editPut .cab [4, 15, 0, 0, 0, 4] (sending 16)
      ∧ (15 : Byte).toNat + 256 * (0 : Byte).toNat ≠ (List.replicate 16 (0 : Byte)).length
      ∧ Admitted .editPut .cab [4, 16, 0, 2, 0, 4, 0] (sending 16)
      ∧ (16 : Byte).toNat + 256 * (0 : Byte).toNat = (List.replicate 16 (0 : Byte)).length
      ∧ Sect.tempcomp.size < (List.replicate 16 (0 : Byte)).length + [(0 : Byte), 4, 0].length
      ∧ Admitted .editPut .cab [4, 16, 0, 0, 0, 4] (sending 16)
      ∧ (List.replicate 16 (0 : Byte)).length + [(0 : Byte), 4].length ≤ Sect.tempcomp.size :=
  ⟨admitted_of_admits (by decide +kernel), by decide, admitted_of_admits (by decide +kernel), by decide, by decide,
    by decide +kernel, by decide +kernel, admitted_of_admits (by decide +kernel), by decide,
    admitted_of_admits (by decide +kernel), by decide, by decide, admitted_of_admits (by decide +kernel), by decide⟩

/-- A whole TEMPCOMP with every factor 1,024, or with the first 0. -/
def tempcompBytes (first : Byte) : List Byte :=
  [0, first, 0, 4, 0, 4, 0, 4, 0, 4, 0, 4, 0, 4, 0, 4, 0, 4]

theorem test_witness_section_end :
    Admitted .editPut .cab (4 :: 0 :: 0 :: 3 :: tempcompBytes 4) (claimed .cab)
      ∧ (claimed .cab).prof.claim = some (claimOf .cab) ∧ (tempcompBytes 4).length ≤ Sect.tempcomp.size
      ∧ (validateSection siteProfile .tempcomp (tempcompBytes 4)).isOk = true
      ∧ validateSection siteProfile .tempcomp (tempcompBytes 0) = .error (.badValue, 0)
      ∧ Sect.tempcomp ≠ .classes ∧ ([] : List Byte).length < Sect.tempcomp.size :=
  ⟨admitted_of_admits (by decide +kernel), by decide +kernel, by decide, by decide +kernel, by rfl, by decide, by decide⟩

/-- The cabinet link's claim with these bytes of a section received. -/
def received (k : Sect) (bytes : List Byte) : State :=
  parked.setProf { parked.prof with claim := some { claimOf .cab with transfer := some { sect := k, bytes := bytes } } }

theorem test_witness_continued_section_end :
    Admitted .editPut .cab [4, 16, 0, 2, 0, 4] (received .tempcomp ((tempcompBytes 4).take 16))
      ∧ (2 : Byte).toNat / 2 % 2 = 1 ∧ (2 : Byte).toNat % 2 = 0
      ∧ (received .tempcomp ((tempcompBytes 4).take 16)).prof.claim
          = some { claimOf .cab with transfer := some { sect := .tempcomp, bytes := (tempcompBytes 4).take 16 } }
      ∧ (16 : Byte).toNat + 256 * (0 : Byte).toNat = ((tempcompBytes 4).take 16).length
      ∧ tempcompBytes 4 = (tempcompBytes 4).take 16 ++ [0, 4] ∧ (tempcompBytes 4).length ≤ Sect.tempcomp.size
      ∧ (validateSection siteProfile .tempcomp (tempcompBytes 4)).isOk = true
      ∧ (received .tempcomp ((tempcompBytes 4).take 16)).prof.locked = false :=
  ⟨admitted_of_admits (by decide +kernel), by decide, by decide, by decide +kernel, by decide, by decide, by decide,
    by decide +kernel, by decide +kernel⟩

/-- 13 class entries of 74 bytes each, every range from 0 to its largest. -/
def longTable : List ClassEntry :=
  List.replicate 13 { code := 9, minAxles := 15, maxAxles := 15, track := .any, ranges := List.replicate 14 (0, 65535),
                      gross := some (0, 983025), length := some (0, 4000) }

/-- The bytes of that table: 963, more than one chunk holds. -/
def longTableBytes : List Byte :=
  sectionBytes { siteProfile with classes := longTable } .classes

/-- R151, R157, R158: such a section is staged by its second chunk, sent at offset 960 with END. -/
theorem test_long_classes_section :
    let r := editPutOwner .cab (7 :: 0xC0 :: 0x03 :: 2 :: longTableBytes.drop 960) (received .classes (longTableBytes.take 960))
    longTableBytes.length = 963 ∧ r.2 = .ok (leBytes 2 963)
      ∧ r.1.prof.claim = some { claimOf .cab with
          staged := { siteProfile with classes := longTable }, transfer := none, timer := some 3000000 } := by
  decide +kernel

/-- SITE with every field at one end of its range. -/
def siteEdge (high : Bool) : SiteSec :=
  if high then
    { laneCount := 6, siteNumber := 4294967295, closeDelay := 2000, maxSpacing := 2500, window := 256, frameTimeout := 10,
      highWater := 48, rowTolerance := 50, axleLimit := 65535, grossLimit := 983025, margin := 50, scanPeriod := 60 }
  else
    { laneCount := 1, siteNumber := 0, closeDelay := 50, maxSpacing := 300, window := 8, frameTimeout := 1, highWater := 1,
      rowTolerance := 1, axleLimit := 1000, grossLimit := 1000, margin := 0, scanPeriod := 1 }

theorem test_witness_section_in_range :
    (∀ high, SectionInRange .site { siteProfile with site := siteEdge high })
      ∧ SectionInRange .stripmap siteProfile ∧ SectionInRange .lanes siteProfile ∧ SectionInRange .tempcomp siteProfile
      ∧ SectionInRange .speedcomp siteProfile ∧ SectionInRange .probes siteProfile
      ∧ SectionInRange .classes { siteProfile with classes := [] } ∧ SectionInRange .autocal siteProfile
      ∧ (∀ high, (sectionBytes { siteProfile with site := siteEdge high } .site).length ≤ Sect.site.size) := by
  refine ⟨fun high => ?_, ⟨?_, ?_⟩, ?_, ?_, ?_, ⟨?_, ?_⟩, ⟨by decide, by simp⟩, ?_, ?_⟩
  · cases high <;> unfold SectionInRange <;> decide +kernel
  all_goals first | decide +kernel | (unfold SectionInRange; decide +kernel)

/-- How a section is judged: its refusal, or none. -/
def refusalOf : Except (Status × Nat) Profile → Option (Status × Nat)
  | .ok _ => none
  | .error e => some e

/-- R1, R154: the edges of SITE are taken, one beyond is refused with its index; a second channel on a segment is refused
with the higher index; a reserved byte is ignored. -/
theorem test_sections_judged :
    (∀ high, ((validateSection siteProfile .site (siteBytes (siteEdge high))).toOption.map (fun q => q.site))
        = some (siteEdge high))
      ∧ refusalOf (validateSection siteProfile .site (siteBytes { siteEdge true with margin := 51 })) = some (.badValue, 10)
      ∧ ((validateSection siteProfile .site ((siteBytes (siteEdge true)).set 31 7)).toOption.map (fun q => q.site))
          = some (siteEdge true)
      ∧ refusalOf (validateSection siteProfile .stripmap
          (sectionBytes { siteProfile with strips := siteProfile.strips.set 5 (mapped 0 .rowA .left) } .stripmap))
          = some (.badValue, 5) := by decide +kernel

theorem test_witness_read_section :
    Admitted .readSection .svc [0, 4, 18, 0] road ∧ sectOfCode (4 : Byte).toNat = some .tempcomp
      ∧ (18 : Nat) = (18 : Byte).toNat + 256 * (0 : Byte).toNat ∧ 18 ≤ (sectionBytes road.prof.active .tempcomp).length
      ∧ Admitted .readSection .cab [1, 4, 18, 0] (claimed .cab)
      ∧ 18 ≤ (sectionBytes (claimOf .cab).staged .tempcomp).length ∧ Admitted .readSection .cab [1, 4, 18, 0] (claimed .svc) :=
  ⟨admitted_of_admits (by decide +kernel), by decide, by decide, by decide +kernel, admitted_of_admits (by decide +kernel),
    by decide +kernel, admitted_of_admits (by decide +kernel)⟩

/-- A claim with a staged set, under a lock or not. -/
def staging (q : Profile) (locked : Bool) : State :=
  parked.setProf { parked.prof with claim := some { claimOf .cab with staged := q }, locked := locked }

/-- The site profile with channel 1 in lane 2. -/
def strayChannel : Profile := { siteProfile with strips := siteProfile.strips.set 0 (mapped 1 .rowA .left) }

theorem test_witness_commit :
    Admitted .commit .cab [] (claimed .svc) ∧ Admitted .commit .cab [] (sending 16)
      ∧ Admitted .commit .cab [] (staging changedFactor true)
      ∧ metroDiffer changedFactor siteProfile = true
      ∧ Admitted .commit .cab [] (staging strayChannel false) ∧ inconsistency strayChannel = some (.stripmap, 0)
      ∧ Admitted .commit .cab [] (staging changedFactor false) ∧ inconsistency changedFactor = none
      ∧ metroDiffer siteProfile siteProfile = false :=
  ⟨admitted_of_admits (by decide +kernel), admitted_of_admits (by decide +kernel), admitted_of_admits (by decide +kernel),
    by decide +kernel, admitted_of_admits (by decide +kernel), by decide +kernel, admitted_of_admits (by decide +kernel),
    by decide +kernel, by decide +kernel⟩

/-- The site profile with lane 1's left row A and right row B unmapped, or its primary probe off. -/
def halfRows : Profile :=
  { siteProfile with strips := (siteProfile.strips.set 0 defaultStrip).set 3 defaultStrip }

/-- The site profile with lane 1's primary probe off. -/
def probeOff : Profile :=
  { siteProfile with probes := { siteProfile.probes with
      entries := siteProfile.probes.entries.set 0 { enabled := false, trim := 0 } } }

theorem test_witness_cross_checks :
    ChannelAboveCount strayChannel 0 ∧ (∀ k : ChanIx, k < 0 → ¬ ChannelAboveCount strayChannel k)
      ∧ (∀ c, ¬ ChannelAboveCount halfRows c) ∧ LaneWithoutRow halfRows 0
      ∧ (∀ c, ¬ ChannelAboveCount probeOff c) ∧ (∀ l, ¬ LaneWithoutRow probeOff l) ∧ LaneWithoutProbe probeOff 0
      ∧ (∀ c, ¬ ChannelAboveCount changedFactor c) ∧ (∀ l, ¬ LaneWithoutRow changedFactor l)
      ∧ (∀ l, ¬ LaneWithoutProbe changedFactor l) := by
  have hr : ∀ P : StripRow → Prop, (∃ r, P r) ↔ P .rowA ∨ P .rowB := fun P =>
    ⟨fun ⟨r, h⟩ => by cases r <;> simp [h], fun h => h.elim (fun h => ⟨_, h⟩) (fun h => ⟨_, h⟩)⟩
  have hd : ∀ P : StripSide → Prop, (∀ d, P d) ↔ P .left ∧ P .right := fun P =>
    ⟨fun h => ⟨h _, h _⟩, fun h d => by cases d <;> simp [h]⟩
  have above : ∀ p ∈ [halfRows, probeOff, changedFactor], ∀ c : ChanIx, (p.strips[c].lane).all
      (fun l => decide (l.val < p.site.laneCount)) = true := by decide +kernel
  have none_above : ∀ p ∈ [halfRows, probeOff, changedFactor], ∀ c, ¬ ChannelAboveCount p c := by
    rintro p hp c ⟨l, hl, hc⟩
    have := above p hp c
    simp only [hl, Option.all_some, decide_eq_true_eq] at this
    omega
  have rows : ∀ p ∈ [probeOff, changedFactor], ∀ l : LaneIx, p.lanes[l].enabled = true → l.val < p.site.laneCount →
      (∃ c : ChanIx, p.strips[c].lane = some l ∧ p.strips[c].row = .rowA ∧ p.strips[c].side = .left)
        ∧ ∃ c : ChanIx, p.strips[c].lane = some l ∧ p.strips[c].row = .rowA ∧ p.strips[c].side = .right := by
    decide +kernel
  have none_without : ∀ p ∈ [probeOff, changedFactor], ∀ l, ¬ LaneWithoutRow p l := fun p hp l ⟨hc, hn⟩ =>
    hn ((hr _).mpr (.inl ((hd _).mpr (rows p hp l hc.1 hc.2))))
  have probes : ∀ l : LaneIx, changedFactor.lanes[l].enabled = true →
      changedFactor.probes.entries[changedFactor.lanes[l].primary].enabled = true := by decide +kernel
  have gone : (¬ ∃ c : ChanIx, halfRows.strips[c].lane = some 0 ∧ halfRows.strips[c].row = .rowA
        ∧ halfRows.strips[c].side = .left)
      ∧ ¬ ∃ c : ChanIx, halfRows.strips[c].lane = some 0 ∧ halfRows.strips[c].row = .rowB
        ∧ halfRows.strips[c].side = .right := by decide +kernel
  refine ⟨⟨1, by decide +kernel⟩, fun k hk => absurd hk (by simp), none_above _ (by simp),
    ⟨⟨by decide +kernel, by decide +kernel⟩, ?_⟩, none_above _ (by simp), none_without _ (by simp),
    ⟨⟨by decide +kernel, by decide +kernel⟩, by decide +kernel⟩, none_above _ (by simp), none_without _ (by simp), ?_⟩
  · rw [hr, hd, hd]
    exact fun h => h.elim (fun h => gone.1 h.1) (fun h => gone.2 h.2)
  · rintro l ⟨hc, hp⟩
    exact Bool.noConfusion ((probes l hc.1).symm.trans hp)

/-- R161: the three cross-checks name their section and index. -/
theorem test_cross_checks :
    inconsistency halfRows = some (.lanes, 0) ∧ inconsistency probeOff = some (.lanes, 0)
      ∧ inconsistency { strayChannel with probes := probeOff.probes } = some (.stripmap, 0) := by decide +kernel

theorem test_witness_ownership_timeout :
    (claimed .cab).heldLow = false ∧ (claimed .cab).prof.claim = some (claimOf .cab)
      ∧ (claimOf .cab).timer = some 2040000 ∧ hasPassed 2040000 960000 (claimed .cab).now = true := by decide +kernel

/-- The cabinet link's claim with every reason waiting but those of a higher standing than the one named. -/
def reasonsFrom (k : Reason) : State :=
  (claimed .cab).setProf { (claimed .cab).prof with
    reasons := { commit := decide (k = .commit), lock := decide (k = .commit ∨ k = .lock), boot := decide (k ≠ .learned),
                 learned := true } }

theorem test_witness_write_start :
    ∀ k ∈ [Reason.commit, .lock, .boot, .learned],
      (reasonsFrom k).prof.write = none ∧ (reasonsFrom k).prof.reasons.has k = true
        ∧ ((reasonsFrom k).prof.reasons.commit = true → k = .commit)
        ∧ ((reasonsFrom k).prof.reasons.lock = true → k = .commit ∨ k = .lock)
        ∧ ((reasonsFrom k).prof.reasons.boot = true → k ≠ .learned) := by decide +kernel

theorem test_witness_commit_completes :
    committing.heldLow = false ∧ committing.prof.write = some commitWrite ∧ commitWrite.reason = .commit
      ∧ hasPassed commitWrite.start 1 committing.now = true
      ∧ metroDiffer commitWrite.content.profile committing.prof.active = true ∧ committing.prof.claim ≠ none
      ∧ (committing.port .cab).deferred = some { kind := .commit, tag := 9 }
      ∧ (∀ k : LaneIx, committing.laneActive k = false) ∧ IdleLanesEmpty committing :=
  ⟨by decide +kernel, by decide +kernel, by decide +kernel, by decide +kernel, by decide +kernel, by decide +kernel,
    by decide +kernel, by decide +kernel, by unfold IdleLanesEmpty; decide +kernel⟩

/-- The same commit while lane 1 weighs, with a frame and a candidate open. -/
def committingBusy : State :=
  let s := committing.setSite { committing.site with state := .weighing }
  ((s.setCal (s.cal.map (fun c => { c with fA := 4000, updates := 3 }))).setFrame 0 (some (frameAt 2995000))).setCandidates 0
    [oneSided 0 (hitOf 0 .rowA .left 2999000)]

theorem test_witness_commit_while_weighing :
    committingBusy.laneActive 0 = true ∧ LanesKept committingBusy changedFactor ∧ NoneOverdueBy committingBusy changedFactor
      ∧ committingBusy.prof.write = some commitWrite ∧ commitWrite.content.profile = changedFactor := by
  refine ⟨by decide +kernel, ?_, ?_, by decide +kernel, by decide +kernel⟩
  · unfold LanesKept LaneCounts
    decide +kernel
  · intro l c hc
    obtain ⟨rfl, rfl⟩ : l = 0 ∧ c = oneSided 0 (hitOf 0 .rowA .left 2999000) := by
      have h : ∀ k : LaneIx, committingBusy.former.candidates[k] =
          if k = 0 then [oneSided 0 (hitOf 0 .rowA .left 2999000)] else [] := by decide +kernel
      rw [h l] at hc
      split at hc
      · exact ⟨‹_›, by simpa using hc⟩
      · cases hc
    exact ⟨by decide, fun x hx => ⟨2999000, by
      obtain rfl : x = .waiting (hitOf 0 .rowA .left 2999000) := by simpa [oneSided] using hx
      rfl, by decide +kernel⟩⟩

/-- R144, R147: the factors are set afresh while a lane weighs, and its frame stays open. -/
theorem test_commit_while_weighing :
    let t := committingBusy.commitDone commitWrite
    t.cal.map (fun c => (c.fA, c.updates)) = Vector.replicate 6 (changedFactor.lanes[(0 : LaneIx)].fA, 0)
      ∧ t.asm = committingBusy.asm := by decide +kernel

/-- The commit that disables probe 0 while the service port's PROBE_NOW for it is being converted. -/
def committingSlot : State :=
  let w : ImageWrite := { commitWrite with content := { goodImage with
    profile := { siteProfile with probes := { siteProfile.probes with
      entries := siteProfile.probes.entries.set 0 { enabled := false, trim := 0 } } } } }
  let s := committing.setProf { committing.prof with write := some w }
  (s.setTemp { startTemp with
    conv := some ⟨.probe 0, .slot, 2999900, false⟩, slot := some { probe := 0, port := .svc, selected := true },
    probes := startTemp.probes.set 0 { startProbe with state := .valid, filtered := some 200 } }).setPort .svc
      { startPort .svc with deferred := some { kind := .probeNow, tag := 5 } }

theorem test_witness_commit_disables_slot :
    committingSlot.heldLow = false
      ∧ (committingSlot.prof.write.map (fun w => (w.reason, hasPassed w.start 1 committingSlot.now,
          w.content.profile.probes.entries[(0 : ProbeIx)].enabled))) = some (.commit, true, false)
      ∧ committingSlot.temp.slot = some { probe := 0, port := .svc, selected := true }
      ∧ (committingSlot.port .svc).deferred = some { kind := .probeNow, tag := 5 } := by decide +kernel

/-- R49: the request is answered BAD_VALUE at the commit's completion. -/
theorem test_commit_disables_slot :
    (match exec (.imageWriteComplete true) committingSlot with
      | .next t => some (t.temp.slot, (t.port .svc).deferred, (t.port .svc).replies, t.temp.conv)
      | _ => none)
      = some (none, none, [refusalReply 0x0E 5 .badValue 0 0], some ⟨.probe 0, .slot, 2999900, true⟩) := by decide +kernel

/-- The site profile with channel 4 unmapped, probe 0's trim changed, or disabled with probe 1 enabled in its
place. -/
def changedMap (case : Fin 3) : Profile :=
  match case with
  | 0 => { siteProfile with strips := siteProfile.strips.set 3 defaultStrip }
  | 1 => { siteProfile with probes := { siteProfile.probes with
      entries := siteProfile.probes.entries.set 0 { enabled := true, trim := 5 } } }
  | 2 => { siteProfile with
      lanes := siteProfile.lanes.set 0 { siteProfile.lanes[(0 : LaneIx)] with primary := 1 },
      probes := { siteProfile.probes with
        entries := (siteProfile.probes.entries.set 0 { enabled := false, trim := 0 }).set 1
          { enabled := true, trim := 0 } } }

/-- The commit of such a set, probe 0's conversion in progress and channel 1 NORMAL. -/
def committingMap (case : Fin 3) : State :=
  let w : ImageWrite := { commitWrite with content := { goodImage with profile := changedMap case } }
  let s := committing.setProf { committing.prof with write := some w }
  (s.setChannel 0 (channel .normal .quiet)).setTemp { startTemp with
    conv := some ⟨.probe 0, .scan, 2999900, false⟩,
    probes := startTemp.probes.set 0 { startProbe with state := .valid, filtered := some 200 } }

theorem test_witness_commit_of_map_and_probes :
    (∀ case : Fin 3, (committingMap case).heldLow = false
        ∧ ((committingMap case).prof.write.map (fun w => (w.reason, w.content.profile))) = some (.commit, changedMap case)
        ∧ (committingMap case).prof.claim ≠ none
        ∧ ((committingMap case).port .cab).deferred = some { kind := .commit, tag := 9 })
      ∧ (∀ case : Fin 3, profileGood (changedMap case) = true) ∧ profileGood slowerSet = true
      ∧ (changedMap 0).strips ≠ siteProfile.strips ∧ (changedMap 1).strips = siteProfile.strips
      ∧ (changedMap 1).probes.entries[(0 : ProbeIx)].trim ≠ siteProfile.probes.entries[(0 : ProbeIx)].trim
      ∧ (changedMap 2).probes.entries[(0 : ProbeIx)].enabled = false
      ∧ siteProfile.probes.entries[(0 : ProbeIx)].enabled = true
      ∧ (changedMap 2).probes.entries[(1 : ProbeIx)].enabled = true
      ∧ siteProfile.probes.entries[(1 : ProbeIx)].enabled = false
      ∧ (changedMap 0).probes.curve = siteProfile.probes.curve := by decide +kernel

/-- R21, R45, R51: what the three commits do to channels, probes, the conversion and the events. -/
theorem test_commit_of_map_and_probes :
    let after := fun case => (committingMap case).commitDone
      { commitWrite with content := { goodImage with profile := changedMap case } }
    (after 0).strip.channels[(0 : ChanIx)].state = .settling ∧ (after 0).strip.channels[(3 : ChanIx)].state = .off
      ∧ (after 0).ports.svc.events[EventClass.channelState.index] = { count := 3, list := 7 }
      ∧ (after 1).temp.probes[(0 : ProbeIx)].state = .warmup
      ∧ (after 1).temp.conv = some ⟨.probe 0, .scan, 2999900, false⟩
      ∧ (after 2).temp.probes[(0 : ProbeIx)].state = .absent ∧ (after 2).temp.probes[(1 : ProbeIx)].state = .warmup
      ∧ (after 2).temp.conv = some ⟨.probe 0, .scan, 2999900, true⟩
      ∧ (after 2).ports.svc.events[EventClass.probeState.index] = { count := 2, list := 3 } := by decide +kernel

/-- The site with a write of a reason in progress. -/
def writing (k : Reason) (x : SiteState) : State :=
  (withMedium .blank (some (writeFor k))).setSite { road.site with state := x }

theorem test_witness_write_ends :
    (writing .learned .weighing).prof.write = some (writeFor .learned)
      ∧ (writing .boot .init).prof.write = some (writeFor .boot) ∧ (writing .boot .init).site.state = .init
      ∧ (writing .lock .weighing).prof.write = some (writeFor .lock)
      ∧ hasPassed (writeFor .lock).start 1 (writing .lock .weighing).now = true := by decide +kernel

/-- The site in NOPROFILE. -/
def bare : State :=
  road.setSite { road.site with state := .noProfile }

theorem test_witness_lock :
    Admitted .lock .svc [] bare ∧ bare.site.state = .noProfile
      ∧ Admitted .lock .svc [] (staging siteProfile true) ∧ (staging siteProfile true).prof.locked = true
      ∧ Admitted .lock .svc [] parked ∧ parked.site.state ≠ .noProfile ∧ parked.prof.locked = false
      ∧ parked.prof.lockPending = false :=
  ⟨admitted_of_admits (by decide +kernel), by decide +kernel, admitted_of_admits (by decide +kernel), by decide +kernel,
    admitted_of_admits (by decide +kernel), by decide +kernel⟩

theorem test_witness_restart_request :
    Admitted .restart .svc [] parked ∧ parked.site.restart = none ∧ Admitted .restart .svc [] (restarting .blank)
      ∧ (restarting .blank).site.restart ≠ none :=
  ⟨admitted_of_admits (by decide +kernel), by decide +kernel, admitted_of_admits (by decide +kernel), by decide +kernel⟩

theorem road_idle_lanes_empty : IdleLanesEmpty road := by unfold IdleLanesEmpty; decide +kernel

theorem test_witness_site_run :
    Admitted .siteRun .cab [1] bare ∧ Admitted .siteRun .cab [2] bare ∧ bare.site.state = .noProfile
      ∧ Admitted .siteRun .cab [2] road ∧ road.site.state ≠ .noProfile ∧ 1 < (2 : Byte).toNat ∧ (1 : Byte).toNat ≤ 1 ∧ Admitted .siteRun .cab [1] parked
      ∧ Admitted .siteRun .cab [0] road ∧ IdleLanesEmpty road :=
  ⟨admitted_of_admits (by decide +kernel), admitted_of_admits (by decide +kernel), by decide +kernel,
    admitted_of_admits (by decide +kernel), by decide +kernel, by decide, by decide, admitted_of_admits (by decide +kernel),
    admitted_of_admits (by decide +kernel), road_idle_lanes_empty⟩

/-- R169: in NOPROFILE too a value other than on and off is BAD_VALUE. -/
theorem test_site_run_value :
    (siteRunOwner [2] bare).2 = .refused .badValue 0 0 ∧ (siteRunOwner [1] bare).2 = .refused .noProfile 0 0
      ∧ (siteRunOwner [0] bare).2 = .refused .noProfile 0 0 := by decide +kernel

theorem test_witness_lane_set :
    Admitted .laneSet .cab [0, 1] road ∧ Admitted .laneSet .cab [7, 1] road ∧ Admitted .laneSet .cab [1, 2] road
      ∧ Admitted .laneSet .cab [6, 1] road ∧ (6 : Byte).toNat = (5 : LaneIx).val + 1 ∧ road.laneActive 5 = false
      ∧ Admitted .laneSet .cab [1, 1] road ∧ (1 : Byte).toNat = (0 : LaneIx).val + 1 ∧ road.laneActive 0 = true :=
  ⟨admitted_of_admits (by decide +kernel), admitted_of_admits (by decide +kernel), admitted_of_admits (by decide +kernel),
    admitted_of_admits (by decide +kernel), by decide, by decide +kernel, admitted_of_admits (by decide +kernel), by decide,
    by decide +kernel⟩

/-- Lane 1 with an open frame or none and a hit waiting, and a candidate of lane 2 that waits for a hit of its own. -/
def closingLane (frame : Option Frame) : State :=
  (road.setFormer { startFormer with
    waitA := (startFormer.waitA.set 0 [leadHit 2999700]).set 2 [{ leadHit 2999800 with lane := 1 }],
    candidates := (startFormer.candidates.set 0 [oneSided 5 (leadHit 2999700)]).set 1
      [oneSided 6 { leadHit 2999800 with lane := 1 }],
    nextId := 7 }).setFrame 0 frame

theorem test_witness_lane_set_active :
    Admitted .laneSet .cab [1, 1] (closingLane (some (frameAt 2999000))) ∧ Admitted .laneSet .svc [1, 1] (closingLane none)
      ∧ (closingLane (some (frameAt 2999000))).laneActive 0 = true
      ∧ (closingLane (some (frameAt 2999000))).asm.frames[(0 : LaneIx)] = some (frameAt 2999000)
      ∧ (closingLane none).asm.frames[(0 : LaneIx)] = none :=
  ⟨admitted_of_admits (by decide +kernel), admitted_of_admits (by decide +kernel), by decide +kernel⟩

theorem test_witness_lane_set_others (frame : Option Frame) :
    ∀ k : LaneIx, k ≠ 0 → ∀ c ∈ (closingLane frame).former.candidates[k],
      c.sides ≠ [] ∧ ∀ h, .waiting h ∈ c.sides → h.lane ≠ 0 := by
  intro k hk c hc
  have : ∀ k : LaneIx, k ≠ 0 → ∀ c ∈ (closingLane none).former.candidates[k],
      c = oneSided 6 { leadHit 2999800 with lane := 1 } := by decide +kernel
  obtain rfl := this k hk c hc
  refine ⟨by decide, fun h hm => ?_⟩
  obtain rfl : h = { leadHit 2999800 with lane := 1 } := by simpa [oneSided] using hm
  decide

/-- R39, R112: the frame closes ABORTED with class 0, the lane's candidate and hit are gone, lane 2's stay. -/
theorem test_lane_closed :
    let t := (closingLane (some (frameAt 2999000))).setClosure 0 true
    t.store.map (fun r => (r.seq, r.classCode, hasFlag r.flags .aborted, hasFlag r.flags .truncated)) = [(1, 0, true, false)]
      ∧ t.asm.seq = 2 ∧ t.asm.frames[(0 : LaneIx)] = none
      ∧ (t.former.candidates[(0 : LaneIx)].length, t.former.candidates[(1 : LaneIx)].length) = (0, 1)
      ∧ ((t.waiting .rowA 0).length, (t.waiting .rowA 2).length) = (0, 1) := by decide +kernel

/-! ### Witnesses: frames, requests and notices -/

theorem test_witness_requests :
    Admitted .timeSet .svc [1, 2, 3, 4, 5, 6] road ∧ Admitted .ident .svc [] road ∧ Admitted .status .svc [] road
      ∧ Admitted .eventEnable .svc [0, 32] road ∧ 32 ≤ (32 : Byte).toNat ∧ Admitted .eventEnable .svc [255, 31] road
      ∧ (31 : Byte).toNat < 32 :=
  ⟨admitted_of_admits (by decide +kernel), admitted_of_admits (by decide +kernel), admitted_of_admits (by decide +kernel),
    admitted_of_admits (by decide +kernel), by decide, admitted_of_admits (by decide +kernel), by decide⟩

/-- A site with something in every field of STATUS. -/
def shown : State :=
  let s := (learningWith (workedWindow.take 3)).setPorts { road.ports with
    stream := true, svc := { startPort .svc with
      deferred := some { kind := .probeNow, tag := 9 }, mask := 0x1005,
      links := { gap := 1, framing := 2, overrun := 3, length := 4, check := 5, overflow := 600 } } }
  (((s.setChannel 23 { channel .degraded .quiet with baseline := some (-2), bucket := 300, miss := 7, discard := 515 }).setFrame
    5 (some (frameAt 2995000))).raise .wrongWay 4).setStore [recordOf 2]

/-- Chapter 9, STATUS result: the last channel, lane 6 of the assembler, the asking port's counts and its request. -/
theorem test_status_fields :
    Admitted .status .svc [] shown ∧ (0 :: shown.statusResult .svc).length = 693
      ∧ HoldsAt (0 :: shown.statusResult .svc) 208 [3, 1, 0xFE, 0xFF, 44, 1, 7, 3, 2]
      ∧ HoldsAt (0 :: shown.statusResult .svc) 488 [1, 1, 0, 0, 0, 0, 0, 0, 0, 0]
      ∧ HoldsAt (0 :: shown.statusResult .svc) 498 [1, 2, 0, 1, 0, 0, 0, 1, 0, 0, 0, 40, 1, 0, 0, 0, 1]
      ∧ HoldsAt (0 :: shown.statusResult .svc) 515 [0xD7, 0x0F, 0, 0, 2, 3, 200, 0]
      ∧ HoldsAt (0 :: shown.statusResult .svc) 613 [1, 4, 0, 0, 0, 0]
      ∧ HoldsAt (0 :: shown.statusResult .svc) 678 [5, 16, 1, 0, 2, 0, 3, 0, 4, 0, 5, 0, 88, 2, 2] :=
  ⟨{ runs := rfl, room := by decide +kernel, notInit := .inl (by decide +kernel), free := .inr (.inr rfl),
     rightPort := .inr (by decide), fits := rfl }, by unfold HoldsAt; decide +kernel⟩

/-- R167: STATUS shows the lock and the pending mark (bits 4 and 5 by log 31). -/
theorem test_status_shows_lock :
    (∀ b : Bool, HoldsAt (0 :: (road.setProf { road.prof with locked := b }).statusResult .svc) 610 [if b then 16 else 0])
      ∧ HoldsAt (0 :: (road.setProf { road.prof with lockPending := true }).statusResult .svc) 610 [32] := by
  unfold HoldsAt; decide +kernel

theorem test_witness_unknown_kind :
    road.heldLow = false ∧ ((0 : Byte).toNat = 0 ∨ 18 < (0 : Byte).toNat) ∧ 18 < (19 : Byte).toNat
      ∧ (road.port .svc).replies.length < 4 := by decide +kernel

/-- A port with `n` replies waiting. -/
def replying (n : Nat) : State :=
  road.setPort .svc { startPort .svc with
    replies := List.replicate n { kind := 0x81, tag := 0, payload := [0], endsRestart := false } }

theorem test_witness_port_refusals :
    4 ≤ ((replying 4).port .svc).replies.length ∧ ((replying 3).port .svc).replies.length < 4
      ∧ (writing .boot .init).site.state = .init ∧ ReqKind.status ≠ .ident
      ∧ (committing.port .cab).deferred ≠ none ∧ committing.site.state ≠ .init
      ∧ (road.port .svc).deferred = none ∧ ReqKind.timeSet.lengthFits 5 = false := by decide +kernel

theorem test_witness_frame :
    (road.port .cab).rx = .hunt ∧ (List.replicate 1024 (0x5A : Byte)).length ≤ 1024
      ∧ ([] : List Byte).length ≤ 1024 := by decide +kernel

/-- The cabinet link's receiver so, its last byte 10 ms ago. -/
def receiving (x : RxState) : State :=
  road.setPort .cab { startPort .cab with rx := x, gapStart := 2999920 }

theorem test_witness_receiver :
    ((receiving .hunt).port .cab).rx = .hunt
      ∧ ((receiving (.length (some 0))).port .cab).rx = .length (some 0)
      ∧ (0 : Byte).toNat + 256 * (4 : Byte).toNat ≤ 1024 ∧ 1024 < (1 : Byte).toNat + 256 * (4 : Byte).toNat
      ∧ ((receiving (.check 0 1 0 [] (some 0))).port .cab).rx = .check 0 1 0 [] (some 0)
      ∧ (crc16 (leBytes 2 0 ++ [(1 : Byte), 0] ++ [])).toNat ≠ (0 : Byte).toNat + 256 * (0 : Byte).toNat
      ∧ (receiving (.length none)).heldLow = false ∧ ((receiving (.length none)).port .cab).rx ≠ .hunt
      ∧ hasPassed ((receiving (.length none)).port .cab).gapStart 80 (receiving (.length none)).now = true := by
  decide +kernel

/-- An IDENT with TAG 7 whose last byte is due, and a frame of an unknown KIND. -/
theorem test_witness_last_byte :
    ((receiving (.check 0 1 7 [] (some 0x7C))).port .cab).rx = .check 0 1 7 [] (some 0x7C)
      ∧ (receiving (.check 0 1 7 [] (some 0x7C))).heldLow = false ∧ (1 : Byte) = ReqKind.ident.code
      ∧ (∃ lo hi : Byte, (crc16 (leBytes 2 0 ++ [(1 : Byte), 7] ++ [])).toNat = lo.toNat + 256 * hi.toNat)
      ∧ (∃ lo hi : Byte, (crc16 (leBytes 2 0 ++ [(19 : Byte), 7] ++ [])).toNat = lo.toNat + 256 * hi.toNat)
      ∧ 18 < (19 : Byte).toNat :=
  ⟨by decide +kernel, by decide +kernel, by decide,
    ⟨BitVec.ofNat 8 (crc16 (leBytes 2 0 ++ [(1 : Byte), 7] ++ [])).toNat,
      BitVec.ofNat 8 ((crc16 (leBytes 2 0 ++ [(1 : Byte), 7] ++ [])).toNat / 256), by decide +kernel⟩,
    ⟨BitVec.ofNat 8 (crc16 (leBytes 2 0 ++ [(19 : Byte), 7] ++ [])).toNat,
      BitVec.ofNat 8 ((crc16 (leBytes 2 0 ++ [(19 : Byte), 7] ++ [])).toNat / 256), by decide +kernel⟩, by decide⟩

theorem test_witness_transmitter :
    ((replying 1).port .svc).tx = none
      ∧ ((replying 1).port .svc).replies = { kind := 0x81, tag := 0, payload := [0], endsRestart := false } :: []
      ∧ ((road.raise .storeHigh 0).port .cab).tx = none ∧ ((road.raise .storeHigh 0).port .cab).replies = []
      ∧ ((road.raise .storeHigh 0).port .cab).mask.getLsbD (9 : Fin 13).val = true
      ∧ 0 < ((road.raise .storeHigh 0).port .cab).events[(9 : Fin 13)].count := by decide +kernel

/-- A port sending the last byte of a frame. -/
def lastByte (endsRestart : Bool) : State :=
  road.setPort .svc { startPort .svc with tx := some { bytes := [0x5A], start := 2999999, endsRestart := endsRestart } }

theorem test_witness_transmit_complete :
    ((lastByte true).port .svc).tx = some { bytes := [0x5A], start := 2999999, endsRestart := true }
      ∧ ((lastByte false).port .svc).tx = some { bytes := [0x5A], start := 2999999, endsRestart := false }
      ∧ ((lastByte true).port .svc).setAfterFrame = false ∧ ((lastByte false).port .svc).setAfterFrame = false := by
  decide +kernel

/-- A port a restart has passed over, sending the last byte of a frame with these replies waiting. -/
def passed (replies : List Reply) (endsRestart : Bool) : State :=
  (road.setPort .cab { startPort .cab with
    tx := some { bytes := [0x5A], start := 2999999, endsRestart := endsRestart }, setAfterFrame := true,
    replies := replies }).setSite { road.site with restart := some { replySent := false } }

theorem test_witness_passed_port :
    ∀ rs ∈ [[], [otherReply], [{ otherReply with endsRestart := true }]], ∀ e ∈ [true, false],
      (passed rs e).heldLow = false
        ∧ ((passed rs e).port .cab).tx = some { bytes := [0x5A], start := 2999999, endsRestart := e }
        ∧ ((passed rs e).port .cab).setAfterFrame = true ∧ ((passed rs e).port .cab).replies = rs := by decide +kernel

/-- R48, R171, R186: a STREAM(on) taken meanwhile is off again, a PROBE_NOW of this port leaves the slot and one of the other
port stays, and a RESTART whose reply is emptied stays pending and is due. -/
theorem test_passed_port :
    ∀ p : Port,
      let s := (passed [{ otherReply with endsRestart := true }] false).setTemp
        { startTemp with slot := some { probe := 0, port := p, selected := true } }
      let t := (s.setPorts { s.ports with stream := true }).frameSent .cab
        { bytes := [0x5A], start := 2999999, endsRestart := false }
      t.ports.stream = false ∧ t.site.restart = some { replySent := true } ∧ t.restartDue = true
        ∧ t.temp.slot.isNone = decide (p = .cab) ∧ t.port .cab = startPort .cab := by
  intro p
  cases p <;> decide +kernel

/-- R183: two classes are due and one is not; the frame lists them in ascending code. -/
theorem test_event_payload :
    (((road.raise .storeHigh 0).raise .wrongWay 4).port .cab).eventPayload
      = [2, 1, 1, 4, 0, 0, 0, 10, 1, 0, 0, 0, 0] := by decide +kernel

/-! ### Witnesses: the whole machine -/

/-- A step of the site with a frame open and a record stored. -/
def busy : State :=
  ((framed 2990000 2998000).setStore [recordOf 15]).setPending [.bucketLeak]

theorem test_witness_invariants :
    StoreLimits busy ∧ IdleLanesEmpty busy ∧ (∀ p : Port, ∀ i : Fin 13, (busy.port p).events[i].count ≤ 255) := by
  refine ⟨⟨by decide +kernel, by decide +kernel, by decide +kernel, ?_⟩, by unfold IdleLanesEmpty; decide +kernel, ?_⟩
  · intro l f h
    have : ∀ l : LaneIx, (busy.asm.frames[l]).all (fun f => decide (1 ≤ f.axles.length ∧ f.axles.length ≤ 15)) = true := by
      decide +kernel
    have := this l
    rw [h] at this
    simpa using this
  · intro p
    cases p <;> decide +kernel

theorem test_witness_former_limits : FormerLimits busy := limits_of (by decide +kernel)

theorem test_witness_step_goes_on : ∃ t, step busy = .next t := by
  unfold step
  exact ⟨_, rfl⟩

theorem test_witness_other_command :
    (∀ strap, Instr.passStart ≠ .powerOn strap) ∧ (∀ strap, Instr.passStart ≠ .lineReset strap)
      ∧ Instr.passStart ≠ .resetNHeldLow ∧ Instr.passStart ≠ .restartTakesPlace
      ∧ (∀ agrees, Instr.passStart ≠ .imageWriteComplete agrees) := by simp

theorem test_witness_write_for_another_reason :
    (¬ (Instr.imageWriteComplete true = .imageWriteComplete true
        ∧ ∃ w, (writing .lock .weighing).prof.write = some w ∧ w.reason = .commit))
      ∧ ¬ (Instr.imageWriteComplete false = .imageWriteComplete true
        ∧ ∃ w, committing.prof.write = some w ∧ w.reason = .commit) := by
  refine ⟨?_, by simp⟩
  rintro ⟨-, w, hw, hr⟩
  obtain rfl : writeFor .lock = w := Option.some.inj hw
  exact absurd hr (by decide)

/-- A class table of one entry with every range. -/
def wideClass : ClassEntry :=
  { code := 31, minAxles := 1, maxAxles := 15, track := .required, ranges := List.replicate 14 (0, 65535),
    gross := some (0, 983025), length := some (0, 4000) }

theorem test_witness_class_table :
    (List.replicate 32 wideClass).length ≤ 32 ∧ ∀ e ∈ List.replicate 32 wideClass, classOk e = true := by decide +kernel

end Sys2Proof.Tests
end

section
/-! Chapter 5, the interpolation (R89): the two roundings, the shared interpolation and the tables read with it. -/

namespace Sys2Proof.Machine

open Sys2Proof

/-! ### The two roundings -/

/-- The quotient rounded half up lies within half a divisor of the dividend, above it on a tie. -/
theorem roundHalfUp_bounds (x : Nat) {d : Nat} (hd : 0 < d) :
    2 * (roundHalfUp x d * d) ≤ 2 * x + d ∧ 2 * x < 2 * (roundHalfUp x d * d) + d := by
  have hlo := Nat.div_mul_le_self (x * 2 + d) (2 * d)
  have hhi := Nat.lt_div_mul_add (a := x * 2 + d) (b := 2 * d) (by omega)
  have hmul : roundHalfUp x d * (2 * d) = 2 * (roundHalfUp x d * d) := by ring
  rw [← roundHalfUp, hmul] at hlo hhi
  omega

theorem roundHalfUp_mono {x y : Nat} (d : Nat) (h : x ≤ y) : roundHalfUp x d ≤ roundHalfUp y d :=
  Nat.div_le_div_right (by omega)

theorem roundHalfUp_mul_self (x : Nat) {d : Nat} (hd : 0 < d) : roundHalfUp (x * d) d = x :=
  Nat.div_eq_of_lt_le (by nlinarith) (by nlinarith)

theorem roundHalfUp_zero {d : Nat} (hd : 0 < d) : roundHalfUp 0 d = 0 := by
  simpa using roundHalfUp_mul_self 0 hd

theorem roundHalfAway_natCast (x d : Nat) : roundHalfAway x d = roundHalfUp x d := by
  simp [roundHalfAway]

theorem roundHalfAway_zero {d : Nat} (hd : 0 < d) : roundHalfAway 0 d = 0 := by
  simpa [roundHalfUp_zero hd] using roundHalfAway_natCast 0 d

theorem roundHalfAway_neg_natCast (x : Nat) {d : Nat} (hd : 0 < d) :
    roundHalfAway (-(x : Int)) d = -(roundHalfUp x d : Int) := by
  rcases Nat.eq_zero_or_pos x with rfl | hx
  · simp [roundHalfAway_zero hd, roundHalfUp_zero hd]
  · simp [roundHalfAway, hx]

/-- Half away from zero (00_scope, Rounding): the rounded quotient is nearest, and on a tie the one of greater
magnitude. -/
theorem roundHalfAway_nearest (n : Int) {d : Nat} (hd : 0 < d) :
    2 * (roundHalfAway n d * d - n).natAbs ≤ d
      ∧ (2 * (roundHalfAway n d * d - n).natAbs = d → n.natAbs < (roundHalfAway n d * d).natAbs) := by
  obtain ⟨x, rfl | rfl⟩ := n.eq_nat_or_neg <;> obtain ⟨hle, hlt⟩ := roundHalfUp_bounds x hd
  · rw [roundHalfAway_natCast, ← Nat.cast_mul]
    omega
  · rw [roundHalfAway_neg_natCast x hd, neg_mul, ← Nat.cast_mul]
    omega

/-- The part `m / d` of a rise or fall `p`, rounded, does not leave it. -/
theorem roundHalfAway_mul_between (p : Int) {m d : Nat} (hd : 0 < d) (hm : m ≤ d) :
    min 0 p ≤ roundHalfAway (p * m) d ∧ roundHalfAway (p * m) d ≤ max 0 p := by
  have hle (x : Nat) : roundHalfUp (x * m) d ≤ x :=
    (roundHalfUp_mono d (Nat.mul_le_mul_left x hm)).trans_eq (roundHalfUp_mul_self x hd)
  obtain ⟨x, rfl | rfl⟩ := p.eq_nat_or_neg <;> have := hle x
  · rw [← Nat.cast_mul, roundHalfAway_natCast]
    omega
  · rw [neg_mul, ← Nat.cast_mul, roundHalfAway_neg_natCast _ hd]
    omega

/-! ### The interpolation -/

theorem interpolate_of_le {x0 p0 x : Int} {rest : List (Int × Int)} (h : x ≤ x0) :
    interpolate ((x0, p0) :: rest) x = p0 := by
  cases rest with
  | nil => rfl
  | cons b rest => simp [interpolate, h]

theorem interpolate_singleton (x0 p0 x : Int) : interpolate [(x0, p0)] x = p0 := rfl

theorem interpolate_segment {x0 p0 x1 p1 x : Int} {rest : List (Int × Int)} (h0 : x0 ≤ x) (h1 : x < x1) :
    interpolate ((x0, p0) :: (x1, p1) :: rest) x
      = p0 + roundHalfAway ((p1 - p0) * (x - x0)) (x1 - x0).toNat := by
  rcases h0.eq_or_lt with rfl | h0
  · rw [interpolate_of_le le_rfl, sub_self, mul_zero, roundHalfAway_zero (by omega), add_zero]
  · simp [interpolate, h0.not_ge, h1]

theorem interpolate_beyond {x0 p0 x1 p1 x : Int} {rest : List (Int × Int)} (h0 : x0 < x) (h1 : x1 ≤ x) :
    interpolate ((x0, p0) :: (x1, p1) :: rest) x = interpolate ((x1, p1) :: rest) x := by
  simp [interpolate, h0.not_ge, h1.not_gt]

/-- Inside a segment the value stays between the segment's two values. -/
theorem interpolate_segment_between {x0 p0 x1 p1 x : Int} {rest : List (Int × Int)} (h0 : x0 ≤ x) (h1 : x < x1) :
    min p0 p1 ≤ interpolate ((x0, p0) :: (x1, p1) :: rest) x
      ∧ interpolate ((x0, p0) :: (x1, p1) :: rest) x ≤ max p0 p1 := by
  have hb := roundHalfAway_mul_between (p1 - p0) (m := (x - x0).toNat) (d := (x1 - x0).toNat) (by omega) (by omega)
  rw [Int.toNat_of_nonneg (by omega)] at hb
  rw [interpolate_segment h0 h1]
  omega

/-- At and beyond a breakpoint, the entries before it have no say. -/
theorem interpolate_append {x0 p0 x : Int} {rest : List (Int × Int)} (hx : x0 ≤ x) :
    ∀ {pre : List (Int × Int)}, (pre ++ (x0, p0) :: rest).Pairwise (fun a b => a.1 < b.1) →
      interpolate (pre ++ (x0, p0) :: rest) x = interpolate ((x0, p0) :: rest) x
  | [], _ => rfl
  | [_], h => interpolate_beyond ((List.rel_of_pairwise_cons h List.mem_cons_self).trans_le hx) hx
  | a :: b :: pre, h => by
    have hbefore : ∀ e ∈ a :: b :: pre, e.1 < x := fun e he =>
      ((List.pairwise_append.mp h).2.2 e he _ List.mem_cons_self).trans_le hx
    calc interpolate (a :: b :: pre ++ (x0, p0) :: rest) x
      _ = interpolate (b :: pre ++ (x0, p0) :: rest) x :=
        interpolate_beyond (hbefore a (by simp)) (hbefore b (by simp)).le
      _ = interpolate ((x0, p0) :: rest) x := interpolate_append hx h.of_cons

theorem interpolate_breakpoint {t : List (Int × Int)} (h : t.Pairwise (fun a b => a.1 < b.1)) {b : Int × Int}
    (hb : b ∈ t) : interpolate t b.1 = b.2 := by
  obtain ⟨pre, post, rfl⟩ := List.append_of_mem hb
  rw [interpolate_append le_rfl h, interpolate_of_le le_rfl]

/-- Silent end clamping: no result leaves the span of the table's values. -/
theorem interpolate_between_values {t : List (Int × Int)} (ht : t ≠ []) (x : Int) :
    ∃ a ∈ t, ∃ b ∈ t, a.2 ≤ interpolate t x ∧ interpolate t x ≤ b.2 := by
  induction t with
  | nil => contradiction
  | cons e rest ih =>
    obtain ⟨x0, p0⟩ := e
    rcases le_or_gt x x0 with h0 | h0
    · exact ⟨_, List.mem_cons_self, _, List.mem_cons_self, (interpolate_of_le h0).ge, (interpolate_of_le h0).le⟩
    cases rest with
    | nil => exact ⟨_, List.mem_cons_self, _, List.mem_cons_self, le_rfl, le_rfl⟩
    | cons e rest =>
      obtain ⟨x1, p1⟩ := e
      rcases lt_or_ge x x1 with h1 | h1
      · have hb := interpolate_segment_between (p0 := p0) (p1 := p1) (rest := rest) h0.le h1
        rcases le_total p0 p1 with hp | hp
        · exact ⟨(x0, p0), by simp, (x1, p1), by simp, by simpa [hp] using hb⟩
        · exact ⟨(x1, p1), by simp, (x0, p0), by simp, by simpa [hp] using hb⟩
      · obtain ⟨a, ha, b, hb, hbounds⟩ := ih (by simp)
        rw [interpolate_beyond h0 h1]
        exact ⟨a, List.mem_cons_of_mem _ ha, b, List.mem_cons_of_mem _ hb, hbounds⟩

theorem interpolate_nonneg {t : List (Int × Int)} (h : ∀ b ∈ t, 0 ≤ b.2) (x : Int) : 0 ≤ interpolate t x := by
  rcases eq_or_ne t [] with rfl | ht
  · rfl
  · obtain ⟨a, ha, -, -, hle, -⟩ := interpolate_between_values ht x
    exact (h a ha).trans hle

/-! ### The tables -/

theorem onBreakpoints_getElem? (x0 step : Int) (ps : List Int) (i : Nat) :
    (onBreakpoints x0 step ps)[i]? = (ps[i]?).map (fun p => (x0 + step * i, p)) := by
  induction ps generalizing x0 i with
  | nil => rfl
  | cons p ps ih =>
    cases i with
    | zero => simp [onBreakpoints]
    | succ i =>
      have hx : x0 + step + step * i = x0 + step * (i + 1 : Nat) := by push_cast; ring
      simp only [onBreakpoints, List.getElem?_cons_succ, ih, hx]

theorem snd_mem_of_mem_onBreakpoints {x0 step : Int} {ps : List Int} {b : Int × Int}
    (h : b ∈ onBreakpoints x0 step ps) : b.2 ∈ ps := by
  obtain ⟨i, hi⟩ := List.mem_iff_getElem?.mp h
  rw [onBreakpoints_getElem?, Option.map_eq_some_iff] at hi
  obtain ⟨p, hp, rfl⟩ := hi
  exact List.mem_of_getElem? hp

/-- A table of factors interpolates to a factor: its values are not negative, so nothing is cut off at 0. -/
theorem interpolate_factors_nonneg (x0 step : Int) (fs : List Nat) (x : Int) :
    0 ≤ interpolate (onBreakpoints x0 step (fs.map Int.ofNat)) x := by
  refine interpolate_nonneg (fun b hb => ?_) x
  obtain ⟨f, -, hf⟩ := List.mem_map.mp (snd_mem_of_mem_onBreakpoints hb)
  exact hf ▸ Int.natCast_nonneg f

/-- Settles O27: the entries before a breakpoint have no say beyond it, so each case is that of a table's front. -/
theorem interpolationEvaluates : Obligations.InterpolationEvaluates := by
  refine ⟨fun t ht => ⟨?_, ?_, ?_, ?_, ?_⟩, fun n d hd => roundHalfAway_nearest n hd, onBreakpoints_getElem?, ?_, ?_, ?_⟩
  · rintro x0 p0 rest x rfl hx
    exact interpolate_of_le hx
  · rintro init xm pm x rfl hx
    exact (interpolate_append hx ht).trans (interpolate_singleton xm pm x)
  · rintro pre x0 p0 x1 p1 post x rfl h0 h1
    rw [interpolate_append h0 ht]
    exact ⟨interpolate_segment h0 h1, interpolate_segment_between h0 h1⟩
  · exact fun b hb => interpolate_breakpoint ht hb
  · intro lo hi x hne hb
    obtain ⟨a, ha, b, hb', hlo, hhi⟩ := interpolate_between_values hne x
    exact ⟨(hb a ha).1.trans hlo, hhi.trans (hb b hb').2⟩
  · exact fun t q raw => rfl
  · exact fun t x => Int.toNat_of_nonneg (interpolate_factors_nonneg _ _ _ _)
  · exact fun t v => Int.toNat_of_nonneg (interpolate_factors_nonneg _ _ _ _)

end Sys2Proof.Machine
end

section
/-! Chapter 5, the four stages of a wheel-row load (R87, R88, R93, R94). -/

namespace Sys2Proof.Machine

open Sys2Proof

theorem saturate_eq (limit x : Nat) : saturate limit x = (min x limit, decide (limit < x)) := by
  unfold saturate
  split <;> simp <;> omega

theorem weighSpeed_eq (v : Nat) : weighSpeed v = max 1500 (min 60000 v) := by
  unfold weighSpeed
  split_ifs <;> omega

theorem stage1_eq (a v w : Nat) : stage1 a v w =
    (min ((a * v + 4 * w) / (8 * w)) 4294967295, decide (4294967295 < (a * v + 4 * w) / (8 * w))) :=
  saturate_eq _ _

theorem stage2_eq (q k : Nat) :
    stage2 q k = (min ((q * k + 2048) / 4096) 4294967295, decide (4294967295 < (q * k + 2048) / 4096)) :=
  saturate_eq _ _

theorem stage4_eq (b f : Nat) :
    stage4 b f = (min ((b * f + 2048000) / 4096000) 65535, decide (65535 < (b * f + 2048000) / 4096000)) :=
  saturate_eq _ _

theorem stage4_load_le (b f : Nat) : (stage4 b f).1 ≤ 65535 := by
  rw [stage4_eq]
  exact min_le_right _ _

/-- The floor a stage states is the quotient rounded half up (00_scope, Rounding): adding half the divisor before the
division rounds. -/
theorem div_add_half_eq_roundHalfUp (x h : Nat) : (x + h) / (2 * h) = roundHalfUp x (2 * h) := by
  rw [roundHalfUp, show x * 2 + 2 * h = 2 * (x + h) by ring, Nat.mul_div_mul_left _ _ two_pos]

/-- R87's greatest quotient: at the least width, 20. -/
theorem stage1_quotient_le {x w : Nat} (hx : x ≤ 66975748 * 60000) (hw : 20 ≤ w) :
    (x + 4 * w) / (8 * w) ≤ 25115905500 :=
  Nat.le_of_lt_succ (Nat.div_lt_of_lt_mul (by omega))

/-- R93's bounds of the product of three factors in their ranges. -/
theorem factor_product_bounds {fT fV fA : Nat} (hT : 512 ≤ fT ∧ fT ≤ 2047) (hV : 512 ≤ fV ∧ fV ≤ 2047)
    (hA : 3686 ≤ fA ∧ fA ≤ 4506) : 966262784 ≤ fT * fV * fA ∧ fT * fV * fA ≤ 18881081754 :=
  ⟨Nat.mul_le_mul (Nat.mul_le_mul hT.1 hV.1) hA.1, Nat.mul_le_mul (Nat.mul_le_mul hT.2 hV.2) hA.2⟩

/-- The estimate is the composition of the stages (R84, R86 to R95). -/
theorem State.estimate_eq (s : State) (v : Nat) (h : HitRec) {q b l : Nat × Bool}
    (hq : q = stage1 h.area (max 1500 (min 60000 v)) (s.stripEntry h.channel).width)
    (hb : b = stage2 q.1 (s.stripEntry h.channel).k)
    (hl : l = stage4 b.1 (combinedFactor (tempFactor s.prof.active.tempcomp (s.tempArgument h.lane))
      (speedFactor s.prof.active.speedcomp (max 1500 (min 60000 v))) s.cal[h.lane].fA)) :
    s.estimate v h = { load := l.1, sat := q.2 || b.2 || l.2 } := by
  subst hl hb hq
  simp only [State.estimate, weighSpeed_eq]

/-- Rewriting with it keeps the kernel from evaluating a stage on a symbolic operand. -/
theorem Estimate.load_mk (load : Nat) (sat : Bool) : (Estimate.mk load sat).load = load := rfl

/-- A wheel-row load is at most the largest load a record carries (R94). -/
theorem State.estimate_load_le (s : State) (v : Nat) (h : HitRec) : (s.estimate v h).load ≤ 65535 := by
  rw [s.estimate_eq v h rfl rfl rfl, Estimate.load_mk]
  exact stage4_load_le _ _

/-- Settles O28: every stage saturates its floor, and each bound is that of the greatest product its operands
make. -/
theorem loadStages : Obligations.LoadStages := by
  refine ⟨fun a v w hw => ⟨stage1_eq a v w, ?_, fun ha hv => ?_⟩, by norm_num, fun a => ?_,
    fun q k => ⟨stage2_eq q k, div_add_half_eq_roundHalfUp (q * k) 2048, fun hq hk => ?_⟩, by norm_num,
    fun fT fV fA => ⟨rfl, div_add_half_eq_roundHalfUp (fT * fV * fA) 524288, ?_⟩, rfl, rfl,
    fun b f => ⟨stage4_eq b f, div_add_half_eq_roundHalfUp (b * f) 2048000, fun hb hf => ?_⟩, by norm_num,
    fun s v h q b l hq hb hl => s.estimate_eq v h hq hb hl⟩
  · rw [show 8 * w = 2 * (4 * w) by ring]
    exact div_add_half_eq_roundHalfUp (a * v) (4 * w)
  · have hav := Nat.mul_le_mul ha hv
    exact ⟨by omega, stage1_quotient_le hav⟩
  · rw [stage1_eq, decide_eq_true_iff]
    omega
  · have hqk := Nat.mul_le_mul hq hk
    omega
  · intro hT hT' hV hV' hA hA'
    obtain ⟨hle, hge⟩ := factor_product_bounds ⟨hT, hT'⟩ ⟨hV, hV'⟩ ⟨hA, hA'⟩
    unfold combinedFactor
    omega
  · have hbf := Nat.mul_le_mul hb hf
    omega

end Sys2Proof.Machine
end

section
/-! Chapter 5, the sums of loads (R100, R103): absent if any load is absent. -/

namespace Sys2Proof.Machine

open Sys2Proof

theorem sumAll_of_none_mem {l : List (Option Nat)} (h : none ∈ l) : sumAll l = none := by
  induction l with
  | nil => simp at h
  | cons o l ih =>
    cases o with
    | none => rfl
    | some x => simp [sumAll, ih (by simpa using h)]

theorem sumAll_of_all_present {l : List (Option Nat)} (h : ∀ o ∈ l, o ≠ none) :
    sumAll l = some (l.map (·.getD 0)).sum := by
  induction l with
  | nil => rfl
  | cons o l ih =>
    obtain ⟨x, rfl⟩ := Option.ne_none_iff_exists'.mp (h o List.mem_cons_self)
    simp [sumAll, ih fun o ho => h o (List.mem_cons_of_mem _ ho)]

theorem grossOf_of_absent {axles : List AxleEntry} (h : ∃ a ∈ axles, a.load = none) : grossOf axles = none :=
  sumAll_of_none_mem (List.mem_map.mpr h)

theorem grossOf_of_present {axles : List AxleEntry} (h : ∀ a ∈ axles, a.load ≠ none) :
    grossOf axles = some (axles.map (fun a => a.load.getD 0)).sum := by
  rw [grossOf, sumAll_of_all_present (by simpa using h), List.map_map]
  rfl

/-- A record's gross is at most its number of axles times the greatest axle load. -/
theorem grossOf_le {axles : List AxleEntry} {g limit : Nat} (hl : ∀ a ∈ axles, ∀ x, a.load = some x → x ≤ limit)
    (hg : grossOf axles = some g) : g ≤ axles.length * limit := by
  have hall : ∀ a ∈ axles, a.load ≠ none := fun a ha hn => by simp [grossOf_of_absent ⟨a, ha, hn⟩] at hg
  obtain rfl : (axles.map (fun a => a.load.getD 0)).sum = g := by simpa [grossOf_of_present hall] using hg
  have hle : ∀ x ∈ axles.map (fun a => a.load.getD 0), x ≤ limit := by
    simp only [List.mem_map]
    rintro _ ⟨a, ha, rfl⟩
    obtain ⟨x, hx⟩ := Option.ne_none_iff_exists'.mp (hall a ha)
    simpa [hx] using hl a ha x hx
  simpa using List.sum_le_card_nsmul _ limit hle

/-- Settles O30: the gross is the sum over a record's axles, 15 loads of 65,535 at most. -/
theorem grossIsSumOfAxles : Obligations.GrossIsSumOfAxles :=
  ⟨fun _ => grossOf_of_absent, fun _ => grossOf_of_present,
    fun _ _ hn hl hg => (grossOf_le hl hg).trans (Nat.mul_le_mul_right 65535 hn),
    fun _ _ _ _ => rfl, fun _ _ _ => ⟨rfl, rfl, rfl⟩⟩

end Sys2Proof.Machine
end

section
/-! The members of a flag set (chapter 9, Vehicle record): every flag has a bit of its own. -/

namespace Sys2Proof.Machine

open Sys2Proof

theorem Flag.bit_eq_ctorIdx (f : Flag) : f.bit = f.ctorIdx := by cases f <;> rfl

theorem Flag.bit_injective : Function.Injective Flag.bit := fun f g h => by
  rw [← Flag.ofNat_ctorIdx f, ← Flag.ofNat_ctorIdx g, ← f.bit_eq_ctorIdx, ← g.bit_eq_ctorIdx, h]

theorem Flag.bit_lt (f : Flag) : f.bit < 32 := by cases f <;> decide

@[simp] theorem hasFlag_zero (f : Flag) : hasFlag 0#32 f = false := BitVec.getLsbD_zero

@[simp] theorem hasFlag_or (a b : BitVec 32) (f : Flag) : hasFlag (a ||| b) f = (hasFlag a f || hasFlag b f) :=
  BitVec.getLsbD_or

@[simp] theorem hasFlag_one (f g : Flag) : hasFlag f.one g = decide (f = g) := by
  rw [hasFlag, Flag.one, BitVec.getLsbD_ofNat, Nat.testBit_two_pow]
  simp [g.bit_lt, Flag.bit_injective.eq_iff]

@[simp] theorem hasFlag_flagIf (b : Bool) (f g : Flag) : hasFlag (flagIf b f) g = (b && decide (f = g)) := by
  cases b <;> simp [flagIf]

theorem hasFlag_foldl_or (l : List (BitVec 32)) (a : BitVec 32) (f : Flag) :
    hasFlag (l.foldl (· ||| ·) a) f = (hasFlag a f || l.any (hasFlag · f)) := by
  induction l generalizing a with
  | nil => simp
  | cons b l ih => simp [ih, Bool.or_assoc]

@[simp] theorem hasFlag_unionFlags (l : List (BitVec 32)) (f : Flag) :
    hasFlag (unionFlags l) f = l.any (hasFlag · f) := by
  simp [unionFlags, hasFlag_foldl_or]

end Sys2Proof.Machine
end

section
/-! Chapter 5, the wheel load (R96 to R101): usable rows, their combination, the wheel and the axle. -/

namespace Sys2Proof.Machine

open Sys2Proof

/-! ### Usable rows (R96) -/

theorem usableHits_of_normal {hits : List SeenHit} (h : ∃ x ∈ hits, x.state = .normal) :
    usableHits hits = (hits.filter (fun x => decide (x.state = .normal)), 0) := by
  have hne : hits.filter (fun x => decide (x.state = .normal)) ≠ [] := by simpa using h
  simp only [usableHits, if_pos hne]

theorem usableHits_of_degraded {hits : List SeenHit} (hn : ∀ x ∈ hits, x.state ≠ .normal)
    (h : ∃ x ∈ hits, x.state = .degraded) :
    usableHits hits = (hits.filter (fun x => decide (x.state = .degraded)), Flag.clip.one) := by
  have hnil : ¬ hits.filter (fun x => decide (x.state = .normal)) ≠ [] := by simpa using hn
  have hne : hits.filter (fun x => decide (x.state = .degraded)) ≠ [] := by simpa using h
  simp only [usableHits, if_neg hnil, if_pos hne]

theorem usableHits_of_neither {hits : List SeenHit} (h : ∀ x ∈ hits, x.state ≠ .normal ∧ x.state ≠ .degraded) :
    usableHits hits = ([], Flag.unweighed.one) := by
  have hn : ¬ hits.filter (fun x => decide (x.state = .normal)) ≠ [] := by simpa using fun x hx => (h x hx).1
  have hd : ¬ hits.filter (fun x => decide (x.state = .degraded)) ≠ [] := by simpa using fun x hx => (h x hx).2
  simp only [usableHits, if_neg hn, if_neg hd]

theorem hasFlag_usableHits {f : Flag} (hc : f ≠ .clip) (hu : f ≠ .unweighed) (hits : List SeenHit) :
    hasFlag (usableHits hits).2 f = false := by
  simp only [usableHits]
  split_ifs <;> simp [hc.symm, hu.symm]

/-! ### Combination (R97, R98) -/

theorem hasFlag_speedFlags {f : Flag} (hl : f ≠ .lowSpd) (hh : f ≠ .highSpd) (v : Nat) :
    hasFlag (speedFlags v) f = false := by
  simp [speedFlags, hl.symm, hh.symm]

theorem hasFlag_combineRows {f : Flag} (ho : f ≠ .oneRow) (hr : f ≠ .rowSplit) (hs : f ≠ .sat) (tolerance : Nat)
    (es : List Estimate) : hasFlag (combineRows tolerance es).2 f = false := by
  match es with
  | [] => simp [combineRows]
  | [_] => simp [combineRows, ho.symm, hs.symm]
  | _ :: _ :: _ => simp [combineRows, hr.symm, hs.symm]

/-! ### The wheel -/

/-- The estimates a wheel's load is made of: those of its usable rows. -/
def State.usableEstimates (s : State) (v : Nat) (w : AxleWheel) : List Estimate :=
  (usableHits w.hits).1.map (fun h => s.estimate v h.hit)

theorem State.weighWheel_hits (s : State) (v : Nat) (w : AxleWheel) : (s.weighWheel v w).hits = w.hits := rfl

theorem State.weighWheel_load (s : State) (v : Nat) (w : AxleWheel) :
    (s.weighWheel v w).load = (combineRows s.prof.active.site.rowTolerance (s.usableEstimates v w)).1 := rfl

/-- But for LOWSPD and HIGHSPD, a weighed wheel's flags are those it had, its usability mark and those of its rows. -/
theorem State.hasFlag_weighWheel (s : State) (v : Nat) (w : AxleWheel) {f : Flag} (hl : f ≠ .lowSpd)
    (hh : f ≠ .highSpd) :
    hasFlag (s.weighWheel v w).flags f = (hasFlag w.flags f || hasFlag (usableHits w.hits).2 f
      || hasFlag (combineRows s.prof.active.site.rowTolerance (s.usableEstimates v w)).2 f) := by
  have hspeed : hasFlag (if (usableHits w.hits).1 = [] then 0 else speedFlags v) f = false := by
    split_ifs
    · exact hasFlag_zero f
    · exact hasFlag_speedFlags hl hh v
  simp only [State.weighWheel, hasFlag_or, hspeed, Bool.or_false, State.usableEstimates]

theorem State.weighWheel_clip (s : State) (v : Nat) (w : AxleWheel) :
    hasFlag (s.weighWheel v w).flags .clip = (hasFlag w.flags .clip || hasFlag (usableHits w.hits).2 .clip) := by
  rw [s.hasFlag_weighWheel v w (by decide) (by decide), hasFlag_combineRows (by decide) (by decide) (by decide),
    Bool.or_false]

/-- Two usable rows (R97). -/
theorem State.weighWheel_two_rows (s : State) (v : Nat) {w : AxleWheel} {a b : SeenHit}
    (h : (usableHits w.hits).1 = [a, b]) :
    (s.weighWheel v w).load = some (((s.estimate v a.hit).load + (s.estimate v b.hit).load + 1) / 2)
      ∧ hasFlag (s.weighWheel v w).flags .rowSplit = (hasFlag w.flags .rowSplit
        || rowsSplit s.prof.active.site.rowTolerance (s.estimate v a.hit).load (s.estimate v b.hit).load) := by
  have hes : s.usableEstimates v w = [s.estimate v a.hit, s.estimate v b.hit] := by simp [State.usableEstimates, h]
  rw [s.weighWheel_load, s.hasFlag_weighWheel v w (by decide) (by decide),
    hasFlag_usableHits (by decide) (by decide), hes]
  simp [combineRows]

/-- One usable row (R98). -/
theorem State.weighWheel_one_row (s : State) (v : Nat) {w : AxleWheel} {h : SeenHit}
    (hu : (usableHits w.hits).1 = [h]) :
    (s.weighWheel v w).load = some (s.estimate v h.hit).load
      ∧ hasFlag (s.weighWheel v w).flags .oneRow = true
      ∧ hasFlag (s.weighWheel v w).flags .rowSplit = hasFlag w.flags .rowSplit := by
  have hes : s.usableEstimates v w = [s.estimate v h.hit] := by simp [State.usableEstimates, hu]
  rw [s.weighWheel_load, s.hasFlag_weighWheel v w (by decide) (by decide),
    s.hasFlag_weighWheel v w (by decide) (by decide), hasFlag_usableHits (f := .rowSplit) (by decide) (by decide), hes]
  simp [combineRows]

/-- No usable row (R99). -/
theorem State.weighWheel_unweighed (s : State) (v : Nat) {w : AxleWheel}
    (h : ∀ x ∈ w.hits, x.state ≠ .normal ∧ x.state ≠ .degraded) :
    (s.weighWheel v w).load = none ∧ hasFlag (s.weighWheel v w).flags .unweighed = true := by
  have hu := usableHits_of_neither h
  rw [s.weighWheel_load, s.hasFlag_weighWheel v w (by decide) (by decide), State.usableEstimates, hu]
  simp [combineRows]

/-! ### The axle (R100, R101) -/

theorem State.loadAxle_wheels (s : State) {a : AxleRec} {v : Nat} (h : a.speed = some v) :
    (s.loadAxle a).wheels = a.wheels.map (s.weighWheel v) := by
  simp only [State.loadAxle, h]

theorem State.loadAxle_load (s : State) {a : AxleRec} {v : Nat} (h : a.speed = some v) :
    (s.loadAxle a).load = (axleLoad (a.wheels.map (s.weighWheel v))).1 := by
  simp only [State.loadAxle, h]

theorem axleLoad_of_absent {ws : List AxleWheel} (h : ∃ w ∈ ws, w.load = none) : axleLoad ws = (none, false) := by
  simp only [axleLoad, sumAll_of_none_mem (List.mem_map.mpr h)]

/-- An axle takes every flag of its weighed wheels (R101). -/
theorem State.hasFlag_loadAxle_of_wheel (s : State) {a : AxleRec} {v : Nat} (h : a.speed = some v) {w : AxleWheel}
    (hw : w ∈ a.wheels) {f : Flag} (hf : hasFlag (s.weighWheel v w).flags f = true) :
    hasFlag (s.loadAxle a).flags f = true := by
  have hany : hasFlag (unionFlags ((a.wheels.map (s.weighWheel v)).map (fun w => w.flags))) f = true := by
    rw [hasFlag_unionFlags, List.any_eq_true]
    exact ⟨_, List.mem_map_of_mem (List.mem_map_of_mem hw), hf⟩
  simp only [State.loadAxle, h, hasFlag_or, hany, Bool.or_true, Bool.true_or]

/-! ### Without a gross (R123, R136) -/

theorem ClassEntry.not_matchesRecord_of_no_gross {e : ClassEntry} {range : Nat × Nat} (h : e.gross = some range)
    (axles : List AxleEntry) (length : Option Nat) : e.matchesRecord axles none length = false := by
  have hrange : optionalRange e.gross none = false := by rw [h]; rfl
  simp [ClassEntry.matchesRecord, hrange]

theorem State.offerFailure_of_no_gross (s : State) {r : VehicleRec} (h : r.gross = none) : s.offerFailure r ≠ none := by
  have hgross (lo hi : Nat) : presentWithin lo hi r.gross = false := by rw [h]; rfl
  simp only [State.offerFailure, hgross, Bool.not_false, if_true]
  split_ifs <;> exact Option.some_ne_none _

/-- Settles O29: usable rows, then their combination, then the wheel and the axle that carries its marks. -/
theorem wheelRowsUsable : Obligations.WheelRowsUsable := by
  refine ⟨fun s v w => ⟨s.weighWheel_hits v w, fun hn => ?_, fun hn hd => ?_, fun h => ?_⟩, ?_, ?_,
    fun s v w h => s.weighWheel_unweighed v h, ?_, ?_, fun s r h => s.offerFailure_of_no_gross h⟩
  · rw [s.weighWheel_clip, usableHits_of_normal hn]
    simp
  · have hclip : hasFlag (s.weighWheel v w).flags .clip = true := by
      rw [s.weighWheel_clip, usableHits_of_degraded hn hd]
      simp
    exact ⟨by rw [usableHits_of_degraded hn hd], hclip, fun a hv hw => s.hasFlag_loadAxle_of_wheel hv hw hclip⟩
  · rw [usableHits_of_neither h]
  · rintro s v w a b x y hu rfl rfl
    obtain ⟨hload, hsplit⟩ := s.weighWheel_two_rows v hu
    have hx := s.estimate_load_le v a.hit
    have hy := s.estimate_load_le v b.hit
    exact ⟨hload, by omega, hsplit⟩
  · intro s v w h hu
    obtain ⟨hload, hone, hsplit⟩ := s.weighWheel_one_row v hu
    exact ⟨hload, hone, fun hw => hsplit.trans hw⟩
  · intro s a v w hv hw h
    obtain ⟨hload, hflag⟩ := s.weighWheel_unweighed v h
    have habsent : ∃ u ∈ a.wheels.map (s.weighWheel v), u.load = none := ⟨_, List.mem_map_of_mem hw, hload⟩
    exact ⟨by rw [s.loadAxle_load hv, axleLoad_of_absent habsent], s.hasFlag_loadAxle_of_wheel hv hw hflag,
      s.loadAxle_wheels hv⟩
  · intro axles e range length habsent he
    rw [grossOf_of_absent habsent]
    exact e.not_matchesRecord_of_no_gross he axles length

end Sys2Proof.Machine
end

section
/-! Chapter 8, EDIT_DISCARD (R159), and the port engine's refusal while a port holds a deferred request (R177, test 4). -/

namespace Sys2Proof.Machine

open Sys2Proof

/-! ### Refusals of the port engine (R177) -/

/-- A port that holds a deferred request turns away every other but IDENT and STATUS. -/
theorem portRefusal_of_deferred {s : State} {p : Port} {k : ReqKind} {d : Deferred} (hstate : s.site.state ≠ .init)
    (hd : (s.port p).deferred = some d) (hident : k ≠ .ident) (hstatus : k ≠ .status) (length : Nat) :
    s.portRefusal p k length = some .busy := by
  have htest3 : ¬ (s.site.state = .init ∧ k ≠ .ident) := fun h => hstate h.1
  have htest4 : (s.port p).deferred.isSome = true ∧ k ≠ .ident ∧ k ≠ .status := ⟨by simp [hd], hident, hstatus⟩
  rw [State.portRefusal, if_neg htest3, if_pos htest4]

/-- A request that the port engine refuses does not reach its block. -/
theorem takeRequest_of_portRefusal {s : State} {p : Port} {k : ReqKind} {payload : List Byte} {st : Status}
    (hroom : (s.port p).replies.length < 4) (h : s.portRefusal p k payload.length = some st) (tag : Byte)
    (owner : State → State × Answer) :
    s.takeRequest k p tag payload owner = s.withReply p (refusalReply k.code tag st 0 0) := by
  rcases takeRequest_cases s k p tag payload owner with ⟨hfull, _⟩ | ⟨st', hst', heq⟩ | ⟨_, hnone, _⟩
  · omega
  · obtain rfl : st = st' := Option.some.inj (h.symm.trans hst')
    exact heq
  · simp [h] at hnone

/-! ### The profile store's part -/

theorem editDiscardOwner_of_owner {s : State} {p : Port} {c : Claim} (hc : s.prof.claim = some c) (ho : c.owner = p)
    (ht : c.timer ≠ none) : editDiscardOwner p s = (s.setClaim none, .ok []) := by
  simp only [editDiscardOwner, claimOf_owner hc ho, onClaim_running ht]

theorem editDiscardOwner_of_not_owner {s : State} {p : Port} (h : ∀ c, s.prof.claim = some c → c.owner ≠ p) :
    editDiscardOwner p s = (s, .refused .notOwner 0 0) := by
  simp only [editDiscardOwner, claimOf_other h]

/-! ### The request -/

theorem exec_editDiscard_of_runs {s : State} (h : s.heldLow = false) (p : Port) (tag : Byte) (payload : List Byte) :
    exec (.editDiscard p tag payload) s = .next (s.takeRequest .editDiscard p tag payload (editDiscardOwner p)) :=
  whileRunning_of_runs h _

theorem exec_editDiscard_admitted {s : State} {p : Port} {payload : List Byte} (h : Admitted .editDiscard p payload s)
    (tag : Byte) :
    exec (.editDiscard p tag payload) s =
      .next ((editDiscardOwner p s).1.answer p ReqKind.editDiscard.code tag (editDiscardOwner p s).2) := by
  rw [exec_editDiscard_of_runs h.runs, takeRequest_admitted h]

/-- Settles O38: an admitted request is answered by the profile store, by whether the port owns the claim; one of a port
that holds its COMMIT is refused before it reaches the store. -/
theorem editDiscardReleases : Obligations.EditDiscardReleases := by
  refine ⟨fun s p tag h => ⟨fun c hc ho ht => ?_, fun hother => ?_⟩, fun s p tag t' hruns hroom hstate hd => ?_⟩
  · rw [exec_editDiscard_admitted h, editDiscardOwner_of_owner hc ho ht, answer_ok, State.setClaim]
  · rw [exec_editDiscard_admitted h, editDiscardOwner_of_not_owner hother, answer_refused]
  · have hbusy : s.portRefusal p .editDiscard ([] : List Byte).length = some .busy :=
      portRefusal_of_deferred hstate hd (by decide) (by decide) _
    rw [exec_editDiscard_of_runs hruns, takeRequest_of_portRefusal hroom hbusy]

end Sys2Proof.Machine
end

section
/-! The frames of the commands: which parts of the state a command, and the owner of a request, can change at all. -/

namespace Sys2Proof.Machine

open Sys2Proof

/-! ### Leaving parts of the state alone -/

namespace KeepsAllBut

variable {L M : List Block} {s t u : State}

theorem refl (L : List Block) (s : State) : KeepsAllBut L s s := fun b _ => by cases b <;> rfl

theorem trans (h : KeepsAllBut L s t) (k : KeepsAllBut L t u) : KeepsAllBut L s u := fun b hb => by
  have h1 := h b hb
  have h2 := k b hb
  cases b <;> exact Eq.trans h2 h1

theorem mono (h : KeepsAllBut L s t) (hLM : L ⊆ M) : KeepsAllBut M s t := fun b hb => h b fun hL => hb (hLM hL)

theorem ite {p : Prop} [Decidable p] (h : KeepsAllBut L s t) (k : KeepsAllBut L s u) :
    KeepsAllBut L s (if p then t else u) := by
  split
  · exact h
  · exact k

theorem setHeldLow (s : State) (x : Bool) : KeepsAllBut [.heldLow] s (s.setHeldLow x) := fun b hb => by
  cases b <;> simp at hb <;> rfl

theorem setStrip (s : State) (x : StripFrontEnd) : KeepsAllBut [.strip] s (s.setStrip x) := fun b hb => by
  cases b <;> simp at hb <;> rfl

theorem setLoops (s : State) (x : Vector LaneMonitor 6) : KeepsAllBut [.loops] s (s.setLoops x) := fun b hb => by
  cases b <;> simp at hb <;> rfl

theorem setTemp (s : State) (x : TempUnit) : KeepsAllBut [.temp] s (s.setTemp x) := fun b hb => by
  cases b <;> simp at hb <;> rfl

theorem setFormer (s : State) (x : AxleFormer) : KeepsAllBut [.former] s (s.setFormer x) := fun b hb => by
  cases b <;> simp at hb <;> rfl

theorem setAsm (s : State) (x : Assembler) : KeepsAllBut [.asm] s (s.setAsm x) := fun b hb => by
  cases b <;> simp at hb <;> rfl

theorem setStore (s : State) (x : List VehicleRec) : KeepsAllBut [.store] s (s.setStore x) := fun b hb => by
  cases b <;> simp at hb <;> rfl

theorem setCal (s : State) (x : Vector LaneCal 6) : KeepsAllBut [.cal] s (s.setCal x) := fun b hb => by
  cases b <;> simp at hb <;> rfl

theorem setProf (s : State) (x : ProfileStore) : KeepsAllBut [.prof] s (s.setProf x) := fun b hb => by
  cases b <;> simp at hb <;> rfl

theorem setSite (s : State) (x : SiteCtl) : KeepsAllBut [.site] s (s.setSite x) := fun b hb => by
  cases b <;> simp at hb <;> rfl

theorem setPorts (s : State) (x : Ports) : KeepsAllBut [.ports] s (s.setPorts x) := fun b hb => by
  cases b <;> simp at hb <;> rfl

theorem setFreeReads (s : State) (x : Nat) : KeepsAllBut [.freeReads] s (s.setFreeReads x) := fun b hb => by
  cases b <;> simp at hb <;> rfl

theorem setPort (s : State) (p : Port) (x : PortState) : KeepsAllBut [.ports] s (s.setPort p x) := by
  cases p <;> exact setPorts s _

theorem raise (s : State) (k : EventClass) (x : BitVec 32) : KeepsAllBut [.ports] s (s.raise k x) := setPorts s _

theorem raiseAt (s : State) (k : EventClass) (i : Nat) : KeepsAllBut [.ports] s (s.raiseAt k i) := setPorts s _

theorem withReply (s : State) (p : Port) (r : Reply) : KeepsAllBut [.ports] s (s.withReply p r) := setPort s p _

theorem placeReason (s : State) (k : Reason) : KeepsAllBut [.prof] s (s.placeReason k) := setProf s _

theorem setClaim (s : State) (c : Option Claim) : KeepsAllBut [.prof] s (s.setClaim c) := setProf s _

end KeepsAllBut

/-- The parts the measuring chain can change. -/
def measured : List Block :=
  [.strip, .loops, .former, .asm, .store, .cal, .prof, .ports]

theorem Measures.keepsAllBut {s t : State} (h : Measures s t) : KeepsAllBut measured s t := by
  intro b hb
  cases b <;> simp [measured] at hb
  · exact h.pending
  · exact h.now
  · exact h.heldLow
  · exact h.temp
  · exact h.site
  · exact h.freeReads

/-! ### Events, replies and link errors -/

theorem keepsAllBut_linkError (s : State) (p : Port) (e : LinkError) : KeepsAllBut [.ports] s (s.linkError p e) :=
  (KeepsAllBut.setPort s p _).trans (.raise _ _ _)

theorem keepsAllBut_answer (s : State) (p : Port) (kind tag : Byte) (a : Answer) :
    KeepsAllBut [.ports] s (s.answer p kind tag a) := by
  cases a <;> exact .setPort s p _

theorem keepsAllBut_endDeferred (s : State) (p : Port) (k : DeferredKind) (payload : List Byte) :
    KeepsAllBut [.ports] s (s.endDeferred p k payload) := by
  unfold State.endDeferred
  dsimp only
  split
  · exact .refl _ _
  · split
    · exact (KeepsAllBut.setPort _ _ _).trans (.setPort _ _ _)
    · exact .refl _ _

/-! ### The loop monitor -/

/-- The parts the loop monitor can change: its lanes, the length and the flags of an open frame, and events. -/
def loopParts : List Block :=
  [.loops, .asm, .ports]

theorem keepsAllBut_setLaneMon (s : State) (l : LaneIx) (m : LaneMonitor) : KeepsAllBut loopParts s (s.setLaneMon l m) :=
  (KeepsAllBut.setLoops s _).mono (by simp [loopParts])

theorem keepsAllBut_setFrame (s : State) (l : LaneIx) (f : Option Frame) : KeepsAllBut [.asm] s (s.setFrame l f) :=
  .setAsm s _

theorem keepsAllBut_occupancyReport (s : State) (l : LaneIx) (ct : Tick) :
    KeepsAllBut loopParts s (s.occupancyReport l ct) := by
  unfold State.occupancyReport
  dsimp only
  split
  · exact .refl _ _
  · exact (keepsAllBut_setLaneMon s l _).trans ((keepsAllBut_setFrame _ _ _).mono (by simp [loopParts]))

theorem keepsAllBut_presenceTakes (s : State) (l : LaneIx) (d : LoopPos) (occupied : Bool) (ct : Tick) (report : Bool) :
    KeepsAllBut loopParts s (s.presenceTakes l d occupied ct report) := by
  have hset := fun (t : State) (m : LaneMonitor) => keepsAllBut_setLaneMon t l m
  have hreport : KeepsAllBut loopParts s (if report then s.occupancyReport l ct else s) :=
    .ite (keepsAllBut_occupancyReport s l ct) (.refl _ _)
  unfold State.presenceTakes
  split
  · unfold State.upOccupied
    dsimp only
    split
    · exact hset _ _
    · exact hset _ _
    · exact hset _ _
    · exact .refl _ _
    · exact .refl _ _
  · unfold State.upFree
    dsimp only
    split
    · exact hreport.trans (hset _ _)
    · exact hreport.trans (hset _ _)
    · exact hset _ _
    · exact .refl _ _
    · exact .refl _ _
  · unfold State.downOccupied
    dsimp only
    split
    · exact (hset _ _).trans ((KeepsAllBut.raiseAt _ _ _).mono (by simp [loopParts]))
    · exact hset _ _
    · exact hset _ _
    · exact .refl _ _
    · exact .refl _ _
  · unfold State.downFree
    dsimp only
    split
    · exact hset _ _
    · exact hset _ _
    · exact hset _ _
    · exact .refl _ _
    · exact .refl _ _

theorem keepsAllBut_acceptChange (s : State) (l : LaneIx) (d : LoopPos) (ct : Tick) :
    KeepsAllBut loopParts s (s.acceptChange l d ct) := by
  unfold State.acceptChange
  dsimp only
  split
  · exact (keepsAllBut_setLaneMon _ _ _).trans (keepsAllBut_presenceTakes _ _ _ _ _ _)
  · exact (keepsAllBut_setLaneMon _ _ _).trans (keepsAllBut_presenceTakes _ _ _ _ _ _)
  · exact keepsAllBut_setLaneMon _ _ _

theorem keepsAllBut_congest (s : State) (l : LaneIx) : KeepsAllBut loopParts s (s.congest l) := by
  unfold State.congest
  dsimp only
  split
  · exact keepsAllBut_setLaneMon _ _ _
  · exact (keepsAllBut_setLaneMon s l _).trans
      (((keepsAllBut_setFrame _ _ _).mono (by simp [loopParts])).trans
        ((KeepsAllBut.raiseAt _ _ _).mono (by simp [loopParts])))

/-! ### The temperature unit -/

/-- The parts the temperature unit can change: its own, the reference windows, and events. -/
def tempParts : List Block :=
  [.temp, .cal, .ports]

theorem keepsAllBut_setLaneTemp (s : State) (l : LaneIx) (x : LaneTemp) : KeepsAllBut tempParts s (s.setLaneTemp l x) := by
  have h1 : KeepsAllBut tempParts s (s.setTemp { s.temp with lanes := s.temp.lanes.set l x }) :=
    (KeepsAllBut.setTemp s _).mono (by simp [tempParts])
  have h2 : ∀ t k i, KeepsAllBut tempParts t (State.raiseAt t k i) := fun t k i =>
    (KeepsAllBut.raiseAt t k i).mono (by simp [tempParts])
  have h3 : ∀ t c, KeepsAllBut tempParts t (State.setLaneCal t l c) := fun t c =>
    (KeepsAllBut.setCal t _).mono (by simp [tempParts])
  unfold State.setLaneTemp
  dsimp only
  split <;> split
  · exact (h1.trans (h2 _ _ _)).trans (h3 _ _)
  · exact h1.trans (h3 _ _)
  · exact h1.trans (h2 _ _ _)
  · exact h1

theorem keepsAllBut_evaluateLanes (s : State) : KeepsAllBut tempParts s s.evaluateLanes :=
  foldl_keeps (KeepsAllBut tempParts) (.refl _) KeepsAllBut.trans State.evaluateLane
    (fun t l => keepsAllBut_setLaneTemp t l _) allLanes s

theorem keepsAllBut_setProbe (s : State) (p : ProbeIx) (x : Probe) : KeepsAllBut tempParts s (s.setProbe p x) := by
  have h1 : KeepsAllBut tempParts s (s.setTemp { s.temp with probes := s.temp.probes.set p x }) :=
    (KeepsAllBut.setTemp s _).mono (by simp [tempParts])
  unfold State.setProbe
  dsimp only
  split
  · exact h1.trans ((KeepsAllBut.raiseAt _ _ _).mono (by simp [tempParts]))
  · exact h1

theorem keepsAllBut_selectInput (s : State) : KeepsAllBut [.temp] s s.selectInput := by
  have hlist : KeepsAllBut [.temp] s (match s.temp.passList with
      | [] => s
      | i :: rest =>
        s.setTemp { s.temp with conv := some { input := i, origin := .scan, start := s.now }, passList := rest }) := by
    split
    · exact .refl _ _
    · exact .setTemp _ _
  unfold State.selectInput
  split
  · exact .refl _ _
  · dsimp only
    split
    · exact .ite hlist (.setTemp _ _)
    · exact hlist

theorem keepsAllBut_startPass (s : State) : KeepsAllBut [.temp] s s.startPass := by
  unfold State.startPass
  exact .ite (.setTemp _ _) ((KeepsAllBut.setTemp s _).trans (keepsAllBut_selectInput _))

theorem keepsAllBut_takeProbeResult (s : State) (p : ProbeIx) (raw : Nat) :
    KeepsAllBut tempParts s (s.takeProbeResult p raw) := by
  unfold State.takeProbeResult
  exact .ite (keepsAllBut_setProbe _ _ _) ((keepsAllBut_setProbe _ _ _).trans (keepsAllBut_evaluateLanes _))

theorem keepsAllBut_dropSlot (s : State) : KeepsAllBut tempParts s s.dropSlot := by
  unfold State.dropSlot
  split
  · exact .ite (.refl _ _) (((KeepsAllBut.setTemp s _).mono (by simp [tempParts])).trans
      ((keepsAllBut_endDeferred _ _ _ _).mono (by simp [tempParts])))
  · exact .refl _ _

theorem keepsAllBut_replyFromSlot (s before : State) (r : SlotRequest) (raw : Nat) :
    KeepsAllBut tempParts s (s.replyFromSlot before r raw) :=
  ((KeepsAllBut.setTemp s _).mono (by simp [tempParts])).trans
    ((keepsAllBut_endDeferred _ _ _ _).mono (by simp [tempParts]))

theorem keepsAllBut_deliverResult (s : State) (c : Conversion) (code : BitVec 12) :
    KeepsAllBut tempParts s (s.deliverResult c code) := by
  unfold State.deliverResult
  split
  · exact (KeepsAllBut.setTemp s _).mono (by simp [tempParts])
  · exact .ite (.refl _ _) (keepsAllBut_takeProbeResult _ _ _)
  · split
    · exact .ite ((keepsAllBut_takeProbeResult s _ _).trans (keepsAllBut_replyFromSlot _ _ _ _)) (.refl _ _)
    · exact .refl _ _

/-- Every probe at a commit's completion (R51). -/
def State.probesFollow (s : State) (old : ProbesSec) : State :=
  allProbes.foldl (fun t p => t.setProbe p (t.temp.probes[p].atCommit old.entries[p] s.prof.active.probes.entries[p]
    (decide (old.curve ≠ s.prof.active.probes.curve)))) s

/-- The conversion in progress and the pass list at a commit's completion (R45). -/
def State.inputsFollow (s : State) (new : ProbesSec) : State :=
  s.setTemp { s.temp with
    conv := s.temp.conv.map (fun c => c.atCommit new), passList := s.temp.passList.filter s.keepsInput }

/-- What a commit does to the temperature unit, one part after another. -/
theorem commitProbes_eq (s : State) (old : ProbesSec) :
    s.commitProbes old
      = ((s.probesFollow old).inputsFollow s.prof.active.probes).dropSlot.selectInput.evaluateLanes := rfl

theorem keepsAllBut_probesFollow (s : State) (old : ProbesSec) : KeepsAllBut tempParts s (s.probesFollow old) :=
  foldl_keeps (KeepsAllBut tempParts) (.refl _) KeepsAllBut.trans _ (fun t p => keepsAllBut_setProbe t p _) allProbes s

theorem keepsAllBut_commitProbes (s : State) (old : ProbesSec) : KeepsAllBut tempParts s (s.commitProbes old) := by
  rw [commitProbes_eq]
  generalize hu : s.probesFollow old = u
  have h1 : KeepsAllBut tempParts s u := hu ▸ keepsAllBut_probesFollow s old
  have h2 : KeepsAllBut tempParts u (u.inputsFollow s.prof.active.probes) :=
    (KeepsAllBut.setTemp u _).mono (by simp [tempParts])
  exact (((h1.trans h2).trans (keepsAllBut_dropSlot _)).trans
    ((keepsAllBut_selectInput _).mono (by simp [tempParts]))).trans (keepsAllBut_evaluateLanes _)

/-! ### Requests -/

/-- The parts that the owner of a request can change. -/
def ownerTouches : ReqKind → List Block
  | .ident | .peek => []
  | .status => [.ports, .freeReads]
  | .timeSet | .restart => [.site]
  | .siteRun | .laneSet => .site :: measured
  | .editBegin | .editPut | .editDiscard | .commit | .readSection | .lock => [.prof]
  | .take => [.store]
  | .stream | .eventEnable => [.ports]
  | .probeNow => [.temp]
  | .channelRearm => [.strip, .ports]

theorem keepsAllBut_onClaim {s t : State} {a : Answer} (c : Claim) (h : KeepsAllBut [.prof] s t) :
    KeepsAllBut [.prof] s (s.onClaim c (t, a)).1 := by
  unfold State.onClaim
  split
  · exact .refl _ _
  · exact h

theorem keepsAllBut_siteThenRecompose (s before : State) (x : SiteCtl) :
    KeepsAllBut (.site :: measured) s ((s.setSite x).recompose before) :=
  ((KeepsAllBut.setSite s x).mono (by simp)).trans ((Measures.recompose _ _).keepsAllBut.mono (by simp))

theorem keepsAllBut_ownerOf (k : ReqKind) (p : Port) (payload : List Byte) (s : State) :
    KeepsAllBut (ownerTouches k) s (ownerOf k p payload s).1 := by
  cases k with
  | ident => exact .refl _ _
  | status =>
    refine KeepsAllBut.trans ((KeepsAllBut.setPort s p (s.port p).clearEvents).mono (by simp [ownerTouches])) ?_
    show KeepsAllBut _ _ (State.countFreeRead _)
    unfold State.countFreeRead
    exact .ite ((KeepsAllBut.setFreeReads _ _).mono (by simp [ownerTouches])) (.refl _ _)
  | timeSet => exact .setSite _ _
  | siteRun =>
    simp only [ownerOf, siteRunOwner]
    split
    · exact .refl _ _
    · split
      · exact .refl _ _
      · exact keepsAllBut_siteThenRecompose _ _ _
  | laneSet =>
    simp only [ownerOf, laneSetOwner]
    split
    · exact keepsAllBut_siteThenRecompose _ _ _
    · exact .refl _ _
  | editBegin =>
    simp only [ownerOf, editBeginOwner]
    split
    · split
      · exact .refl _ _
      · exact .setClaim _ _
    · split <;> exact .refl _ _
  | editPut =>
    simp only [ownerOf, editPutOwner]
    split
    · exact .refl _ _
    · exact keepsAllBut_onClaim _ (.setClaim _ _)
  | editDiscard =>
    simp only [ownerOf, editDiscardOwner]
    split
    · exact .refl _ _
    · exact keepsAllBut_onClaim _ (.setClaim _ _)
  | commit =>
    simp only [ownerOf, commitOwner]
    split
    · exact .refl _ _
    · split
      · exact keepsAllBut_onClaim _ (.setClaim _ _)
      · exact keepsAllBut_onClaim _ ((KeepsAllBut.setClaim _ _).trans (.placeReason _ _))
  | readSection =>
    simp only [ownerOf, readSectionOwner]
    split
    · exact .refl _ _
    · split
      · exact .refl _ _
      · exact keepsAllBut_onClaim _ (.setClaim _ _)
    · exact .refl _ _
  | take =>
    simp only [ownerOf, takeOwner]
    split
    · exact .setStore _ _
    · exact .refl _ _
  | peek =>
    simp only [ownerOf, peekOwner]
    split <;> exact .refl _ _
  | stream =>
    simp only [ownerOf, streamOwner]
    split
    · exact .setPorts _ _
    · exact .refl _ _
  | probeNow =>
    simp only [ownerOf, probeNowOwner]
    split
    · split
      · exact .refl _ _
      · split
        · exact .refl _ _
        · exact (KeepsAllBut.setTemp s _).trans (keepsAllBut_selectInput _)
    · exact .refl _ _
  | channelRearm =>
    simp only [ownerOf, rearmOwner]
    split
    · split
      · exact .refl _ _
      · exact ((KeepsAllBut.setStrip s _).mono (by simp [ownerTouches])).trans
          ((KeepsAllBut.raiseAt _ _ _).mono (by simp [ownerTouches]))
    · exact .refl _ _
  | lock =>
    simp only [ownerOf, lockOwner]
    split
    · exact .refl _ _
    · split
      · exact .refl _ _
      · exact (KeepsAllBut.setProf s _).trans (.placeReason _ _)
  | eventEnable =>
    simp only [ownerOf, eventEnableOwner]
    split
    · exact .setPort _ _ _
    · exact .refl _ _
  | restart =>
    simp only [ownerOf, restartOwner]
    split
    · exact .setSite _ _
    · exact .refl _ _

/-- A request's command runs its owner through the port engine. -/
theorem exec_requestCommand (k : ReqKind) (p : Port) (tag : Byte) (payload : List Byte) (s : State) :
    exec (requestCommand k p tag payload) s
      = whileRunning s (s.takeRequest k p tag payload (ownerOf k p payload)) := by
  cases k <;> rfl

/-- An admitted request is answered by its owner. -/
theorem exec_requestCommand_admitted {k : ReqKind} {p : Port} {payload : List Byte} {s : State}
    (h : Admitted k p payload s) (tag : Byte) :
    exec (requestCommand k p tag payload) s
      = .next ((ownerOf k p payload s).1.answer p k.code tag (ownerOf k p payload s).2) := by
  rw [exec_requestCommand, whileRunning_of_runs h.runs, takeRequest_admitted h]

end Sys2Proof.Machine
end

section
/-! The axle former's lists only become shorter when candidates complete or hits are withdrawn (R62, R67, R68, R72). -/

namespace Sys2Proof.Machine

open Sys2Proof

/-- A candidate as it goes on: the same number, no more sides than before and not without any, and wheels with hits. -/
structure Candidate.Continues (c c' : Candidate) : Prop where
  id : c'.id = c.id
  fewer : c'.sides.length ≤ c.sides.length
  nonempty : c.sides ≠ [] → c'.sides ≠ []
  hits : (∀ x ∈ c.sides, sideHasHit x = true) → ∀ x ∈ c'.sides, sideHasHit x = true

theorem Candidate.Continues.refl (c : Candidate) : Candidate.Continues c c := ⟨rfl, Nat.le_refl _, fun h => h, fun h => h⟩

theorem Candidate.Continues.trans {a b c : Candidate} (h : Candidate.Continues a b) (k : Candidate.Continues b c) :
    Candidate.Continues a c :=
  ⟨k.id.trans h.id, k.fewer.trans h.fewer, fun hn => k.nonempty (h.nonempty hn), fun hh => k.hits (h.hits hh)⟩

/-- `t` holds no hit list longer than in `s`, and no candidate but those of `s` that go on, in their order. -/
structure Thins (s t : State) : Prop where
  nextId : t.former.nextId = s.former.nextId
  lists : ∀ r q, (t.waiting r q).length ≤ (s.waiting r q).length
  ids : ∀ k : LaneIx, (t.former.candidates[k].map (·.id)).Sublist (s.former.candidates[k].map (·.id))
  sides : ∀ k : LaneIx, ∀ c' ∈ t.former.candidates[k], ∃ c ∈ s.former.candidates[k], Candidate.Continues c c'

/-- Two states with one axle former have the same hit lists. -/
theorem waiting_of_former_eq {s t : State} (h : t.former = s.former) (r : StripRow) (q : PosIx) :
    t.waiting r q = s.waiting r q := by
  cases r <;> simp only [State.waiting, h]

namespace Thins

variable {s t u : State}

theorem of_former_eq (h : t.former = s.former) : Thins s t where
  nextId := by rw [h]
  lists r q := by rw [waiting_of_former_eq h]
  ids k := by rw [h]
  sides k c hc := ⟨c, h ▸ hc, .refl c⟩

theorem refl (s : State) : Thins s s := of_former_eq rfl

theorem trans (h : Thins s t) (k : Thins t u) : Thins s u where
  nextId := k.nextId.trans h.nextId
  lists r q := (k.lists r q).trans (h.lists r q)
  ids l := (k.ids l).trans (h.ids l)
  sides l c hc := by
    obtain ⟨c1, h1, hc1⟩ := k.sides l c hc
    obtain ⟨c0, h0, hc0⟩ := h.sides l c1 h1
    exact ⟨c0, h0, hc0.trans hc1⟩

/-- A lane holds no more candidates than before. -/
theorem length_le (h : Thins s t) (k : LaneIx) : t.former.candidates[k].length ≤ s.former.candidates[k].length := by
  simpa using (h.ids k).length_le

/-- A lane without candidate gets none. -/
theorem empty (h : Thins s t) {k : LaneIx} (hk : s.former.candidates[k] = []) : t.former.candidates[k] = [] := by
  simpa [hk] using h.length_le k

end Thins

/-- Sublists in each place make a sublist of the whole. -/
theorem flatMap_sublist {α β : Type} {f g : α → List β} (l : List α) (h : ∀ a, (f a).Sublist (g a)) :
    (l.flatMap f).Sublist (l.flatMap g) := by
  induction l with
  | nil => exact List.Sublist.refl _
  | cons a l ih => exact (h a).append ih

/-- The axle former's limits outlive whatever only makes its lists shorter. -/
theorem FormerLimits.of_thins {s t : State} (h : Thins s t) (hs : FormerLimits s) : FormerLimits t where
  numbered k c' hc' := by
    obtain ⟨c, hc, hcc⟩ := h.sides k c' hc'
    rw [hcc.id, h.nextId]
    exact hs.numbered k c hc
  distinct := hs.distinct.sublist (flatMap_sublist _ h.ids)
  sides k c' hc' := by
    obtain ⟨c, hc, hcc⟩ := h.sides k c' hc'
    obtain ⟨hlen, hhits⟩ := hs.sides k c hc
    have h1 : c.sides ≠ [] := fun he => by simp [he] at hlen
    have h2 := List.length_pos_iff.mpr (hcc.nonempty h1)
    have h3 := hcc.fewer
    exact ⟨by omega, hcc.hits hhits⟩
  waiting r q := (h.lists r q).trans (hs.waiting r q)
  room k := (h.length_le k).trans (hs.room k)

/-! ### The former's updates -/

/-- What an update of the axle former that only filters its lists gives. -/
theorem thins_of_filter {s : State} {f : AxleFormer} (hn : f.nextId = s.former.nextId)
    (ha : ∀ q : PosIx, (f.waitA[q]).length ≤ (s.former.waitA[q]).length)
    (hb : ∀ q : PosIx, (f.waitB[q]).length ≤ (s.former.waitB[q]).length)
    (hi : ∀ k : LaneIx, (f.candidates[k].map (·.id)).Sublist (s.former.candidates[k].map (·.id)))
    (hc : ∀ k : LaneIx, ∀ c' ∈ f.candidates[k], ∃ c ∈ s.former.candidates[k], Candidate.Continues c c') :
    Thins s (s.setFormer f) where
  nextId := hn
  lists r q := by cases r; exacts [ha q, hb q]
  ids := hi
  sides := hc

theorem map_filter_length_le {n : Nat} (v : Vector (List HitRec) n) (p : HitRec → Bool) (q : Fin n) :
    ((v.map (fun hs : List HitRec => hs.filter p))[q]).length ≤ (v[q]).length := by
  simpa using List.length_filter_le _ _

/-- Withdrawn hits make the lists shorter; a candidate left without side goes. -/
theorem thins_withdrawHits (s : State) (p : HitRec → Bool) : Thins s (s.withdrawHits p) := by
  refine thins_of_filter rfl (map_filter_length_le _ _) (map_filter_length_le _ _) (fun k => ?_) (fun k c' hc' => ?_)
  · simp only [Fin.getElem_fin, Vector.getElem_map]
    refine List.Sublist.trans (List.filter_sublist.map _) ?_
    rw [List.map_map]
    exact List.Sublist.refl _
  · simp only [Fin.getElem_fin, Vector.getElem_map, List.mem_filter, List.mem_map] at hc'
    obtain ⟨⟨c, hc, rfl⟩, hne⟩ := hc'
    refine ⟨c, hc, rfl, List.length_filter_le _ _, fun _ => by simpa using hne, fun hh x hx => hh x ?_⟩
    exact List.mem_of_mem_filter hx

/-- A candidate that is taken out leaves its lane, and its hits their lists. -/
theorem thins_takeOut (s : State) (l : LaneIx) (c : Candidate) : Thins s (s.takeOut l c) := by
  have hcs : ∀ k : LaneIx, ((s.takeOut l c).former.candidates[k]).Sublist s.former.candidates[k] := by
    intro k
    simp only [State.takeOut, State.setFormer_former, alter, Fin.getElem_fin, Vector.getElem_set]
    split
    · rename_i h
      simp only [h]
      exact List.filter_sublist
    · exact List.Sublist.refl _
  exact thins_of_filter rfl (map_filter_length_le _ _) (map_filter_length_le _ _) (fun k => (hcs k).map _)
    (fun k c' hc' => ⟨c', (hcs k).subset hc', .refl _⟩)

/-- The taken candidate's lane holds fewer candidates. -/
theorem takeOut_length_lt {s : State} {l : LaneIx} {c : Candidate} (h : c ∈ s.former.candidates[l]) :
    ((s.takeOut l c).former.candidates[l]).length < s.former.candidates[l].length := by
  simp only [State.takeOut, State.setFormer_former, alter, Fin.getElem_fin, Vector.getElem_set_self]
  exact List.length_filter_lt_length_iff_exists.mpr ⟨c, h, by simp⟩

/-- Candidates of some lanes are discarded with the hits they wait for. -/
theorem thins_discardCandidates (s : State) (ls : List LaneIx) : Thins s (s.discardCandidates ls) := by
  have hcs : ∀ k : LaneIx, (s.discardCandidates ls).former.candidates[k] = [] ∨
      (s.discardCandidates ls).former.candidates[k] = s.former.candidates[k] := by
    intro k
    simp only [State.discardCandidates, State.setFormer_former, Fin.getElem_fin, Vector.getElem_ofFn]
    split
    · exact .inl rfl
    · exact .inr rfl
  refine thins_of_filter rfl (map_filter_length_le _ _) (map_filter_length_le _ _) (fun k => ?_) (fun k c' hc' => ?_)
  · change ((s.discardCandidates ls).former.candidates[k].map _).Sublist _
    rcases hcs k with h | h <;> rw [h]
    exact List.nil_sublist _
  · change c' ∈ (s.discardCandidates ls).former.candidates[k] at hc'
    rcases hcs k with h | h <;> rw [h] at hc'
    · simp at hc'
    · exact ⟨c', hc', .refl _⟩

/-- A list of waiting hits is replaced by one that is no longer. -/
theorem thins_setWaiting (s : State) (r : StripRow) (q : PosIx) {hs : List HitRec}
    (h : hs.length ≤ (s.waiting r q).length) : Thins s (s.setWaiting r q hs) := by
  have hset : ∀ (v : Vector (List HitRec) 12), hs.length ≤ (v[q]).length →
      ∀ k : PosIx, ((v.set q hs)[k]).length ≤ (v[k]).length := by
    intro v hv k
    simp only [Fin.getElem_fin, Vector.getElem_set] at hv ⊢
    split
    · rename_i hk
      simpa only [← hk] using hv
    · exact Nat.le_refl _
  cases r
  · exact thins_of_filter rfl (hset _ h) (fun _ => Nat.le_refl _) (fun k => List.Sublist.refl _)
      (fun k c hc => ⟨c, hc, .refl c⟩)
  · exact thins_of_filter rfl (fun _ => Nat.le_refl _) (hset _ h) (fun k => List.Sublist.refl _)
      (fun k c hc => ⟨c, hc, .refl c⟩)

/-- The candidates of a lane go on one by one. -/
theorem thins_setCandidates {s : State} {l : LaneIx} {f : Candidate → Candidate}
    (h : ∀ c ∈ s.former.candidates[l], Candidate.Continues c (f c)) :
    Thins s (s.setCandidates l (s.former.candidates[l].map f)) := by
  refine thins_of_filter rfl (fun _ => Nat.le_refl _) (fun _ => Nat.le_refl _) (fun k => ?_) (fun k c' hc' => ?_)
  · simp only [Fin.getElem_fin, Vector.getElem_set]
    split
    · rename_i hk
      have : s.former.candidates[l].map ((·.id) ∘ f) = s.former.candidates[l].map (·.id) :=
        List.map_congr_left fun c hc => (h c hc).id
      simp only [Fin.getElem_fin, hk] at this
      simp only [List.map_map, hk, this]
      exact List.Sublist.refl _
    · exact List.Sublist.refl _
  · simp only [Fin.getElem_fin, Vector.getElem_set] at hc'
    split at hc'
    · rename_i hk
      obtain ⟨c, hc, rfl⟩ := List.mem_map.mp hc'
      obtain rfl : l = k := Fin.ext hk
      exact ⟨c, hc, h c hc⟩
    · exact ⟨c', hc', .refl _⟩

/-- Every candidate goes on. -/
theorem thins_mapAll {s : State} {f : Candidate → Candidate} (h : ∀ c, Candidate.Continues c (f c)) :
    Thins s (s.setFormer { s.former with candidates := s.former.candidates.map (fun cs => cs.map f) }) := by
  refine thins_of_filter rfl (fun _ => Nat.le_refl _) (fun _ => Nat.le_refl _) (fun k => ?_) (fun k c' hc' => ?_)
  · have : s.former.candidates[k].map ((·.id) ∘ f) = s.former.candidates[k].map (·.id) :=
      List.map_congr_left fun c _ => (h c).id
    simp only [Fin.getElem_fin] at this
    simp [this]
  · simp only [Fin.getElem_fin, Vector.getElem_map, List.mem_map] at hc'
    obtain ⟨c, hc, rfl⟩ := hc'
    exact ⟨c, hc, h c⟩

/-- Sides that are replaced one for one by sides with hits let their candidate go on. -/
theorem Candidate.continues_map_sides (c : Candidate) {f : Side → Side}
    (h : ∀ x, sideHasHit x = true → sideHasHit (f x) = true) :
    Candidate.Continues c { c with sides := c.sides.map f } where
  id := rfl
  fewer := by simp
  nonempty := by simp
  hits hh x hx := by
    obtain ⟨y, hy, rfl⟩ := List.mem_map.mp hx
    exact h y (hh y hy)

/-! ### Frames and records do not touch the axle former -/

/-- The parts a frame's opening, joining and closing can change. -/
def frameParts : List Block :=
  [.loops, .asm, .store, .cal, .prof, .ports]

theorem keepsAllBut_offerToStore (s : State) (r : VehicleRec) : KeepsAllBut [.store, .ports] s (s.offerToStore r) := by
  have hset : KeepsAllBut [.store, .ports] s (s.setStore (s.store ++ [r])) := (KeepsAllBut.setStore s _).mono (by simp)
  unfold State.offerToStore
  exact .ite (.ite (hset.trans ((KeepsAllBut.raise _ _ _).mono (by simp))) hset)
    ((KeepsAllBut.raiseAt s _ _).mono (by simp))

theorem keepsAllBut_offerToCal (s : State) (r : VehicleRec) : KeepsAllBut [.cal, .prof, .ports] s (s.offerToCal r) := by
  have hcal : ∀ t l c, KeepsAllBut [.cal, .prof, .ports] t (State.setLaneCal t l c) := fun t l c =>
    (KeepsAllBut.setCal t _).mono (by simp)
  have hraise : ∀ t k i, KeepsAllBut [.cal, .prof, .ports] t (State.raiseAt t k i) := fun t k i =>
    (KeepsAllBut.raiseAt t k i).mono (by simp)
  unfold State.offerToCal
  dsimp only
  split
  · exact hcal _ _ _
  · refine .ite ?_ (hcal _ _ _)
    have h1 := (hcal s r.lane ((s.cal[r.lane].place r.calEntry).update s.prof.active.autocal.target)).trans
      (hraise _ .calUpdate r.lane.val)
    exact (KeepsAllBut.ite (h1.trans (hraise _ _ _)) h1).trans ((KeepsAllBut.placeReason _ _).mono (by simp))

theorem keepsAllBut_closeFrame (s : State) (l : LaneIx) (cause : CloseCause) :
    KeepsAllBut frameParts s (s.closeFrame l cause) := by
  unfold State.closeFrame
  split
  · exact .refl _ _
  · have h1 := fun x => (KeepsAllBut.setAsm s x).mono (M := frameParts) (by simp [frameParts])
    exact ((KeepsAllBut.ite ((h1 _).trans ((KeepsAllBut.raiseAt _ _ _).mono (by simp [frameParts]))) (h1 _)).trans
      ((keepsAllBut_offerToStore _ _).mono (by simp [frameParts]))).trans ((keepsAllBut_offerToCal _ _).mono (by simp [frameParts]))

theorem keepsAllBut_openFrame (s : State) (a : AxleRec) : KeepsAllBut [.loops, .asm] s (s.openFrame a) :=
  ((KeepsAllBut.setAsm s _).mono (by simp)).trans ((KeepsAllBut.setLoops _ _).mono (by simp))

theorem keepsAllBut_handOn (s : State) (a : AxleRec) : KeepsAllBut frameParts s (s.handOn a) := by
  have hopen := fun t => (keepsAllBut_openFrame t a).mono (M := frameParts) (by simp [frameParts])
  unfold State.handOn
  split
  · exact hopen s
  · exact .ite ((keepsAllBut_closeFrame _ _ _).trans (hopen _)) (.ite ((keepsAllBut_closeFrame _ _ _).trans (hopen _))
      ((KeepsAllBut.setAsm s _).mono (by simp [frameParts])))

theorem KeepsAllBut.asm {L : List Block} {s t : State} (h : KeepsAllBut L s t) (hL : Block.asm ∉ L) : t.asm = s.asm :=
  h .asm hL

theorem KeepsAllBut.former {L : List Block} {s t : State} (h : KeepsAllBut L s t) (hL : Block.former ∉ L) :
    t.former = s.former := h .former hL

theorem thins_closeFrame (s : State) (l : LaneIx) (cause : CloseCause) : Thins s (s.closeFrame l cause) :=
  .of_former_eq ((keepsAllBut_closeFrame s l cause).former (by simp [frameParts]))

theorem thins_handOn (s : State) (a : AxleRec) : Thins s (s.handOn a) :=
  .of_former_eq ((keepsAllBut_handOn s a).former (by simp [frameParts]))

/-! ### Notices and completion -/

theorem thins_missNotice (s : State) (c : ChanIx) : Thins s (s.missNotice c).1 := by
  rw [missNotice_eq]
  split
  · split
    · exact .of_former_eq rfl
    · dsimp only
      refine Thins.trans (.of_former_eq ?_) (thins_withdrawHits _ _)
      rfl
  · exact .refl s

theorem thins_missAt (s : State) (r : StripRow) (q : PosIx) : Thins s (s.missAt r q).1 := by
  unfold State.missAt
  split
  · exact .refl s
  · exact thins_missNotice _ _

theorem thins_axleNotices (ws : List Wheel) (s : State) : Thins s (State.axleNotices ws s).1 := by
  induction ws generalizing s with
  | nil => exact .refl s
  | cons w rest ih =>
    unfold State.axleNotices
    split
    · exact (thins_missAt _ _ _).trans (ih _)
    · exact ih _

/-- What becomes of an axle: nothing, a late count, or its hand-on to an active lane (R73, R74, R79). -/
theorem deliverAxle_cases (s : State) (holding : LaneIx) (time : Tick) (ws : List Wheel) (seen : List AxleWheel)
    (forced : Bool) :
    s.deliverAxle holding time ws seen forced = s
      ∨ (∃ late, s.deliverAxle holding time ws seen forced = s.setFormer { s.former with late := late })
      ∨ ∃ a : AxleRec, s.laneActive a.lane = true ∧ s.deliverAxle holding time ws seen forced = s.handOn a := by
  unfold State.deliverAxle
  dsimp only
  generalize (if decide ((wheelLanes ws holding).1 ≠ (wheelLanes ws holding).2) = true then
    s.assignStraddle (wheelLanes ws holding).1 (wheelLanes ws holding).2 time (wheelPairSpeed ws)
    else (wheelLanes ws holding).1) = l
  by_cases hactive : s.laneActive l = true
  · by_cases hlate : s.isLateAxle l time = true
    · exact .inr (.inl ⟨_, by simp [hactive, hlate]; rfl⟩)
    · exact .inr (.inr ⟨s.loadAxle (s.axleRecord l holding time ws seen
        (decide ((wheelLanes ws holding).1 ≠ (wheelLanes ws holding).2)) forced), hactive, by simp [hactive, hlate]⟩)
  · exact .inl (by simp [hactive])

theorem thins_deliverAxle (s : State) (holding : LaneIx) (time : Tick) (ws : List Wheel) (seen : List AxleWheel)
    (forced : Bool) : Thins s (s.deliverAxle holding time ws seen forced) := by
  rcases deliverAxle_cases s holding time ws seen forced with h | ⟨late, h⟩ | ⟨a, -, h⟩ <;> rw [h]
  · exact .refl s
  · exact ⟨rfl, fun r q => by cases r <;> exact Nat.le_refl _, fun k => List.Sublist.refl _, fun k c hc => ⟨c, hc, .refl c⟩⟩
  · exact thins_handOn s a

/-- What a completion does after the candidate is taken out. -/
theorem thins_takeOut_completeOne (s : State) (l : LaneIx) (c : Candidate) (forced : Bool) :
    Thins (s.takeOut l c) (s.completeOne l c forced).1 :=
  (thins_axleNotices _ _).trans (thins_deliverAxle _ _ _ _ _ _)

theorem thins_completeOne (s : State) (l : LaneIx) (c : Candidate) (forced : Bool) :
    Thins s (s.completeOne l c forced).1 :=
  (thins_takeOut s l c).trans (thins_takeOut_completeOne s l c forced)

theorem thins_completeInTurn (n : Nat) (todo : List (Nat × Bool)) (s : State) :
    Thins s (State.completeInTurn n todo s) := by
  induction n generalizing todo s with
  | zero => exact .refl s
  | succ n ih =>
    cases todo with
    | nil => exact .refl s
    | cons x rest =>
      unfold State.completeInTurn
      split
      · exact ih _ _
      · split
        · exact (thins_completeOne _ _ _ _).trans (ih _ _)
        · exact (thins_completeOne _ _ _ _).trans (ih _ _)

theorem thins_completeIds (s : State) (ids : List Nat) : Thins s (s.completeIds ids) := thins_completeInTurn _ _ _

theorem thins_withdraw (s : State) (p : HitRec → Bool) : Thins s (s.withdraw p) :=
  (thins_withdrawHits s p).trans (thins_completeIds _ _)

theorem thins_makeRoom (s : State) (l : LaneIx) : Thins s (s.makeRoom l) := by
  unfold State.makeRoom
  split
  · split
    · exact thins_completeInTurn _ _ _
    · exact .refl s
  · exact .refl s

theorem thins_expireLeading (s : State) (r : StripRow) (q : PosIx) (h : HitRec) : Thins s (s.expireLeading r q h) := by
  refine (thins_setWaiting s r q (List.length_filter_le _ _)).trans (thins_mapAll fun c => c.continues_map_sides fun x hx => ?_)
  split
  · rfl
  · exact hx

theorem thins_recompose (s before : State) : Thins s (s.recompose before) := by
  have habort : ∀ (ls : List LaneIx) (u : State), Thins u (u.abortFrames ls) := by
    intro ls
    induction ls with
    | nil => exact fun u => .refl u
    | cons l rest ih => exact fun u => (thins_closeFrame u l .aborted).trans (ih _)
  unfold State.recompose
  dsimp only
  split
  · exact .refl s
  · exact ((habort _ _).trans (thins_discardCandidates _ _)).trans (thins_withdraw _ _)

end Sys2Proof.Machine
end

section
/-! What every command keeps: the limits of the store and the frames (R109, R116, R126), the emptiness of lanes that are not
active (R39), the limits of the event and link error counts (R176, R181) and those of the axle former (R62, R67, R68). -/

namespace Sys2Proof.Machine

open Sys2Proof

/-! ### One entry of a block -/

theorem setFrame_frames (s : State) (l k : LaneIx) (f : Option Frame) :
    (s.setFrame l f).asm.frames[k] = if l = k then f else s.asm.frames[k] := by
  simp only [State.setFrame, State.setAsm_asm, Fin.getElem_fin, Vector.getElem_set, Fin.ext_iff]

theorem setCandidates_candidates (s : State) (l k : LaneIx) (cs : List Candidate) :
    (s.setCandidates l cs).former.candidates[k] = if l = k then cs else s.former.candidates[k] := by
  simp only [State.setCandidates, State.setFormer_former, Fin.getElem_fin, Vector.getElem_set, Fin.ext_iff]

theorem appendAxle_length (fs : List FrameAxle) (a : AxleRec) : (appendAxle fs a).length = fs.length + 1 := by
  induction fs with
  | nil => rfl
  | cons f rest ih =>
    cases rest with
    | nil => rfl
    | cons g rest => simpa [appendAxle] using ih

theorem nextSeq_ne_zero (n : BitVec 32) : nextSeq n ≠ 0 := by
  unfold nextSeq
  split
  · decide
  · assumption

/-! ### Candidates by their numbers -/

theorem mem_openCandidates {s : State} {l : LaneIx} {c : Candidate} :
    (l, c) ∈ s.openCandidates ↔ c ∈ s.former.candidates[l] := by
  have hall : ∀ k : LaneIx, k ∈ allLanes := by decide
  simp [State.openCandidates, hall]

theorem openCandidates_ids (s : State) : s.openCandidates.map (fun lc => lc.2.id)
    = (List.finRange 6).flatMap (fun k : LaneIx => s.former.candidates[k].map (fun c => c.id)) := by
  have hlanes : allLanes = List.finRange 6 := by decide
  simp [State.openCandidates, List.map_flatMap, hlanes, Function.comp_def]

/-- Open candidates of one number are one candidate. -/
theorem FormerLimits.eq_of_id {s : State} (h : FormerLimits s) {l k : LaneIx} {c d : Candidate}
    (hc : c ∈ s.former.candidates[l]) (hd : d ∈ s.former.candidates[k]) (hid : c.id = d.id) : l = k ∧ c = d := by
  have hinj := List.inj_on_of_nodup_map (openCandidates_ids s ▸ h.distinct) (mem_openCandidates.mpr hc)
    (mem_openCandidates.mpr hd) hid
  exact ⟨congrArg Prod.fst hinj, congrArg Prod.snd hinj⟩

/-- A candidate whose number no other has is found by it. -/
theorem findCandidate_eq {s : State} {l : LaneIx} {c : Candidate} (hc : c ∈ s.former.candidates[l])
    (hid : ∀ (k : LaneIx), ∀ d ∈ s.former.candidates[k], d.id = c.id → k = l ∧ d = c) :
    s.findCandidate c.id = some (l, c) := by
  cases hf : s.findCandidate c.id with
  | none => simpa using List.find?_eq_none.mp hf (l, c) (mem_openCandidates.mpr hc)
  | some kd =>
    obtain ⟨k, d⟩ := kd
    obtain ⟨rfl, rfl⟩ := hid k d (mem_openCandidates.mp (List.mem_of_find?_eq_some hf)) (by simpa using List.find?_some hf)
    rfl

/-- A candidate is found by its number, in its lane. -/
theorem FormerLimits.findCandidate {s : State} (h : FormerLimits s) {l : LaneIx} {c : Candidate}
    (hc : c ∈ s.former.candidates[l]) : s.findCandidate c.id = some (l, c) :=
  findCandidate_eq hc fun _ _ hd hid => h.eq_of_id hd hc hid

/-! ### Room for a candidate (R68) -/

theorem firstOfTwo_eq_or (a b : Candidate) : firstOfTwo a b = a ∨ firstOfTwo a b = b := by
  unfold firstOfTwo
  split
  · exact .inr rfl
  · split
    · exact .inl rfl
    · split
      · exact .inr rfl
      · exact .inl rfl

/-- A fold that answers one of its two arguments answers a member. -/
theorem foldl_choice_mem {α : Type} {f : α → α → α} (hf : ∀ a b, f a b = a ∨ f a b = b) (l : List α) (a : α) :
    l.foldl f a = a ∨ l.foldl f a ∈ l := by
  induction l generalizing a with
  | nil => exact .inl rfl
  | cons b rest ih =>
    rcases ih (f a b) with h | h
    · rcases hf a b with hab | hab
      · exact .inl (by rw [List.foldl_cons, h, hab])
      · exact .inr (by rw [List.foldl_cons, h, hab]; exact List.mem_cons_self ..)
    · exact .inr (List.mem_cons_of_mem _ h)

theorem firstCandidate_mem {cs : List Candidate} {c : Candidate} (h : firstCandidate cs = some c) : c ∈ cs := by
  cases cs with
  | nil => simp [firstCandidate] at h
  | cons d rest =>
    obtain rfl := Option.some.inj h
    rcases foldl_choice_mem firstOfTwo_eq_or rest d with h | h
    · rw [h]; exact List.mem_cons_self ..
    · exact List.mem_cons_of_mem _ h

theorem firstCandidate_isSome {cs : List Candidate} (h : cs ≠ []) : ∃ c, firstCandidate cs = some c := by
  cases cs with
  | nil => exact absurd rfl h
  | cons d rest => exact ⟨_, rfl⟩

/-- A turn with an open candidate completes it, or the one ahead of it (R70). -/
theorem completeInTurn_found {s : State} {id : Nat} {l : LaneIx} {c : Candidate} (n : Nat) (forced : Bool)
    (rest : List (Nat × Bool)) (h : s.findCandidate id = some (l, c)) :
    ∃ d b todo, (d = c ∨ s.aheadOf l c = some d) ∧
      State.completeInTurn (n + 1) ((id, forced) :: rest) s = State.completeInTurn n todo (s.completeOne l d b).1 := by
  simp only [State.completeInTurn, h]
  cases s.aheadOf l c with
  | none => exact ⟨c, forced, _, .inl rfl, rfl⟩
  | some d => exact ⟨d, false, _, .inr rfl, rfl⟩

/-- A named completion takes a candidate out of the named one's lane. -/
theorem complete_length_lt {s : State} (h : FormerLimits s) {l : LaneIx} {c : Candidate}
    (hc : c ∈ s.former.candidates[l]) (forced : Bool) :
    ((s.complete [(c.id, forced)]).former.candidates[l]).length < s.former.candidates[l].length := by
  have hlt : ∀ d ∈ s.former.candidates[l], ∀ b n todo,
      ((State.completeInTurn n todo (s.completeOne l d b).1).former.candidates[l]).length
        < s.former.candidates[l].length := fun d hd b n todo =>
    Nat.lt_of_le_of_lt (((thins_takeOut_completeOne s l d b).trans (thins_completeInTurn n todo _)).length_le l)
      (takeOut_length_lt hd)
  obtain ⟨d, b, todo, hd, he⟩ := completeInTurn_found (6 * s.openCandidates.length + 1) forced [] (h.findCandidate hc)
  have hrun : s.complete [(c.id, forced)] = _ := he
  rw [hrun]
  rcases hd with rfl | hd
  · exact hlt d hc _ _ _
  · exact hlt d (List.mem_of_mem_filter (firstCandidate_mem hd)) _ _ _

/-- A lane has room for one more candidate once room has been made (R68). -/
theorem makeRoom_room {s : State} (h : FormerLimits s) (l : LaneIx) :
    ((s.makeRoom l).former.candidates[l]).length < 4 := by
  unfold State.makeRoom
  split
  · rename_i hfull
    obtain ⟨c, hc⟩ := firstCandidate_isSome (cs := s.former.candidates[l]) (fun he => by simp [he] at hfull)
    rw [hc]
    exact Nat.lt_of_lt_of_le (complete_length_lt h (firstCandidate_mem hc) true) (h.room l)
  · omega

/-! ### What makes the axle former's lists longer -/

theorem nearerOfTwo_eq_or (q : PosIx) (u : Tick) (a b : Candidate) :
    nearerOfTwo q u a b = a ∨ nearerOfTwo q u a b = b := by
  unfold nearerOfTwo
  dsimp only
  (repeat' split) <;> simp

theorem chooseCandidate_mem {s : State} {q : PosIx} {u : Tick} {c : Candidate} (h : s.chooseCandidate q u = some c) :
    (∃ l : LaneIx, c ∈ s.former.candidates[l]) ∧ ∃ y, c.sides = [y] := by
  have hmem : c ∈ (s.openCandidates.map (·.2)).filter (fun c => c.eligible q u s.prof.active.site.window) := by
    unfold State.chooseCandidate at h
    split at h
    · simp at h
    · rename_i d rest hl
      obtain rfl := Option.some.inj h
      rw [hl]
      rcases foldl_choice_mem (nearerOfTwo_eq_or q u) rest d with h | h
      · rw [h]; exact List.mem_cons_self ..
      · exact List.mem_cons_of_mem _ h
  obtain ⟨hopen, helig⟩ := List.mem_filter.mp hmem
  obtain ⟨⟨l, d⟩, hd, rfl⟩ := List.mem_map.mp hopen
  refine ⟨⟨l, mem_openCandidates.mp hd⟩, ?_⟩
  unfold Candidate.eligible at helig
  split at helig
  · exact ⟨_, ‹_›⟩
  · simp at helig

/-- A side with a hit joins a candidate of one side. -/
theorem FormerLimits.joined {s : State} (h : FormerLimits s) {l : LaneIx} {c : Candidate} {x y : Side}
    (hc : c ∈ s.former.candidates[l]) (hy : c.sides = [y]) (hx : sideHasHit x = true) :
    FormerLimits (s.mapCandidate c.id (fun d => { d with sides := d.sides ++ [x] })) := by
  have hmap : ∀ k : LaneIx, (s.mapCandidate c.id (fun d => { d with sides := d.sides ++ [x] })).former.candidates[k]
      = s.former.candidates[k].map (fun d => if d.id = c.id then { d with sides := d.sides ++ [x] } else d) := by
    intro k
    simp [State.mapCandidate]
  have hid : ∀ d : Candidate, (if d.id = c.id then { d with sides := d.sides ++ [x] } else d).id = d.id := fun d => by
    split <;> rfl
  refine ⟨fun k d' hd' => ?_, ?_, fun k d' hd' => ?_, fun r q => ?_, fun k => ?_⟩
  · rw [hmap] at hd'
    obtain ⟨d, hd, rfl⟩ := List.mem_map.mp hd'
    rw [hid]
    exact h.numbered k d hd
  · simp only [hmap, List.map_map, Function.comp_def, hid]
    exact h.distinct
  · rw [hmap] at hd'
    obtain ⟨d, hd, rfl⟩ := List.mem_map.mp hd'
    split
    · rename_i he
      obtain ⟨-, rfl⟩ := h.eq_of_id hd hc he
      have hhits := (h.sides k d hd).2
      refine ⟨.inr (by simp [hy]), fun z hz => ?_⟩
      rcases List.mem_append.mp hz with hz | hz
      · exact hhits z hz
      · obtain rfl := List.mem_singleton.mp hz
        exact hx
    · exact h.sides k d hd
  · have hw : (s.mapCandidate c.id (fun d => { d with sides := d.sides ++ [x] })).waiting r q = s.waiting r q := by
      cases r <;> rfl
    rw [hw]
    exact h.waiting r q
  · rw [hmap, List.length_map]
    exact h.room k

theorem openCandidate_candidates (s : State) (l k : LaneIx) (x : Side) :
    (s.openCandidate l x).former.candidates[k] = if l = k then
      s.former.candidates[l] ++ [{ id := s.former.nextId, opened := s.now, sides := [x] }]
      else s.former.candidates[k] := by
  simp only [State.openCandidate, State.setFormer_former, alter, Fin.getElem_fin, Vector.getElem_set, Fin.ext_iff]

/-- The numbers of the candidates in some lanes are those of before, with the new one's if its lane is among them. -/
theorem openCandidate_ids (s : State) (l : LaneIx) (x : Side) {ls : List LaneIx} (hnd : ls.Nodup) :
    (ls.flatMap (fun k => (s.openCandidate l x).former.candidates[k].map (·.id))).Perm
      ((if l ∈ ls then [s.former.nextId] else []) ++ ls.flatMap (fun k => s.former.candidates[k].map (·.id))) := by
  induction ls with
  | nil => simp
  | cons k rest ih =>
    obtain ⟨hk, hnd⟩ := List.nodup_cons.mp hnd
    have ih := ih hnd
    simp only [List.flatMap_cons, openCandidate_candidates s l k x]
    by_cases hl : l = k
    · subst hl
      simp only [hk, if_false, List.nil_append] at ih
      simp only [if_true, List.mem_cons_self, List.map_append, List.map_cons, List.map_nil, List.append_assoc]
      exact (List.perm_append_comm_assoc _ _ _).trans (.append_left _ (.append_left _ ih))
    · simp only [List.mem_cons, hl, false_or]
      exact (List.Perm.append_left _ ih).trans (List.perm_append_comm_assoc _ _ _)

/-- A candidate opens in a lane with room. -/
theorem FormerLimits.opened {s : State} (h : FormerLimits s) {l : LaneIx} {x : Side}
    (hr : s.former.candidates[l].length < 4) (hx : sideHasHit x = true) : FormerLimits (s.openCandidate l x) := by
  have hnew : ∀ k : LaneIx, ∀ c ∈ (s.openCandidate l x).former.candidates[k], c ∈ s.former.candidates[k]
      ∨ c = { id := s.former.nextId, opened := s.now, sides := [x] } := by
    intro k c hc
    rw [openCandidate_candidates] at hc
    split at hc
    · rename_i hk
      subst hk
      simpa using hc
    · exact .inl hc
  refine ⟨fun k c hc => ?_, ?_, fun k c hc => ?_, fun r q => ?_, fun k => ?_⟩
  · change c.id < s.former.nextId + 1
    rcases hnew k c hc with hc | rfl
    · exact Nat.lt_succ_of_lt (h.numbered k c hc)
    · exact Nat.lt_succ_self _
  · have hlanes := openCandidate_ids s l x (List.nodup_finRange 6)
    rw [if_pos (List.mem_finRange l)] at hlanes
    refine hlanes.nodup_iff.mpr (List.nodup_cons.mpr ⟨fun hmem => ?_, h.distinct⟩)
    obtain ⟨k, -, hk⟩ := List.mem_flatMap.mp hmem
    obtain ⟨c, hc, hid⟩ := List.mem_map.mp hk
    exact absurd (h.numbered k c hc) (by rw [hid]; exact Nat.lt_irrefl _)
  · rcases hnew k c hc with hc | rfl
    · exact h.sides k c hc
    · exact ⟨.inl rfl, by simpa using hx⟩
  · have hw : (s.openCandidate l x).waiting r q = s.waiting r q := by cases r <;> rfl
    rw [hw]
    exact h.waiting r q
  · rw [openCandidate_candidates]
    split
    · simpa using hr
    · exact h.room k

theorem FormerLimits.completeIds {s : State} (h : FormerLimits s) (ids : List Nat) : FormerLimits (s.completeIds ids) :=
  h.of_thins (thins_completeIds s ids)

/-- A wheel-start event keeps the former's limits (R67, R68). -/
theorem FormerLimits.wheelStart {s : State} (h : FormerLimits s) {x : Side} (hx : sideHasHit x = true) :
    FormerLimits (s.wheelStart x) := by
  unfold State.wheelStart
  split
  · rename_i c hc
    obtain ⟨⟨l, hl⟩, y, hy⟩ := chooseCandidate_mem hc
    have hj := h.joined hl hy hx
    dsimp only
    split
    · split
      · exact hj.completeIds _
      · exact hj
    · exact hj
  · have hm := h.of_thins (thins_makeRoom s (posLane x.pos))
    dsimp only
    split
    · exact hm.opened (makeRoom_room h _) hx
    · exact hm

theorem Thins.completeIf {s t : State} (h : Thins s t) (b : Bool) (ids : List Nat) :
    Thins s (if b then t.completeIds ids else t) := by
  cases b
  · exact h
  · exact h.trans (thins_completeIds t ids)

/-- A list without one hit that stood in it is shorter. -/
theorem filter_ne_length_lt {hs : List HitRec} {h : HitRec} (hm : h ∈ hs) :
    (hs.filter (fun x => !decide (x = h))).length < hs.length :=
  List.length_filter_lt_length_iff_exists.mpr ⟨h, hm, by simp⟩

theorem waiting_withdrawHits (s : State) (p : HitRec → Bool) (r : StripRow) (q : PosIx) :
    (s.withdrawHits p).waiting r q = (s.waiting r q).filter (fun h => !p h) := by
  cases r <;> simp [State.withdrawHits, State.waiting]

theorem waiting_setWaiting (s : State) (r r' : StripRow) (q q' : PosIx) (hs : List HitRec) :
    (s.setWaiting r q hs).waiting r' q' = if r' = r ∧ q' = q then hs else s.waiting r' q' := by
  cases r <;> cases r' <;> simp [State.setWaiting, State.waiting, Vector.getElem_set, Fin.ext_iff, eq_comm]

/-- A hit joins a list with room. -/
theorem FormerLimits.pushed {s : State} (h : FormerLimits s) {r : StripRow} {q : PosIx} (x : HitRec)
    (hr : (s.waiting r q).length < 4) : FormerLimits (s.setWaiting r q (s.waiting r q ++ [x])) := by
  have hcs : (s.setWaiting r q (s.waiting r q ++ [x])).former.candidates = s.former.candidates := by cases r <;> rfl
  have hn : (s.setWaiting r q (s.waiting r q ++ [x])).former.nextId = s.former.nextId := by cases r <;> rfl
  refine ⟨?_, ?_, ?_, fun r' q' => ?_, ?_⟩
  · rw [hcs, hn]; exact h.numbered
  · rw [hcs]; exact h.distinct
  · rw [hcs]; exact h.sides
  · rw [waiting_setWaiting]
    split
    · simp; omega
    · exact h.waiting r' q'
  · rw [hcs]; exact h.room

/-- The arrival of a leading hit keeps the former's limits (R62). -/
theorem FormerLimits.leadingArrival {s : State} (h : FormerLimits s) (x : HitRec) :
    FormerLimits (s.leadingArrival x) := by
  have hfinish : ∀ u : State, FormerLimits u → (u.waiting x.row x.pos).length < 4 →
      FormerLimits ((u.setWaiting x.row x.pos (u.waiting x.row x.pos ++ [x])).wheelStart (.waiting x)) :=
    fun u hu hr => (hu.pushed x hr).wheelStart rfl
  cases hw : s.waiting x.row x.pos with
  | nil =>
    rw [leadingArrival_room (by simp [hw])]
    exact hfinish s h (by simp [hw])
  | cons old rest =>
    by_cases hfull : 4 ≤ (old :: rest).length
    · have hlen := h.waiting x.row x.pos
      rw [hw] at hlen
      have h4 : rest.length = 3 := by simp at hfull hlen; omega
      rw [leadingArrival_full hw h4]
      have hdiscard : Thins s (s.countDiscard old.channel) := .of_former_eq rfl
      refine hfinish _ (h.of_thins (hdiscard.trans (thins_withdraw _ _))) ?_
      refine Nat.lt_of_le_of_lt ((thins_completeIds _ _).lists x.row x.pos) ?_
      have hsame : (s.countDiscard old.channel).waiting x.row x.pos = s.waiting x.row x.pos := waiting_of_former_eq rfl _ _
      rw [waiting_withdrawHits, hsame, hw]
      exact Nat.lt_of_lt_of_le (filter_ne_length_lt (List.mem_cons_self ..)) hlen
    · rw [leadingArrival_room (by rw [hw]; omega)]
      exact hfinish s h (by rw [hw]; omega)

/-- A pairing keeps the former's limits (R64). -/
theorem FormerLimits.pairHits {s : State} (h : FormerLimits s) (lead trail : HitRec) (v : Nat) (reverse : Bool) :
    FormerLimits (s.pairHits lead trail v reverse) := by
  have h1 := h.of_thins (thins_setWaiting s lead.row lead.pos (hs := (s.waiting lead.row lead.pos).filter
    (fun y => decide (y ≠ lead))) (List.length_filter_le _ _))
  unfold State.pairHits
  dsimp only
  split
  · exact h1
  · rename_i l c hf
    have hc := mem_openCandidates.mp (List.mem_of_find?_eq_some hf)
    refine FormerLimits.of_thins ?_ h1
    have hset := thins_setCandidates (l := l) (f := fun d => if d.id = c.id then
      { c with sides := c.sides.map (fun z => if Side.awaits lead z then
        .formed { pos := trail.pos, lead := some lead, trail := some trail,
                  speed := if reverse then none else some v, reverse := reverse } else z) } else d) (fun d hd => by
      split
      · rename_i hid
        obtain ⟨-, rfl⟩ := h1.eq_of_id hd hc hid
        refine d.continues_map_sides fun z hz => ?_
        split
        · rfl
        · exact hz
      · exact .refl d)
    exact hset.completeIf _ _

/-- The arrival of a hit keeps the former's limits (R62 to R65). -/
theorem FormerLimits.hitArrival {s : State} (h : FormerLimits s) (x : HitRec) : FormerLimits (s.hitArrival x) := by
  unfold State.hitArrival
  dsimp only
  split
  · exact h.leadingArrival x
  · unfold State.trailingArrival
    dsimp only
    split
    · exact h.pairHits _ _ _ _
    · have hmiss : Thins s (if s.runsReverse (posLane x.pos) then (s, []) else s.missAt .rowA x.pos).1 := by
        split
        · exact .refl s
        · exact thins_missAt _ _ _
      exact ((h.of_thins hmiss).completeIds _).wheelStart (by simp [sideHasHit])

end Sys2Proof.Machine
end

section
/-! The four invariants along the measuring chain, and along every other command: one relation, `Keeps`, which each part of
the model meets, so that each invariant follows for every step. -/

namespace Sys2Proof.Machine

open Sys2Proof

/-- Whichever of the invariants holds of `s` holds of `t`. -/
structure Keeps (s t : State) : Prop where
  store : StoreLimits s → StoreLimits t
  idle : IdleLanesEmpty s → IdleLanesEmpty t
  counts : CountLimits s → CountLimits t
  former : FormerLimits s → FormerLimits t

/-! ### Counts (R176, R181) -/

theorem PortLimits.raise {x : PortState} (h : PortLimits x) (k : EventClass) (item : BitVec 32) :
    PortLimits (x.raise k item) where
  events i := by
    simp only [PortState.raise, alter, Fin.getElem_fin, Vector.getElem_set]
    split
    · exact Nat.min_le_right _ _
    · exact h.events i
  gap := h.gap
  framing := h.framing
  overrun := h.overrun
  length := h.length
  check := h.check
  overflow := h.overflow

/-- A port's limits look at its events and link error counts alone. -/
theorem PortLimits.of_same {x y : PortState} (he : y.events = x.events) (hl : y.links = x.links) (h : PortLimits x) :
    PortLimits y where
  events i := by rw [he]; exact h.events i
  gap := by rw [hl]; exact h.gap
  framing := by rw [hl]; exact h.framing
  overrun := by rw [hl]; exact h.overrun
  length := by rw [hl]; exact h.length
  check := by rw [hl]; exact h.check
  overflow := by rw [hl]; exact h.overflow

theorem PortLimits.counted {x : PortState} (h : PortLimits x) (e : LinkError) :
    PortLimits { x with links := x.links.count e } := by
  obtain ⟨h0, h1, h2, h3, h4, h5, h6⟩ := h
  have hsat := Nat.min_le_right
  cases e
  · exact ⟨h0, hsat _ _, h2, h3, h4, h5, h6⟩
  · exact ⟨h0, h1, hsat _ _, h3, h4, h5, h6⟩
  · exact ⟨h0, h1, h2, hsat _ _, h4, h5, h6⟩
  · exact ⟨h0, h1, h2, h3, hsat _ _, h5, h6⟩
  · exact ⟨h0, h1, h2, h3, h4, hsat _ _, h6⟩
  · exact ⟨h0, h1, h2, h3, h4, h5, hsat _ _⟩

theorem PortLimits.start (p : Port) : PortLimits (startPort p) where
  events i := by simp [startPort]
  gap := Nat.zero_le _
  framing := Nat.zero_le _
  overrun := Nat.zero_le _
  length := Nat.zero_le _
  check := Nat.zero_le _
  overflow := Nat.zero_le _

theorem CountLimits.of_ports {s t : State} (hp : t.ports = s.ports) (h : CountLimits s) : CountLimits t := fun p => by
  have hport : t.port p = s.port p := by cases p <;> simp only [State.port, hp]
  rw [hport]
  exact h p

theorem CountLimits.setPort {s : State} (h : CountLimits s) {p : Port} {x : PortState}
    (hx : PortLimits (s.port p) → PortLimits x) : CountLimits (s.setPort p x) := fun q => by
  by_cases hq : q = p
  · subst hq
    rw [State.port_setPort]
    exact hx (h q)
  · rw [State.port_setPort_ne s hq]
    exact h q

/-! ### Frames and records -/

/-- The store's limits look at the store, the counter and the numbers of axles alone. -/
theorem StoreLimits.of_same {s t : State} (hs : t.store = s.store) (hseq : t.asm.seq = s.asm.seq)
    (hf : ∀ (l : LaneIx) (f' : Frame), t.asm.frames[l] = some f' →
      ∃ f, s.asm.frames[l] = some f ∧ f'.axles.length = f.axles.length) (h : StoreLimits s) : StoreLimits t where
  records := by rw [hs]; exact h.records
  slots := by rw [hs]; exact h.slots
  sequence := by rw [hseq]; exact h.sequence
  axles l f' hf' := by
    obtain ⟨f, hfl, hlen⟩ := hf l f' hf'
    rw [hlen]
    exact h.axles l f hfl

/-- Lanes that are not active stay empty where activation does not move and nothing opens. -/
theorem IdleLanesEmpty.of_fewer {s t : State} (hactive : ∀ l, t.laneActive l = s.laneActive l)
    (hf : ∀ l : LaneIx, s.asm.frames[l] = none → t.asm.frames[l] = none)
    (hc : ∀ l : LaneIx, s.former.candidates[l] = [] → t.former.candidates[l] = []) (h : IdleLanesEmpty s) :
    IdleLanesEmpty t := fun l hl => by
  obtain ⟨h1, h2⟩ := h l (by rw [← hactive]; exact hl)
  exact ⟨hf l h1, hc l h2⟩

theorem laneActive_of_same {s t : State} (hprof : t.prof.active = s.prof.active) (hsite : t.site = s.site) (l : LaneIx) :
    t.laneActive l = s.laneActive l := by
  simp only [State.laneActive, State.laneEnabled, State.laneEntry, hprof, hsite]

namespace Keeps

variable {s t u : State}

theorem refl (s : State) : Keeps s s := ⟨id, id, id, id⟩

theorem trans (h : Keeps s t) (k : Keeps t u) : Keeps s u :=
  ⟨k.store ∘ h.store, k.idle ∘ h.idle, k.counts ∘ h.counts, k.former ∘ h.former⟩

/-- An update that leaves frames, records and candidates alone. -/
theorem of_aside (hasm : t.asm = s.asm) (hstore : t.store = s.store) (hformer : t.former = s.former)
    (hactive : ∀ l, t.laneActive l = s.laneActive l) (hcounts : CountLimits s → CountLimits t) : Keeps s t where
  store := .of_same hstore (by rw [hasm]) fun l f' hf' => ⟨f', by rw [← hasm]; exact hf', rfl⟩
  idle := .of_fewer hactive (fun l h => by rw [hasm]; exact h) (fun l h => by rw [hformer]; exact h)
  counts := hcounts
  former := .of_thins (.of_former_eq hformer)

/-- The parts no invariant looks at. -/
def aside : List Block :=
  [.pending, .now, .heldLow, .strip, .loops, .temp, .cal, .freeReads]

theorem of_keepsAllBut (h : KeepsAllBut aside s t) : Keeps s t :=
  of_aside (h .asm (by simp [aside])) (h .store (by simp [aside])) (h .former (by simp [aside]))
    (laneActive_of_same (by rw [h .prof (by simp [aside])]) (h .site (by simp [aside])))
    (.of_ports (h .ports (by simp [aside])))

/-- An update of the axle former that only makes its lists shorter. -/
theorem of_thins (h : Thins s t) (k : KeepsAllBut [.former] s t) : Keeps s t where
  store := .of_same (k .store (by simp)) (by rw [k .asm (by simp)]) fun l f' hf' =>
    ⟨f', by rw [← k .asm (by simp)]; exact hf', rfl⟩
  idle := .of_fewer (laneActive_of_same (by rw [k .prof (by simp)]) (k .site (by simp)))
    (fun l h => by rw [k .asm (by simp)]; exact h) (fun l hl => h.empty hl)
  counts := .of_ports (k .ports (by simp))
  former := .of_thins h

/-! ### The updates of the chain -/

theorem setStrip (s : State) (x : StripFrontEnd) : Keeps s (s.setStrip x) :=
  of_keepsAllBut ((KeepsAllBut.setStrip s x).mono (by simp [aside]))

theorem setChannel (s : State) (c : ChanIx) (x : Channel) : Keeps s (s.setChannel c x) := setStrip s _

theorem setCal (s : State) (x : Vector LaneCal 6) : Keeps s (s.setCal x) :=
  of_keepsAllBut ((KeepsAllBut.setCal s x).mono (by simp [aside]))

theorem setLoops (s : State) (x : Vector LaneMonitor 6) : Keeps s (s.setLoops x) :=
  of_keepsAllBut ((KeepsAllBut.setLoops s x).mono (by simp [aside]))

theorem setTemp (s : State) (x : TempUnit) : Keeps s (s.setTemp x) :=
  of_keepsAllBut ((KeepsAllBut.setTemp s x).mono (by simp [aside]))

theorem setPort (s : State) {p : Port} {x : PortState} (hx : PortLimits (s.port p) → PortLimits x) :
    Keeps s (s.setPort p x) := by
  have hk := KeepsAllBut.setPort s p x
  exact of_aside (hk .asm (by simp)) (hk .store (by simp)) (hk .former (by simp))
    (laneActive_of_same (by rw [hk .prof (by simp)]) (hk .site (by simp))) (fun h => h.setPort hx)

theorem raise (s : State) (k : EventClass) (item : BitVec 32) : Keeps s (s.raise k item) :=
  of_aside rfl rfl rfl (fun _ => rfl) fun h p => by rw [raise_port]; exact (h p).raise k item

theorem raiseAt (s : State) (k : EventClass) (i : Nat) : Keeps s (s.raiseAt k i) := raise s k _

/-- An update of the profile store that leaves the active set. -/
theorem setProf (s : State) {x : ProfileStore} (h : x.active = s.prof.active) : Keeps s (s.setProf x) :=
  of_aside rfl rfl rfl (laneActive_of_same h rfl) (.of_ports rfl)

theorem placeReason (s : State) (k : Reason) : Keeps s (s.placeReason k) := setProf s rfl

theorem setClaim (s : State) (c : Option Claim) : Keeps s (s.setClaim c) := setProf s rfl

/-- An update of the site controller that leaves lane activation. -/
theorem setSite (s : State) {x : SiteCtl} (h : ∀ l, (s.setSite x).laneActive l = s.laneActive l) :
    Keeps s (s.setSite x) :=
  of_aside rfl rfl rfl h (.of_ports rfl)

theorem ite {p : Prop} [Decidable p] (h : Keeps s t) (k : Keeps s u) : Keeps s (if p then t else u) := by
  split
  · exact h
  · exact k

/-! ### Vehicles -/

theorem offerToCal (s : State) (r : VehicleRec) : Keeps s (s.offerToCal r) := by
  have hcal : ∀ t l c, Keeps t (State.setLaneCal t l c) := fun t l c => setCal t _
  unfold State.offerToCal
  dsimp only
  split
  · exact hcal _ _ _
  · refine ite ?_ (hcal _ _ _)
    have h1 := (hcal s r.lane ((s.cal[r.lane].place r.calEntry).update s.prof.active.autocal.target)).trans
      (raiseAt _ .calUpdate r.lane.val)
    exact (ite (h1.trans (raiseAt _ _ _)) h1).trans (placeReason _ _)

/-- A record joins the store only if it fits (R126). -/
theorem stored (s : State) {r : VehicleRec} (h : storeHasRoom s.store r = true) :
    Keeps s (s.setStore (s.store ++ [r])) := by
  simp only [storeHasRoom, Bool.and_eq_true, decide_eq_true_eq] at h
  obtain ⟨hrecords, hslots⟩ := h
  refine ⟨fun hs => ⟨by simpa using hrecords, ?_, hs.sequence, hs.axles⟩,
    .of_fewer (fun _ => rfl) (fun _ h => h) (fun _ h => h), .of_ports rfl, .of_thins (.of_former_eq rfl)⟩
  simpa [slotsUsed] using hslots

theorem offerToStore (s : State) (r : VehicleRec) : Keeps s (s.offerToStore r) := by
  unfold State.offerToStore
  split
  · rename_i h
    exact ite ((stored s h).trans (raise _ _ _)) (stored s h)
  · exact raiseAt _ _ _

/-- A lane's frame goes, and the counter moves on (R116). -/
theorem unframed (s : State) (l : LaneIx) (mean : Vector (Option Nat) 6) :
    Keeps s (s.setAsm { frames := s.asm.frames.set l none, lastMean := mean, seq := nextSeq s.asm.seq }) := by
  have hframes : ∀ k : LaneIx, (s.asm.frames.set l none)[k] = none ∨ (s.asm.frames.set l none)[k] = s.asm.frames[k] := by
    intro k
    simp only [Fin.getElem_fin, Vector.getElem_set]
    split
    · exact .inl rfl
    · exact .inr rfl
  refine ⟨fun h => ⟨h.records, h.slots, nextSeq_ne_zero _, fun k f hf => ?_⟩, .of_fewer (fun _ => rfl) (fun k hk => ?_)
    (fun _ h => h), .of_ports rfl, .of_thins (.of_former_eq rfl)⟩
  · change (s.asm.frames.set l none)[k] = some f at hf
    rcases hframes k with hk | hk <;> rw [hk] at hf
    · simp at hf
    · exact h.axles k f hf
  · change (s.asm.frames.set l none)[k] = none
    rcases hframes k with h | h <;> rw [h]
    exact hk

theorem closeFrame (s : State) (l : LaneIx) (cause : CloseCause) : Keeps s (s.closeFrame l cause) := by
  unfold State.closeFrame
  split
  · exact refl s
  · have h1 := unframed s l
    exact ((ite ((h1 _).trans (raiseAt _ _ _)) (h1 _)).trans (offerToStore _ _)).trans (offerToCal _ _)

/-- A frame of 1 to 15 axles is placed in an active lane. -/
theorem framed (s : State) {l : LaneIx} {f : Frame} (hactive : s.laneActive l = true)
    (h1 : 1 ≤ f.axles.length) (h15 : f.axles.length ≤ 15) : Keeps s (s.setFrame l (some f)) := by
  refine ⟨fun h => ⟨h.records, h.slots, h.sequence, fun k g hg => ?_⟩, fun h k hk => ?_, .of_ports rfl,
    .of_thins (.of_former_eq rfl)⟩
  · rw [setFrame_frames] at hg
    split at hg
    · obtain rfl := Option.some.inj hg
      exact ⟨h1, h15⟩
    · exact h.axles k g hg
  · have hlk : l ≠ k := by
      rintro rfl
      change s.laneActive l = false at hk
      simp [hactive] at hk
    rw [setFrame_frames, if_neg hlk]
    exact h k hk

/-- An open frame changes without its axles. -/
theorem reframed (s : State) (l : LaneIx) {g : Frame → Frame} (hg : ∀ f, (g f).axles = f.axles) :
    Keeps s (s.setFrame l (s.asm.frames[l].map g)) := by
  refine ⟨.of_same rfl rfl fun k f' hf' => ?_, .of_fewer (fun _ => rfl) (fun k hk => ?_) (fun _ h => h), .of_ports rfl,
    .of_thins (.of_former_eq rfl)⟩
  · rw [setFrame_frames] at hf'
    split at hf'
    · rename_i hlk
      subst hlk
      obtain ⟨f, hf, rfl⟩ := Option.map_eq_some_iff.mp hf'
      exact ⟨f, hf, by rw [hg]⟩
    · exact ⟨f', hf', rfl⟩
  · rw [setFrame_frames]
    split
    · rename_i hlk
      subst hlk
      rw [hk]; rfl
    · exact hk

theorem openFrame (s : State) {a : AxleRec} (h : s.laneActive a.lane = true) : Keeps s (s.openFrame a) := by
  unfold State.openFrame
  exact (framed s h (by simp) (by simp)).trans (setLoops _ _)

theorem joinFrame (s : State) {a : AxleRec} (h : s.laneActive a.lane = true) {f : Frame} (hf : f.axles.length < 15) :
    Keeps s (s.joinFrame f a) :=
  framed s h (by simp [appendAxle_length]) (by simp only [appendAxle_length]; omega)

theorem handOn (s : State) {a : AxleRec} (h : s.laneActive a.lane = true) : Keeps s (s.handOn a) := by
  have hreopen : ∀ cause, Keeps s ((s.closeFrame a.lane cause).openFrame a) := fun cause =>
    (closeFrame s _ cause).trans (openFrame _ (by rw [(Measures.closeFrame s _ cause).laneActive]; exact h))
  unfold State.handOn
  split
  · exact openFrame s h
  · split
    · exact hreopen _
    · split
      · exact hreopen _
      · rename_i hlen
        exact joinFrame s h (by omega)

/-! ### The axle former -/

theorem withdrawHits (s : State) (p : HitRec → Bool) : Keeps s (s.withdrawHits p) :=
  of_thins (thins_withdrawHits s p) (.setFormer s _)

theorem missAt (s : State) (r : StripRow) (q : PosIx) : Keeps s (s.missAt r q).1 := by
  unfold State.missAt
  split
  · exact refl s
  · rw [missNotice_eq]
    split
    · split
      · exact setChannel _ _ _
      · exact ((setChannel _ _ _).trans (raiseAt _ _ _)).trans (withdrawHits _ _)
    · exact refl s

theorem axleNotices (ws : List Wheel) (s : State) : Keeps s (State.axleNotices ws s).1 := by
  induction ws generalizing s with
  | nil => exact refl s
  | cons w rest ih =>
    unfold State.axleNotices
    split
    · exact (missAt _ _ _).trans (ih _)
    · exact ih _

theorem deliverAxle (s : State) (holding : LaneIx) (time : Tick) (ws : List Wheel) (seen : List AxleWheel)
    (forced : Bool) : Keeps s (s.deliverAxle holding time ws seen forced) := by
  rcases deliverAxle_cases s holding time ws seen forced with h | ⟨late, h⟩ | ⟨a, ha, h⟩ <;> rw [h]
  · exact refl s
  · exact of_thins ⟨rfl, fun r q => by cases r <;> exact Nat.le_refl _, fun k => List.Sublist.refl _,
      fun k c hc => ⟨c, hc, .refl c⟩⟩ (.setFormer s _)
  · exact handOn s ha

theorem completeOne (s : State) (l : LaneIx) (c : Candidate) (forced : Bool) : Keeps s (s.completeOne l c forced).1 :=
  ((of_thins (thins_takeOut s l c) (.setFormer s _)).trans (axleNotices _ _)).trans (deliverAxle _ _ _ _ _ _)

theorem completeInTurn (n : Nat) (todo : List (Nat × Bool)) (s : State) : Keeps s (State.completeInTurn n todo s) := by
  induction n generalizing todo s with
  | zero => exact refl s
  | succ n ih =>
    cases todo with
    | nil => exact refl s
    | cons x rest =>
      unfold State.completeInTurn
      split
      · exact ih _ _
      · split
        · exact (completeOne _ _ _ _).trans (ih _ _)
        · exact (completeOne _ _ _ _).trans (ih _ _)

theorem completeIds (s : State) (ids : List Nat) : Keeps s (s.completeIds ids) := completeInTurn _ _ _

theorem withdraw (s : State) (p : HitRec → Bool) : Keeps s (s.withdraw p) :=
  (withdrawHits s p).trans (completeIds _ _)

theorem makeRoom (s : State) (l : LaneIx) : Keeps s (s.makeRoom l) := by
  unfold State.makeRoom
  split
  · split
    · exact completeInTurn _ _ _
    · exact refl s
  · exact refl s

end Keeps

/-! ### Without the former's own limits -/

/-- Of the invariants, those that look beyond the axle former's lists. -/
structure KeepsOuter (s t : State) : Prop where
  store : StoreLimits s → StoreLimits t
  idle : IdleLanesEmpty s → IdleLanesEmpty t
  counts : CountLimits s → CountLimits t

theorem Keeps.outer {s t : State} (h : Keeps s t) : KeepsOuter s t := ⟨h.store, h.idle, h.counts⟩

namespace KeepsOuter

variable {s t u : State}

theorem trans (h : KeepsOuter s t) (k : KeepsOuter t u) : KeepsOuter s u :=
  ⟨k.store ∘ h.store, k.idle ∘ h.idle, k.counts ∘ h.counts⟩

theorem withFormer (h : KeepsOuter s t) (hf : FormerLimits s → FormerLimits t) : Keeps s t :=
  ⟨h.store, h.idle, h.counts, hf⟩

/-- An update of the axle former by which no lane that is not active gets a candidate. -/
theorem of_former (h : KeepsAllBut [.former] s t) (hc : ∀ l : LaneIx, s.laneActive l = false →
    s.former.candidates[l] = [] → t.former.candidates[l] = []) : KeepsOuter s t where
  store := .of_same (h .store (by simp)) (by rw [h .asm (by simp)]) fun l f' hf' =>
    ⟨f', by rw [← h .asm (by simp)]; exact hf', rfl⟩
  idle hs l hl := by
    rw [laneActive_of_same (by rw [h .prof (by simp)]) (h .site (by simp))] at hl
    obtain ⟨h1, h2⟩ := hs l hl
    exact ⟨by rw [h .asm (by simp)]; exact h1, hc l hl h2⟩
  counts := .of_ports (h .ports (by simp))

theorem setWaiting (s : State) (r : StripRow) (q : PosIx) (hs : List HitRec) : KeepsOuter s (s.setWaiting r q hs) := by
  cases r <;> exact of_former (.setFormer s _) fun _ _ h => h

theorem completeIf (h : KeepsOuter s t) (b : Bool) (ids : List Nat) :
    KeepsOuter s (if b then t.completeIds ids else t) := by
  cases b
  · exact h
  · exact h.trans (Keeps.completeIds t ids).outer

/-- A side of an active lane may open a candidate there (R67). -/
theorem wheelStart (s : State) {x : Side} (h : s.laneActive (posLane x.pos) = true) : KeepsOuter s (s.wheelStart x) := by
  unfold State.wheelStart
  split
  · rename_i c hc
    have hjoin : KeepsOuter s (s.mapCandidate c.id (fun d => { d with sides := d.sides ++ [x] })) :=
      of_former (.setFormer s _) fun l _ hl => by
        simp only [State.mapCandidate, State.setFormer_former, Fin.getElem_fin, Vector.getElem_map]
        simp only [Fin.getElem_fin] at hl
        rw [hl, List.map_nil]
    dsimp only
    split
    · exact hjoin.completeIf _ _
    · exact hjoin
  · have hroom := (Keeps.makeRoom s (posLane x.pos)).outer
    dsimp only
    split
    · refine hroom.trans (of_former (.setFormer _ _) fun l hl hc => ?_)
      have hne : posLane x.pos ≠ l := by
        rintro rfl
        rw [(Measures.makeRoom s _).laneActive, h] at hl
        exact absurd hl (by simp)
      exact (openCandidate_candidates _ _ _ _).trans ((if_neg hne).trans hc)
    · exact hroom

theorem pairHits (s : State) (lead trail : HitRec) (v : Nat) (reverse : Bool) :
    KeepsOuter s (s.pairHits lead trail v reverse) := by
  unfold State.pairHits
  dsimp only
  split
  · exact setWaiting _ _ _ _
  · refine KeepsOuter.completeIf ((setWaiting s _ _ _).trans (of_former (.setFormer _ _) fun k _ hk => ?_)) _ _
    refine (setCandidates_candidates _ _ _ _).trans ?_
    split
    · rename_i hlk
      subst hlk
      rw [hk, List.map_nil]
    · exact hk

theorem hitArrival (s : State) {h : HitRec} (hactive : s.laneActive (posLane h.pos) = true) :
    KeepsOuter s (s.hitArrival h) := by
  unfold State.hitArrival
  dsimp only
  split
  · unfold State.leadingArrival
    have hfinish : ∀ u : State, (∀ l, u.laneActive l = s.laneActive l) →
        KeepsOuter u ((u.setWaiting h.row h.pos (u.waiting h.row h.pos ++ [h])).wheelStart (.waiting h)) := fun u hu =>
      (setWaiting u _ _ _).trans (wheelStart _ (by rw [(Measures.setWaiting u _ _ _).laneActive, hu]; exact hactive))
    split
    · split
      · exact ((Keeps.setChannel s _ _).trans (Keeps.withdraw _ _)).outer.trans
          (hfinish _ ((Measures.countDiscard s _).trans (Measures.withdraw _ _)).laneActive)
      · exact hfinish s fun _ => rfl
    · exact hfinish s fun _ => rfl
  · unfold State.trailingArrival
    dsimp only
    split
    · exact pairHits _ _ _ _ _
    · generalize hr : (if s.runsReverse (posLane h.pos) then (s, []) else s.missAt .rowA h.pos) = r
      have hk : Keeps s r.1 ∧ Measures s r.1 := by
        rw [← hr]
        split
        · exact ⟨.refl s, .refl s⟩
        · exact ⟨.missAt _ _ _, .missAt _ _ _⟩
      refine (hk.1.trans (Keeps.completeIds _ _)).outer.trans (wheelStart _ ?_)
      rw [(hk.2.trans (Measures.completeIds _ _)).laneActive]
      exact hactive

end KeepsOuter

theorem Keeps.hitArrival (s : State) {h : HitRec} (hactive : s.laneActive (posLane h.pos) = true) :
    Keeps s (s.hitArrival h) :=
  (KeepsOuter.hitArrival s hactive).withFormer fun hf => hf.hitArrival h

end Sys2Proof.Machine
end

section
/-! What a command leaves of the profile store: the active set with its counts, and a claim whose commit is in flight (R152,
R161, R162). -/

namespace Sys2Proof.Machine

open Sys2Proof

/-- The active set, its counts, the lock and the medium stand, and so does a claim whose commit is in flight. -/
structure StandsAsJudged (s t : State) : Prop where
  active : t.prof.active = s.prof.active
  generation : t.prof.generation = s.prof.generation
  locked : t.prof.locked = s.prof.locked
  audit : t.prof.audit = s.prof.audit
  boot : t.prof.boot = s.prof.boot
  medium : t.prof.medium = s.prof.medium
  claim : ∀ x, s.prof.claim = some x → x.timer = none → t.prof.claim = some x

namespace StandsAsJudged

variable {s t u : State}

theorem of_prof (h : t.prof = s.prof) : StandsAsJudged s t := by
  constructor <;> simp only [h]
  exact fun x hx _ => hx

theorem refl (s : State) : StandsAsJudged s s := of_prof rfl

theorem of_measures (h : Measures s t) : StandsAsJudged s t := by
  constructor <;> rw [h.prof]
  exact fun x hx _ => hx

theorem of_keepsAllBut {L : List Block} (h : KeepsAllBut L s t) (hL : Block.prof ∉ L) : StandsAsJudged s t :=
  of_prof (h .prof hL)

theorem trans (h : StandsAsJudged s t) (k : StandsAsJudged t u) : StandsAsJudged s u where
  active := k.active.trans h.active
  generation := k.generation.trans h.generation
  locked := k.locked.trans h.locked
  audit := k.audit.trans h.audit
  boot := k.boot.trans h.boot
  medium := k.medium.trans h.medium
  claim x hx ht := k.claim x (h.claim x hx ht) ht

/-- The claim changes, no commit being in flight. -/
theorem setClaim (h : ∀ x, s.prof.claim = some x → x.timer ≠ none) (c : Option Claim) :
    StandsAsJudged s (s.setClaim c) :=
  ⟨rfl, rfl, rfl, rfl, rfl, rfl, fun x hx ht => absurd ht (h x hx)⟩

theorem placeReason (s : State) (k : Reason) : StandsAsJudged s (s.placeReason k) :=
  ⟨rfl, rfl, rfl, rfl, rfl, rfl, fun _ hx _ => hx⟩

theorem siteThenRecompose (s : State) (x : SiteCtl) : StandsAsJudged s ((s.setSite x).recompose s) := by
  have hsite : StandsAsJudged s (s.setSite x) := of_prof rfl
  exact hsite.trans (of_measures (Measures.recompose _ _))

/-- An edit request of the owner moves the claim only while its timer runs (R156; log 20). -/
theorem onClaim {c : Claim} {edit : State × Answer}
    (h : c.timer ≠ none → StandsAsJudged s edit.1) : StandsAsJudged s (s.onClaim c edit).1 := by
  by_cases ht : c.timer = none
  · rw [onClaim_inFlight ht]
    exact refl s
  · rw [onClaim_running ht]
    exact h ht

end StandsAsJudged

theorem claim_of_claimOf {s : State} {p : Port} {c : Claim} (h : s.claimOf p = some c) : s.prof.claim = some c := by
  unfold State.claimOf at h
  exact (Option.filter_eq_some_iff.mp h).1

/-- The owner of a request leaves the active set, and a claim whose commit is in flight, as they are. -/
theorem standsAsJudged_ownerOf (k : ReqKind) (p : Port) (payload : List Byte) (s : State) :
    StandsAsJudged s (ownerOf k p payload s).1 := by
  have hframe := keepsAllBut_ownerOf k p payload s
  have hset : ∀ {c : Claim} (d : Option Claim), s.claimOf p = some c → c.timer ≠ none → StandsAsJudged s (s.setClaim d) :=
    fun d hc ht => .setClaim (fun x hx => by
      obtain rfl := Option.some.inj ((claim_of_claimOf hc).symm.trans hx)
      exact ht) d
  cases k with
  | siteRun =>
    simp only [ownerOf, siteRunOwner]
    split
    · exact .refl s
    · split
      · exact .refl s
      · exact .siteThenRecompose s _
  | laneSet =>
    simp only [ownerOf, laneSetOwner]
    split
    · exact .siteThenRecompose s _
    · exact .refl s
  | editBegin =>
    simp only [ownerOf, editBeginOwner]
    split
    · rename_i hnone
      split
      · exact .refl s
      · exact .setClaim (fun x hx => by simp [hnone] at hx) _
    · split <;> exact .refl s
  | editPut =>
    simp only [ownerOf, editPutOwner]
    split
    · exact .refl s
    · rename_i c hc
      exact .onClaim (hset _ hc)
  | editDiscard =>
    simp only [ownerOf, editDiscardOwner]
    split
    · exact .refl s
    · rename_i c hc
      exact .onClaim (hset _ hc)
  | commit =>
    simp only [ownerOf, commitOwner]
    split
    · exact .refl s
    · rename_i c hc
      refine .onClaim fun ht => ?_
      split
      · exact hset _ hc ht
      · exact (hset _ hc ht).trans (.placeReason _ _)
  | readSection =>
    simp only [ownerOf, readSectionOwner]
    split
    · exact .refl s
    · split
      · exact .refl s
      · rename_i c hc
        exact .onClaim (hset _ hc)
    · exact .refl s
  | lock =>
    simp only [ownerOf, lockOwner]
    split
    · exact .refl s
    · split
      · exact .refl s
      · exact ⟨rfl, rfl, rfl, rfl, rfl, rfl, fun _ hx _ => hx⟩
  | ident | peek | status | timeSet | restart | take | stream | eventEnable | probeNow | channelRearm =>
    exact .of_keepsAllBut hframe (by simp [ownerTouches])

theorem standsAsJudged_takeRequest (k : ReqKind) (p : Port) (tag : Byte) (payload : List Byte) (s : State) :
    StandsAsJudged s (s.takeRequest k p tag payload (ownerOf k p payload)) := by
  rcases takeRequest_cases s k p tag payload (ownerOf k p payload) with ⟨_, h⟩ | ⟨st, _, h⟩ | ⟨_, _, h⟩ <;> rw [h]
  · exact .of_keepsAllBut (keepsAllBut_linkError s p _) (by simp)
  · exact .of_keepsAllBut (.withReply s p _) (by simp)
  · exact (standsAsJudged_ownerOf k p payload s).trans (.of_keepsAllBut (keepsAllBut_answer _ _ _ _ _) (by simp))

end Sys2Proof.Machine
end

section
/-! Every command keeps the four invariants, and every command but a start and the end of a write leaves the active set as it
stands. -/

namespace Sys2Proof.Machine

open Sys2Proof

/-! ### Lane deactivation (R39) -/

/-- A closed frame leaves its lane and no other. -/
theorem closeFrame_frames (s : State) (l k : LaneIx) (cause : CloseCause) :
    (s.closeFrame l cause).asm.frames[k] = if l = k then none else s.asm.frames[k] := by
  cases hf : s.asm.frames[l] with
  | none =>
    have hsame : s.closeFrame l cause = s := by simp only [State.closeFrame, hf]
    rw [hsame]
    split
    · rename_i hlk
      subst hlk
      exact hf
    · rfl
  | some f =>
    have hoffers : ∀ (u : State) r, ((u.offerToStore r).offerToCal r).asm = u.asm := fun u r =>
      ((keepsAllBut_offerToCal _ r).asm (by simp)).trans ((keepsAllBut_offerToStore u r).asm (by simp))
    simp only [State.closeFrame, hf, hoffers]
    split <;> simp [Vector.getElem_set, Fin.ext_iff]

theorem abortFrames_frames (ls : List LaneIx) (s : State) (k : LaneIx) :
    (s.abortFrames ls).asm.frames[k] = if k ∈ ls then none else s.asm.frames[k] := by
  induction ls generalizing s with
  | nil => rfl
  | cons l rest ih =>
    have hcons : s.abortFrames (l :: rest) = (s.closeFrame l .aborted).abortFrames rest := rfl
    rw [hcons, ih, closeFrame_frames]
    by_cases hlk : l = k
    · simp [hlk]
    · simp [hlk, Ne.symm hlk]

theorem discardCandidates_candidates (s : State) (ls : List LaneIx) (k : LaneIx) :
    (s.discardCandidates ls).former.candidates[k] = if k ∈ ls then [] else s.former.candidates[k] := by
  simp [State.discardCandidates]

theorem mem_deactivatedSince {s before : State} {l : LaneIx} :
    l ∈ s.deactivatedSince before ↔ before.laneActive l = true ∧ s.laneActive l = false := by
  have hall : ∀ k : LaneIx, k ∈ allLanes := by decide
  simp [State.deactivatedSince, hall]

theorem Keeps.abortFrames (ls : List LaneIx) (s : State) : Keeps s (s.abortFrames ls) := by
  unfold State.abortFrames
  induction ls generalizing s with
  | nil => exact .refl s
  | cons l rest ih => exact (Keeps.closeFrame _ _ _).trans (ih _)

theorem Keeps.discardCandidates (s : State) (ls : List LaneIx) : Keeps s (s.discardCandidates ls) :=
  .of_thins (thins_discardCandidates s ls) (.setFormer s _)

theorem Keeps.recompose (s before : State) : Keeps s (s.recompose before) := by
  unfold State.recompose
  dsimp only
  split
  · exact .refl s
  · exact ((Keeps.abortFrames _ _).trans (.discardCandidates _ _)).trans (.withdraw _ _)

/-- Once activation is recomposed, every lane that is not active is empty, if those not active before were (R39). -/
theorem idleLanesEmpty_recompose {s before : State} (h : ∀ l : LaneIx, before.laneActive l = false →
    s.asm.frames[l] = none ∧ s.former.candidates[l] = []) : IdleLanesEmpty (s.recompose before) := by
  unfold State.recompose
  dsimp only
  split
  · rename_i hls
    intro l hl
    by_cases hb : before.laneActive l = true
    · have := mem_deactivatedSince.mpr ⟨hb, hl⟩
      simp [List.isEmpty_iff.mp hls] at this
    · exact h l (by simpa using hb)
  · refine (Keeps.withdraw _ _).idle fun l hl => ?_
    have hactive : s.laneActive l = false := by
      rw [← (Measures.abortFrames s (s.deactivatedSince before)).laneActive]
      exact hl
    rw [discardCandidates_candidates]
    have hframe := abortFrames_frames (s.deactivatedSince before) s l
    by_cases hmem : l ∈ s.deactivatedSince before
    · rw [if_pos hmem] at hframe ⊢
      exact ⟨hframe, rfl⟩
    · rw [if_neg hmem] at hframe ⊢
      have hb : before.laneActive l = false := by
        by_contra hb
        exact hmem (mem_deactivatedSince.mpr ⟨by simpa using hb, hactive⟩)
      obtain ⟨h1, h2⟩ := h l hb
      have hformer : (s.abortFrames (s.deactivatedSince before)).former.candidates[l] = [] := by
        have hkeep : ∀ (ls : List LaneIx) (u : State), (u.abortFrames ls).former = u.former := by
          intro ls
          induction ls with
          | nil => exact fun u => rfl
          | cons k rest ih => exact fun u => (ih _).trans ((keepsAllBut_closeFrame u k .aborted).former (by simp [frameParts]))
        rw [hkeep]
        exact h2
      exact ⟨hframe.trans h1, hformer⟩

/-- A change of the site controller, recomposed (R37 to R39). -/
theorem Keeps.siteThenRecompose (s : State) (x : SiteCtl) : Keeps s ((s.setSite x).recompose s) := by
  have h1 := Keeps.recompose (s.setSite x) s
  exact ⟨fun h => h1.store ⟨h.records, h.slots, h.sequence, h.axles⟩, fun h => idleLanesEmpty_recompose h,
    fun h => h1.counts (.of_ports rfl h), fun h => h1.former (FormerLimits.of_thins (Thins.of_former_eq (s := s) rfl) h)⟩

/-! ### The strip front end -/

theorem posLane_hitPos (h : HitRec) : posLane h.pos = h.lane := by
  apply Fin.ext
  simp only [posLane, HitRec.pos]
  cases h.side <;> simp only [segmentPos] <;> omega

theorem Keeps.pourBucket (s : State) (c : ChanIx) (n : Nat) : Keeps s (s.pourBucket c n) := by
  unfold State.pourBucket
  exact .ite ((Keeps.setChannel _ _ _).trans (.raiseAt _ _ _)) (.setChannel _ _ _)

theorem Keeps.disposeHit (s : State) (c : ChanIx) (start stop : Tick) (area : Nat) (peak : Int) (clips : Nat) :
    Keeps s (s.disposeHit c start stop area peak clips) := by
  have harrive : ∀ l, s.laneActive l = true → Keeps s ((s.pourBucket c clips).hitArrival
      ((s.pourBucket c clips).hitRecord c l start stop area peak clips)) := fun l hl =>
    (Keeps.pourBucket s c clips).trans (.hitArrival _ (by
      rw [posLane_hitPos, (Measures.pourBucket s c clips).laneActive]
      exact hl))
  unfold State.disposeHit
  split
  · exact .refl s
  · split
    · exact .refl s
    · rename_i l _ hactive
      have hl : s.laneActive l = true := by simpa using hactive
      split
      · exact .setChannel _ _ _
      · exact harrive l hl
      · exact harrive l hl
      · exact .refl s
      · exact .refl s

theorem Keeps.takeSample (s : State) (c : ChanIx) (x : BitVec 16) : Keeps s (s.takeSample c x) := by
  have h1 : Keeps s (s.sampled c x) := .setChannel s _ _
  unfold State.takeSample
  dsimp only
  split
  · exact h1
  · exact h1
  · exact h1.trans (.raiseAt _ _ _)
  · unfold State.disposeLong
    exact h1.trans (.ite (.setChannel _ _ _) (.refl _))
  · exact h1.trans (.disposeHit _ _ _ _ _ _ _)

theorem Keeps.leakChannels (s : State) (cs : List ChanIx) : Keeps s (cs.foldl State.leakChannel s) := by
  refine foldl_keeps Keeps .refl .trans State.leakChannel (fun t c => ?_) cs s
  unfold State.leakChannel
  exact .ite ((Keeps.setChannel _ _ _).trans (.raiseAt _ _ _)) (.setChannel _ _ _)

/-! ### Blocks beside the chain -/

/-- Changes of the ports alone, or of parts no invariant looks at. -/
theorem Keeps.of_counts {s t : State} (h : KeepsAllBut (.ports :: Keeps.aside) s t) (hc : CountLimits s → CountLimits t) :
    Keeps s t :=
  .of_aside (h .asm (by simp [Keeps.aside])) (h .store (by simp [Keeps.aside])) (h .former (by simp [Keeps.aside]))
    (laneActive_of_same (by rw [h .prof (by simp [Keeps.aside])]) (h .site (by simp [Keeps.aside]))) hc

/-- Changes of the profile store that leave the active set. -/
theorem Keeps.of_prof {s t : State} (h : KeepsAllBut [.prof] s t) (ha : t.prof.active = s.prof.active) : Keeps s t :=
  .of_aside (h .asm (by simp)) (h .store (by simp)) (h .former (by simp)) (laneActive_of_same ha (h .site (by simp)))
    (.of_ports (h .ports (by simp)))

theorem Keeps.setLaneMon (s : State) (l : LaneIx) (m : LaneMonitor) : Keeps s (s.setLaneMon l m) := .setLoops s _

theorem Keeps.occupancyReport (s : State) (l : LaneIx) (ct : Tick) : Keeps s (s.occupancyReport l ct) := by
  unfold State.occupancyReport
  dsimp only
  split
  · exact .refl s
  · refine (Keeps.setLaneMon s l _).trans (.reframed _ l fun f => ?_)
    unfold Frame.report
    split
    · rfl
    · split <;> rfl

theorem Keeps.presenceTakes (s : State) (l : LaneIx) (d : LoopPos) (occupied : Bool) (ct : Tick) (report : Bool) :
    Keeps s (s.presenceTakes l d occupied ct report) := by
  have hreport : Keeps s (if report then s.occupancyReport l ct else s) := .ite (.occupancyReport s l ct) (.refl _)
  unfold State.presenceTakes
  split
  · unfold State.upOccupied
    dsimp only
    split
    · exact .setLaneMon _ _ _
    · exact .setLaneMon _ _ _
    · exact .setLaneMon _ _ _
    · exact .refl _
    · exact .refl _
  · unfold State.upFree
    dsimp only
    split
    · exact hreport.trans (.setLaneMon _ _ _)
    · exact hreport.trans (.setLaneMon _ _ _)
    · exact .setLaneMon _ _ _
    · exact .refl _
    · exact .refl _
  · unfold State.downOccupied
    dsimp only
    split
    · exact (Keeps.setLaneMon _ _ _).trans (.raiseAt _ _ _)
    · exact .setLaneMon _ _ _
    · exact .setLaneMon _ _ _
    · exact .refl _
    · exact .refl _
  · unfold State.downFree
    dsimp only
    split
    · exact .setLaneMon _ _ _
    · exact .setLaneMon _ _ _
    · exact .setLaneMon _ _ _
    · exact .refl _
    · exact .refl _

theorem Keeps.acceptChange (s : State) (l : LaneIx) (d : LoopPos) (ct : Tick) : Keeps s (s.acceptChange l d ct) := by
  unfold State.acceptChange
  dsimp only
  split
  · exact (Keeps.setLaneMon _ _ _).trans (.presenceTakes _ _ _ _ _ _)
  · exact (Keeps.setLaneMon _ _ _).trans (.presenceTakes _ _ _ _ _ _)
  · exact .setLaneMon _ _ _

theorem Keeps.congest (s : State) (l : LaneIx) : Keeps s (s.congest l) := by
  unfold State.congest
  dsimp only
  split
  · exact .setLaneMon _ _ _
  · refine Keeps.trans ?_ (.raiseAt _ _ _)
    exact (Keeps.setLaneMon s l _).trans
      (.reframed _ l (g := fun f => { f with flags := f.flags ||| Flag.congested.one }) fun _ => rfl)

theorem Keeps.setLaneTemp (s : State) (l : LaneIx) (x : LaneTemp) : Keeps s (s.setLaneTemp l x) := by
  have h1 : Keeps s (s.setTemp { s.temp with lanes := s.temp.lanes.set l x }) := .setTemp s _
  have h2 := Keeps.ite (p := x.status ≠ s.temp.lanes[l].status) (h1.trans (.raiseAt _ .laneTemp l.val)) h1
  unfold State.setLaneTemp
  exact .ite (h2.trans (.setCal _ _)) h2

theorem Keeps.evaluateLanes (s : State) : Keeps s s.evaluateLanes :=
  foldl_keeps Keeps .refl .trans State.evaluateLane (fun t l => .setLaneTemp t l _) allLanes s

theorem Keeps.setProbe (s : State) (p : ProbeIx) (x : Probe) : Keeps s (s.setProbe p x) := by
  unfold State.setProbe
  exact .ite ((Keeps.setTemp s _).trans (.raiseAt _ _ _)) (.setTemp s _)

theorem Keeps.selectInput (s : State) : Keeps s s.selectInput :=
  .of_keepsAllBut ((keepsAllBut_selectInput s).mono (by simp [Keeps.aside]))

theorem Keeps.placeReply (s : State) (p : Port) (r : Reply) : Keeps s (s.placeReply p r) :=
  .setPort s (.of_same rfl rfl)

theorem Keeps.endDeferred (s : State) (p : Port) (k : DeferredKind) (payload : List Byte) :
    Keeps s (s.endDeferred p k payload) := by
  unfold State.endDeferred
  dsimp only
  split
  · exact .refl s
  · refine .ite (Keeps.trans (.setPort s ?_) (.placeReply _ _ _)) (.refl s)
    exact .of_same rfl rfl

theorem Keeps.takeProbeResult (s : State) (p : ProbeIx) (raw : Nat) : Keeps s (s.takeProbeResult p raw) := by
  unfold State.takeProbeResult
  exact .ite (.setProbe _ _ _) ((Keeps.setProbe _ _ _).trans (.evaluateLanes _))

theorem Keeps.dropSlot (s : State) : Keeps s s.dropSlot := by
  unfold State.dropSlot
  split
  · exact .ite (.refl s) ((Keeps.setTemp s _).trans (.endDeferred _ _ _ _))
  · exact .refl s

theorem Keeps.deliverResult (s : State) (c : Conversion) (code : BitVec 12) : Keeps s (s.deliverResult c code) := by
  have hreply : ∀ t b r raw, Keeps t (State.replyFromSlot t b r raw) := fun t b r raw =>
    (Keeps.setTemp t _).trans (.endDeferred _ _ _ _)
  unfold State.deliverResult
  split
  · exact .setTemp _ _
  · exact .ite (.refl s) (.takeProbeResult _ _ _)
  · split
    · exact .ite ((Keeps.takeProbeResult _ _ _).trans (hreply _ _ _ _)) (.refl s)
    · exact .refl s

theorem Keeps.commitProbes (s : State) (old : ProbesSec) : Keeps s (s.commitProbes old) := by
  rw [commitProbes_eq]
  have h1 : Keeps s (s.probesFollow old) :=
    foldl_keeps Keeps .refl .trans _ (fun t p => .setProbe t p _) allProbes s
  exact (((h1.trans (.setTemp _ _)).trans (.dropSlot _)).trans (.selectInput _)).trans (.evaluateLanes _)

/-! ### Requests -/

theorem Keeps.linkError (s : State) (p : Port) (e : LinkError) : Keeps s (s.linkError p e) :=
  (Keeps.setPort s fun h => h.counted e).trans (.raise _ _ _)

theorem Keeps.answer (s : State) (p : Port) (kind tag : Byte) (a : Answer) : Keeps s (s.answer p kind tag a) := by
  cases a <;> exact .setPort s (.of_same rfl rfl)

/-- The oldest records leave the store. -/
theorem Keeps.dropped (s : State) (k : Nat) : Keeps s (s.setStore (s.store.drop k)) := by
  refine ⟨fun h => ⟨?_, ?_, h.sequence, h.axles⟩, .of_fewer (fun _ => rfl) (fun _ h => h) (fun _ h => h), .of_ports rfl,
    .of_thins (.of_former_eq rfl)⟩
  · have := h.records
    simp
    omega
  · exact Nat.le_trans (((List.drop_sublist k s.store).map _).sum_le_sum (by simp)) h.slots

theorem Keeps.ownerOf (k : ReqKind) (p : Port) (payload : List Byte) (s : State) : Keeps s (ownerOf k p payload s).1 := by
  have hframe := keepsAllBut_ownerOf k p payload s
  cases k with
  | siteRun =>
    simp only [Machine.ownerOf, siteRunOwner]
    split
    · exact .refl s
    · split
      · exact .refl s
      · exact .siteThenRecompose s _
  | laneSet =>
    simp only [Machine.ownerOf, laneSetOwner]
    split
    · exact .siteThenRecompose s _
    · exact .refl s
  | timeSet => exact .setSite s fun _ => rfl
  | restart =>
    simp only [Machine.ownerOf, restartOwner]
    split
    · exact .setSite s fun _ => rfl
    · exact .refl s
  | editBegin | editPut | editDiscard | commit | readSection | lock =>
    exact .of_prof hframe (standsAsJudged_ownerOf _ p payload s).active
  | take =>
    simp only [Machine.ownerOf, takeOwner]
    split
    · exact .dropped s _
    · exact .refl s
  | ident | peek | probeNow => exact .of_keepsAllBut (hframe.mono (by simp [ownerTouches, Keeps.aside]))
  | status =>
    refine .of_counts (hframe.mono (by simp [ownerTouches, Keeps.aside])) fun h => ?_
    have hclear : CountLimits (s.setPort p (s.port p).clearEvents) := h.setPort fun hp =>
      ⟨fun i => by simp [PortState.clearEvents, emptyCell], hp.gap, hp.framing, hp.overrun, hp.length, hp.check,
        hp.overflow⟩
    simp only [Machine.ownerOf, statusOwner, State.countFreeRead]
    split
    · exact hclear.of_ports rfl
    · exact hclear
  | stream =>
    refine .of_counts (hframe.mono (by simp [ownerTouches, Keeps.aside])) fun h => ?_
    simp only [Machine.ownerOf, streamOwner]
    split
    · exact fun q => by cases q; exacts [h .cab, h .svc]
    · exact h
  | channelRearm =>
    refine .of_counts (hframe.mono (by simp [ownerTouches, Keeps.aside])) fun h => ?_
    simp only [Machine.ownerOf, rearmOwner]
    split
    · split
      · exact h
      · exact ((Keeps.setChannel s _ _).trans (.raiseAt _ _ _)).counts h
    · exact h
  | eventEnable =>
    refine .of_counts (hframe.mono (by simp [ownerTouches, Keeps.aside])) fun h => ?_
    simp only [Machine.ownerOf, eventEnableOwner]
    split
    · exact h.setPort (.of_same rfl rfl)
    · exact h

theorem Keeps.takeRequest (k : ReqKind) (p : Port) (tag : Byte) (payload : List Byte) (s : State) :
    Keeps s (s.takeRequest k p tag payload (Machine.ownerOf k p payload)) := by
  rcases takeRequest_cases s k p tag payload (Machine.ownerOf k p payload) with ⟨_, h⟩ | ⟨st, _, h⟩ | ⟨_, _, h⟩ <;> rw [h]
  · exact .linkError s p _
  · exact .placeReply s p _
  · exact (Keeps.ownerOf k p payload s).trans (.answer _ _ _ _ _)

end Sys2Proof.Machine
end

section
/-! The four invariants hold after every step, and the active set changes at the completion of a commit and at a start only
(R39, R62, R68, R109, R116, R126, R152, R161, R176, R181). -/

namespace Sys2Proof.Machine

open Sys2Proof

/-- A command that keeps the invariants and leaves the active set as it was judged. -/
structure Quiet (s t : State) : Prop where
  keeps : Keeps s t
  stands : StandsAsJudged s t

namespace Quiet

variable {s t u : State}

theorem refl (s : State) : Quiet s s := ⟨.refl s, .refl s⟩

theorem of_measures (k : Keeps s t) (m : Measures s t) : Quiet s t := ⟨k, .of_measures m⟩

theorem of_keepsAllBut {L : List Block} (k : Keeps s t) (h : KeepsAllBut L s t) (hL : Block.prof ∉ L) : Quiet s t :=
  ⟨k, .of_keepsAllBut h hL⟩

theorem of_whileRunning (h : whileRunning s u = .next t) (hu : Quiet s u) : Quiet s t := by
  rcases whileRunning_eq_next h with rfl | rfl
  · exact refl _
  · exact hu

theorem of_whenDue {due : Bool} (h : whenDue s due u = .next t) (hu : due = true → Quiet s u) : Quiet s t := by
  rcases whenDue_eq_next h with rfl | ⟨hdue, rfl⟩
  · exact refl _
  · exact hu hdue

theorem takeRequest (k : ReqKind) (p : Port) (tag : Byte) (payload : List Byte) (s : State) :
    Quiet s (s.takeRequest k p tag payload (ownerOf k p payload)) :=
  ⟨.takeRequest k p tag payload s, standsAsJudged_takeRequest k p tag payload s⟩

end Quiet

/-! ### The ports -/

theorem quiet_linkError (s : State) (p : Port) (e : LinkError) : Quiet s (s.linkError p e) :=
  .of_keepsAllBut (.linkError s p e) (keepsAllBut_linkError s p e) (by simp)

theorem quiet_unknownKind (s : State) (p : Port) (kind tag : Byte) : Quiet s (s.unknownKind p kind tag) := by
  unfold State.unknownKind
  split
  · exact quiet_linkError s p _
  · exact .of_keepsAllBut (.placeReply s p _) (.setPort s p _) (by simp)

theorem quiet_receiveByte (s : State) (p : Port) (b : Byte) : Quiet s (s.receiveByte p b) := by
  have h1 : Quiet s (s.setPort p ((s.port p).received b s.now)) :=
    .of_keepsAllBut (.setPort s (.of_same rfl rfl)) (.setPort s p _) (by simp)
  have hthen : ∀ u, Quiet (s.setPort p ((s.port p).received b s.now)) u → Quiet s u := fun u hu =>
    ⟨h1.keeps.trans hu.keeps, h1.stands.trans hu.stands⟩
  unfold State.receiveByte
  dsimp only
  split
  · exact h1
  · exact hthen _ (quiet_linkError _ _ _)
  · refine hthen _ ?_
    unfold State.takeFrame
    split
    · exact quiet_unknownKind _ _ _ _
    · exact .takeRequest _ _ _ _ _

theorem quiet_frameSent (s : State) (p : Port) (f : Sending) : Quiet s (s.frameSent p f) := by
  have hsite : ∀ u : State, Keeps u (u.setSite u.site.replySent) := fun u => .setSite u fun _ => rfl
  have hpassed : Quiet s (s.setPassedPort p) := by
    refine .of_keepsAllBut ?_ (setPassedPort_keeps s p) (by simp)
    have h1 : Keeps s ((s.setPort p (startPort p)).setTemp (s.temp.withoutRequestOf p)) :=
      (Keeps.setPort s fun _ => .start p).trans (.setTemp _ _)
    have h2 : ∀ x : Bool, Keeps s (((s.setPort p (startPort p)).setTemp (s.temp.withoutRequestOf p)).setSite
        (if x then s.site.replySent else s.site)) := fun x =>
      h1.trans (.setSite _ fun _ => by cases x <;> cases p <;> rfl)
    have h3 := h2 ((s.port p).replies.any (fun r => r.endsRestart))
    cases p with
    | svc => exact h3
    | cab => exact h3.trans (.of_aside rfl rfl rfl (fun _ => rfl) fun h q => by cases q; exacts [h .cab, h .svc])
  have hidle : Quiet s (s.setPort p { s.port p with tx := none }) :=
    .of_keepsAllBut (.setPort s (.of_same rfl rfl)) (.setPort s p _) (by simp)
  rw [frameSent_eq]
  dsimp only
  generalize hu : (if (s.port p).setAfterFrame = true then s.setPassedPort p
    else s.setPort p { s.port p with tx := none }) = u
  have hq : Quiet s u := by
    rw [← hu]
    split
    · exact hpassed
    · exact hidle
  split
  · exact ⟨hq.keeps.trans (hsite u), hq.stands.trans (.of_prof rfl)⟩
  · exact hq

theorem PortLimits.clearDue {x : PortState} (h : PortLimits x) : PortLimits x.clearDue where
  events i := by
    simp only [PortState.clearDue, Fin.getElem_fin, Vector.getElem_ofFn]
    split
    · exact Nat.zero_le _
    · exact h.events i
  gap := h.gap
  framing := h.framing
  overrun := h.overrun
  length := h.length
  check := h.check
  overflow := h.overflow

/-! ### Every command but a start and the end of a write -/

/-- No start and no end of a write: such a command keeps the invariants and leaves the active set as it was judged. -/
theorem exec_quiet {s t : State} {c : Instr} (h : exec c s = .next t) (hpower : ∀ strap, c ≠ .powerOn strap)
    (hline : ∀ strap, c ≠ .lineReset strap) (hlow : c ≠ .resetNHeldLow) (hrestart : c ≠ .restartTakesPlace)
    (hwrite : ∀ agrees, c ≠ .imageWriteComplete agrees) : Quiet s t := by
  have hreq : ∀ k p tag payload, exec (requestCommand k p tag payload) s = .next t → Quiet s t :=
    fun k p tag payload h => .of_whileRunning ((exec_requestCommand k p tag payload s).symm.trans h) (.takeRequest ..)
  have hsample : ∀ c x, Quiet s (s.takeSample c x) := fun c x => .of_measures (.takeSample s c x) (.takeSample s c x)
  have hport : ∀ p x, (PortLimits (s.port p) → PortLimits x) → Quiet s (s.setPort p x) := fun p x hx =>
    .of_keepsAllBut (.setPort s hx) (.setPort s p x) (by simp)
  have hloops : ∀ u, KeepsAllBut loopParts s u → Keeps s u → Quiet s u := fun u hu hk =>
    .of_keepsAllBut hk hu (by simp [loopParts])
  cases c with
  | powerOn strap => exact absurd rfl (hpower strap)
  | lineReset strap => exact absurd rfl (hline strap)
  | resetNHeldLow => exact absurd rfl hlow
  | restartTakesPlace => exact absurd rfl hrestart
  | imageWriteComplete agrees => exact absurd rfl (hwrite agrees)
  | stripSample c x => exact .of_whileRunning h (hsample c x)
  | settlingComplete c x => exact .of_whenDue h fun _ => hsample c x
  | hitEnd c x => exact .of_whenDue h fun _ => hsample c x
  | hitLong c x => exact .of_whenDue h fun _ => hsample c x
  | recoveryEnd c x => exact .of_whenDue h fun _ => hsample c x
  | bucketLeak =>
    refine .of_whenDue h fun _ => .of_measures ((Keeps.setStrip s _).trans (.leakChannels _ _)) ?_
    exact (Measures.setStrip s _).trans (foldl_keeps Measures .refl .trans _ Measures.leakChannel _ _)
  | loopLineChange l d high =>
    have hset : ∀ m, Quiet s (s.setLaneMon l m) := fun m => hloops _ (keepsAllBut_setLaneMon s l m) (.setLaneMon s l m)
    simp only [exec, execLoopLineChange] at h
    split at h <;> (cases h; exact hset _)
  | loopChangeAccept l d =>
    refine .of_whileRunning h ?_
    split
    · exact hloops _ (keepsAllBut_acceptChange _ _ _ _) (.acceptChange _ _ _ _)
    · exact .refl s
  | stuckExpiry l d =>
    refine .of_whenDue h fun _ => hloops _ ?_ (((Keeps.setLaneMon s l _).trans (.raise _ _ _)).trans
      (.presenceTakes _ _ _ _ _ _))
    exact ((keepsAllBut_setLaneMon s l _).trans ((KeepsAllBut.raise _ _ _).mono (by simp [loopParts]))).trans
      (keepsAllBut_presenceTakes _ _ _ _ _ _)
  | loopSpeedExpiry l =>
    exact .of_whenDue h fun _ => hloops _ (keepsAllBut_setLaneMon _ _ _) (.setLaneMon _ _ _)
  | stallExpiry l => exact .of_whenDue h fun _ => hloops _ (keepsAllBut_congest _ _) (.congest _ _)
  | clearExpiry l =>
    exact .of_whenDue h fun _ => hloops _ ((keepsAllBut_setLaneMon s l _).trans
      ((KeepsAllBut.raiseAt _ _ _).mono (by simp [loopParts]))) ((Keeps.setLaneMon s l _).trans (.raiseAt _ _ _))
  | passStart =>
    exact .of_whenDue h fun _ => .of_keepsAllBut (.of_keepsAllBut ((keepsAllBut_startPass s).mono (by simp [Keeps.aside])))
      (keepsAllBut_startPass s) (by simp)
  | conversionComplete code =>
    refine .of_whileRunning h ?_
    split
    · refine .of_keepsAllBut (((Keeps.deliverResult s _ code).trans (.setTemp _ _)).trans (.selectInput _))
        (L := tempParts) ?_ (by simp [tempParts])
      exact ((keepsAllBut_deliverResult s _ code).trans ((KeepsAllBut.setTemp _ _).mono (by simp [tempParts]))).trans
        ((keepsAllBut_selectInput _).mono (by simp [tempParts]))
    · exact .refl s
  | holdAgeStale l =>
    exact .of_whenDue h fun _ => .of_keepsAllBut (.setLaneTemp _ _ _) (keepsAllBut_setLaneTemp _ _ _) (by simp [tempParts])
  | leadingHitExpiry r q =>
    refine .of_whileRunning h ?_
    split
    · refine .of_measures (.of_thins (thins_expireLeading _ _ _ _) ?_) (.expireLeading _ _ _ _)
      exact KeepsAllBut.trans (by cases r <;> exact .setFormer s _) (.setFormer _ _)
    · exact .refl s
  | candidateDeadline l =>
    refine .of_whileRunning h ?_
    split
    · exact .of_measures (.completeIds _ _) (.completeIds _ _)
    · exact .refl s
  | presenceClose l => exact .of_whenDue h fun _ => .of_measures (.closeFrame _ _ _) (.closeFrame _ _ _)
  | frameTimeout l => exact .of_whenDue h fun _ => .of_measures (.closeFrame _ _ _) (.closeFrame _ _ _)
  | ownershipTimeout =>
    refine .of_whenDue h fun hdue => ⟨.setClaim s none, .setClaim (fun x hx ht => ?_) none⟩
    simp [State.ownershipDue, State.ownershipStart, hx, ht] at hdue
  | imageWriteStart =>
    refine .of_whileRunning h ?_
    split
    · exact ⟨.setProf s rfl, ⟨rfl, rfl, rfl, rfl, rfl, rfl, fun _ hx _ => hx⟩⟩
    · exact .refl s
  | unknownKindRequest p kind tag payload => exact .of_whenDue h fun _ => quiet_unknownKind s p kind tag
  | rxByte p b => exact .of_whileRunning h (quiet_receiveByte s p b)
  | rxLineError p e =>
    have h1 : Quiet s (s.abandonFrame p) := hport p _ (.of_same rfl rfl)
    have h2 := quiet_linkError (s.abandonFrame p) p (RxFault.error e)
    exact .of_whileRunning h ⟨h1.keeps.trans h2.keeps, h1.stands.trans h2.stands⟩
  | rxGapTimeout p =>
    have h1 : Quiet s (s.abandonFrame p) := hport p _ (.of_same rfl rfl)
    have h2 := quiet_linkError (s.abandonFrame p) p .gap
    exact .of_whenDue h fun _ => ⟨h1.keeps.trans h2.keeps, h1.stands.trans h2.stands⟩
  | replySend p =>
    refine .of_whileRunning h ?_
    split
    · exact hport p _ (.of_same rfl rfl)
    · exact .refl s
  | eventFrame p => exact .of_whenDue h fun _ => hport p _ fun hp =>
    PortLimits.of_same (x := (s.port p).clearDue) rfl rfl hp.clearDue
  | vehicleFrame =>
    refine .of_whileRunning h ?_
    split
    · refine .of_keepsAllBut (L := [.store, .ports]) ?_ ?_ (by simp)
      · rw [← List.drop_one]
        exact (Keeps.dropped s 1).trans (.setPort _ (p := .cab) (.of_same rfl rfl))
      · exact ((KeepsAllBut.setStore s _).mono (by simp)).trans ((KeepsAllBut.setPort _ .cab _).mono (by simp))
    · exact .refl s
  | transmitComplete p =>
    refine .of_whileRunning h ?_
    split
    · exact quiet_frameSent s p _
    · exact .refl s
  | channelRearm p tag payload => exact hreq .channelRearm p tag payload h
  | laneSet p tag payload => exact hreq .laneSet p tag payload h
  | probeNow p tag payload => exact hreq .probeNow p tag payload h
  | take p tag payload => exact hreq .take p tag payload h
  | stream p tag payload => exact hreq .stream p tag payload h
  | peek p tag payload => exact hreq .peek p tag payload h
  | ident p tag payload => exact hreq .ident p tag payload h
  | status p tag payload => exact hreq .status p tag payload h
  | timeSet p tag payload => exact hreq .timeSet p tag payload h
  | siteRun p tag payload => exact hreq .siteRun p tag payload h
  | editBegin p tag payload => exact hreq .editBegin p tag payload h
  | editPut p tag payload => exact hreq .editPut p tag payload h
  | editDiscard p tag payload => exact hreq .editDiscard p tag payload h
  | readSection p tag payload => exact hreq .readSection p tag payload h
  | commit p tag payload => exact hreq .commit p tag payload h
  | lock p tag payload => exact hreq .lock p tag payload h
  | restart p tag payload => exact hreq .restart p tag payload h
  | eventEnable p tag payload => exact hreq .eventEnable p tag payload h

/-! ### Starts -/

theorem formerLimits_start {t : State} (h : t.former = startFormer) : FormerLimits t := by
  refine ⟨fun k c hc => ?_, ?_, fun k c hc => ?_, fun r q => ?_, fun k => ?_⟩
  · simp [h, startFormer] at hc
  · rw [List.flatMap_eq_nil_iff.mpr fun k _ => by simp [h, startFormer]]
    exact List.nodup_nil
  · simp [h, startFormer] at hc
  · cases r <;> simp [State.waiting, h, startFormer]
  · simp [h, startFormer]

/-- A state as a start leaves it: no frame is open and the axle former is at its start. -/
theorem Keeps.of_start {s t : State} (hframes : ∀ l : LaneIx, t.asm.frames[l] = none) (hformer : t.former = startFormer)
    (hstore : StoreLimits s → t.store.length ≤ 48 ∧ slotsUsed t.store ≤ 256 ∧ t.asm.seq ≠ 0)
    (hcounts : CountLimits s → CountLimits t) : Keeps s t where
  store h := ⟨(hstore h).1, (hstore h).2.1, (hstore h).2.2, fun l f hf => by simp [hframes] at hf⟩
  idle _ l _ := ⟨hframes l, by simp [hformer, startFormer]⟩
  counts := hcounts
  former _ := formerLimits_start hformer

theorem keepsAllBut_beginBlocks (s : State) : KeepsAllBut [.strip, .loops, .temp] s s.beginBlocks := by
  have h1 : KeepsAllBut [.strip, .loops, .temp] s s.startChannels := (KeepsAllBut.setStrip s _).mono (by simp)
  have h2 : ∀ t x, KeepsAllBut [.strip, .loops, .temp] t (State.setLoops t x) := fun t x =>
    (KeepsAllBut.setLoops t x).mono (by simp)
  have h3 : ∀ t, KeepsAllBut [.strip, .loops, .temp] t (State.startProbes t) := fun t => by
    unfold State.startProbes
    exact ((KeepsAllBut.setTemp t _).mono (by simp)).trans ((keepsAllBut_startPass _).mono (by simp))
  exact (h1.trans (h2 _ _)).trans (h3 _)

theorem keeps_hardStart (s : State) (cause : StartCause) : Keeps s (s.hardStart cause) :=
  .of_start (fun l => by simp [State.hardStart, State.startBlocks]) rfl
    (fun _ => ⟨Nat.zero_le _, Nat.zero_le _, by simp [State.hardStart]⟩)
    (fun _ p => by cases p; exacts [.start .cab, .start .svc])

/-- The parts an image check changes, whatever it finds. -/
def checked : List Block :=
  [.strip, .loops, .temp, .cal, .prof, .site]

theorem keepsAllBut_checkAtPower (s : State) (strap : Bool) : KeepsAllBut checked s (s.checkAtPower strap) := by
  unfold State.checkAtPower
  dsimp only
  refine KeepsAllBut.trans ?_ ((keepsAllBut_beginBlocks _).mono (by simp [checked]))
  refine KeepsAllBut.trans ((KeepsAllBut.setSite s { s.site with strapOpen := strap }).mono (by simp [checked])) ?_
  split <;> (intro b hb; cases b <;> simp [checked] at hb <;> rfl)

theorem keepsAllBut_checkAtRestart (s : State) : KeepsAllBut checked s s.checkAtRestart := by
  unfold State.checkAtRestart
  refine KeepsAllBut.trans ?_ ((keepsAllBut_beginBlocks _).mono (by simp [checked]))
  split <;> (intro b hb; cases b <;> simp [checked] at hb <;> rfl)

/-- An image check after a start changes nothing the invariants look at: nothing is open in any lane. -/
theorem Keeps.of_checked {s t u : State} (h : Keeps s t) (hframes : ∀ l : LaneIx, t.asm.frames[l] = none)
    (hformer : t.former = startFormer) (k : KeepsAllBut checked t u) : Keeps s u := by
  have hasm := k.asm (by simp [checked])
  refine .of_start (fun l => by rw [hasm]; exact hframes l) ((k.former (by simp [checked])).trans hformer)
    (fun hs => ?_) fun hs => (h.counts hs).of_ports (k .ports (by simp [checked]))
  have hstore : u.store = t.store := k .store (by simp [checked])
  rw [hasm, hstore]
  exact ⟨(h.store hs).records, (h.store hs).slots, (h.store hs).sequence⟩

theorem hardStart_frames (s : State) (cause : StartCause) (l : LaneIx) : (s.hardStart cause).asm.frames[l] = none := by
  simp [State.hardStart, State.startBlocks]

theorem keeps_restartNow (s : State) : Keeps s s.restartNow := by
  refine Keeps.of_checked (t := (s.startBlocks .restart).setPorts
    { cab := s.ports.cab.atRestart .cab, svc := s.ports.svc.atRestart .svc, stream := false })
    (.of_start (fun l => ?_) rfl (fun h => ⟨h.records, h.slots, h.sequence⟩) fun h p => ?_) (fun l => ?_) rfl
    (keepsAllBut_checkAtRestart _)
  · simp [State.startBlocks]
  · have hrestart : ∀ x : PortState, PortLimits x → PortLimits (x.atRestart p) := fun x hx => by
      unfold PortState.atRestart
      split
      · exact .start p
      · exact PortLimits.of_same (x := x) rfl rfl hx
    cases p
    · exact hrestart _ (h .cab)
    · exact hrestart _ (h .svc)
  · simp [State.startBlocks]

/-! ### The end of a write (R166) -/

theorem Keeps.readBack (s : State) (w : ImageWrite) (agrees : Bool) : Keeps s (s.readBack w agrees) := .setProf s rfl

theorem Keeps.replyToCommit (s : State) (owner : Option Port) (payload : List Byte) :
    Keeps s (s.replyToCommit owner payload) := by
  unfold State.replyToCommit
  split
  · exact .endDeferred _ _ _ _
  · exact .refl s

/-- Leaving NOPROFILE activates no lane (R37). -/
theorem Keeps.leaveNoProfile (s : State) : Keeps s s.leaveNoProfile := by
  unfold State.leaveNoProfile
  split
  · rename_i h
    exact .setSite s fun l => by simp [State.laneActive, h]
  · exact .refl s

theorem keepsAllBut_remapFold (s : State) (cs : List ChanIx) :
    KeepsAllBut [.strip, .ports] s (cs.foldl State.remapChannel s) := by
  refine foldl_keeps (KeepsAllBut [.strip, .ports]) (.refl _) .trans State.remapChannel (fun t c => ?_) cs s
  have h1 : ∀ x, KeepsAllBut [.strip, .ports] t (t.setChannel c x) := fun x => (KeepsAllBut.setStrip t _).mono (by simp)
  unfold State.remapChannel
  exact .ite ((h1 _).trans ((KeepsAllBut.raiseAt _ _ _).mono (by simp))) (h1 _)

theorem Keeps.remapChannels (s : State) : Keeps s s.remapChannels := by
  have hfold : Keeps s (allChannels.foldl State.remapChannel s) := by
    refine foldl_keeps Keeps .refl .trans State.remapChannel (fun t c => ?_) _ s
    unfold State.remapChannel
    exact .ite ((Keeps.setChannel _ _ _).trans (.raiseAt _ _ _)) (.setChannel _ _ _)
  unfold State.remapChannels
  generalize allChannels.foldl State.remapChannel s = u at hfold ⊢
  refine hfold.trans (.of_thins (thins_of_filter rfl (fun q => ?_) (fun q => ?_) (fun k => ?_) (fun k c hc => ?_))
    (.setFormer _ _))
  · simp
  · simp
  · simp
  · simp at hc

/-- The blocks' following of a commit's active set leaves a lane without frame and candidate so, until activation is
recomposed. -/
theorem keepsAllBut_remapChannels (s : State) : KeepsAllBut [.strip, .former, .ports] s s.remapChannels :=
  ((keepsAllBut_remapFold s _).mono (by simp)).trans ((KeepsAllBut.setFormer _ _).mono (by simp))

theorem remapChannels_empty {s : State} (l : LaneIx) : s.remapChannels.former.candidates[l] = [] := by
  simp [State.remapChannels]

theorem Keeps.completeOverdue (s : State) : Keeps s s.completeOverdue := .completeIds _ _

/-- All the invariants but R39, which an active set's change breaks until activation is recomposed. -/
theorem Keeps.commitBlocks {s : State} (new : Profile) (metro : Bool) :
    Keeps s ((s.takeActive new metro).blocksFollow s metro) := by
  generalize hs0 : s.takeActive new metro = s0
  have h0 : (StoreLimits s → StoreLimits s0) ∧ (CountLimits s → CountLimits s0) ∧ (FormerLimits s → FormerLimits s0)
      ∧ (s0.asm = s.asm) ∧ s0.former = s.former := by
    subst hs0
    exact ⟨fun h => ⟨h.records, h.slots, h.sequence, h.axles⟩, fun h => h.of_ports rfl,
      fun h => FormerLimits.of_thins (Thins.of_former_eq (s := s) rfl) h, rfl, rfl⟩
  obtain ⟨hstore, hcounts, hformer, hasm, hform⟩ := h0
  unfold State.blocksFollow
  dsimp only
  generalize hs1 : (if metro = true then s0.resetCal s0.prof.active else s0).leaveNoProfile = s1
  have h1 : Keeps s0 s1 ∧ s1.asm = s0.asm ∧ s1.former = s0.former := by
    have hcal : Keeps s0 (if metro = true then s0.resetCal s0.prof.active else s0) := .ite (.setCal _ _) (.refl _)
    refine hs1 ▸ ⟨hcal.trans (.leaveNoProfile _), ?_, ?_⟩ <;> unfold State.leaveNoProfile <;> (repeat' split) <;> rfl
  generalize hs2 : (if s0.prof.active.strips ≠ s.prof.active.strips then s1.remapChannels else s1) = s2
  have h2 : Keeps s1 s2 ∧ s2.asm = s1.asm ∧ ∀ l : LaneIx, s1.former.candidates[l] = [] → s2.former.candidates[l] = [] := by
    rw [← hs2]
    split
    · exact ⟨.remapChannels s1, (keepsAllBut_remapChannels s1).asm (by simp), fun l _ => remapChannels_empty l⟩
    · exact ⟨.refl s1, rfl, fun _ h => h⟩
  have h3 := Keeps.commitProbes s2 s.prof.active.probes
  have h3' := keepsAllBut_commitProbes s2 s.prof.active.probes
  have h4 := (Keeps.recompose (s2.commitProbes s.prof.active.probes) s).trans (.completeOverdue _)
  have hall := ((h1.1.trans h2.1).trans h3).trans h4
  refine ⟨fun h => hall.store (hstore h), fun h => ?_, fun h => hall.counts (hcounts h), fun h => hall.former (hformer h)⟩
  refine (Keeps.completeOverdue _).idle (idleLanesEmpty_recompose fun l hl => ?_)
  obtain ⟨hf, hc⟩ := h l hl
  rw [h3'.asm (by simp [tempParts]), h3'.former (by simp [tempParts]), h2.2.1, h1.2.1, hasm]
  exact ⟨hf, h2.2.2 l (by rw [h1.2.2, hform]; exact hc)⟩

theorem Keeps.serveReason (s : State) (w : ImageWrite) (agrees : Bool) : Keeps s (s.serveReason w agrees) := by
  unfold State.serveReason
  split
  · split
    · unfold State.commitDone
      exact (Keeps.commitBlocks _ _).trans (.replyToCommit _ _ _)
    · unfold State.commitFailed
      exact (Keeps.setClaim _ _).trans (.replyToCommit _ _ _)
  · unfold State.lockDone
    exact .ite (.setProf s rfl) (.setProf s rfl)
  · unfold State.bootDone
    split
    · rename_i h
      exact .setSite s fun l => by simp [State.laneActive, h]
    · exact .refl s
  · exact .refl s

/-! ### Every command, every step -/

/-- Every command keeps the four invariants. -/
theorem exec_keeps {s t : State} {c : Instr} (h : exec c s = .next t) : Keeps s t := by
  by_cases hpower : ∃ strap, c = .powerOn strap
  · obtain ⟨strap, rfl⟩ := hpower
    cases h
    have hk := keeps_hardStart s .power
    unfold State.powerUp
    exact .ite hk (hk.of_checked (hardStart_frames s _) rfl (keepsAllBut_checkAtPower _ strap))
  by_cases hline : ∃ strap, c = .lineReset strap
  · obtain ⟨strap, rfl⟩ := hline
    cases h
    have hk : Keeps s ((s.hardStart .line).setHeldLow false) :=
      (keeps_hardStart s .line).trans (.of_keepsAllBut ((KeepsAllBut.setHeldLow _ _).mono (by simp [Keeps.aside])))
    exact hk.of_checked (hardStart_frames s _) rfl (keepsAllBut_checkAtPower _ strap)
  by_cases hlow : c = .resetNHeldLow
  · subst hlow
    cases h
    exact (keeps_hardStart s .line).trans (.of_keepsAllBut ((KeepsAllBut.setHeldLow _ _).mono (by simp [Keeps.aside])))
  by_cases hrestart : c = .restartTakesPlace
  · subst hrestart
    rcases whenDue_eq_next h with rfl | ⟨-, rfl⟩
    · exact .refl _
    · exact keeps_restartNow s
  by_cases hwrite : ∃ agrees, c = .imageWriteComplete agrees
  · obtain ⟨agrees, rfl⟩ := hwrite
    rcases whileRunning_eq_next h with rfl | rfl
    · exact .refl _
    · split
      · exact (Keeps.readBack s _ agrees).trans (.serveReason _ _ _)
      · exact .refl s
  exact (exec_quiet h (fun x hx => hpower ⟨x, hx⟩) (fun x hx => hline ⟨x, hx⟩) hlow hrestart
    fun x hx => hwrite ⟨x, hx⟩).keeps

/-- A tick passes over nothing the invariants look at. -/
theorem Keeps.tick (s : State) : Keeps s s.tick := by
  unfold State.tick
  split
  · exact .refl s
  · have hsite : ∀ x : SiteCtl, x.tick.state = x.state ∧ x.tick.closed = x.closed := fun x => by
      unfold SiteCtl.tick
      split <;> exact ⟨rfl, rfl⟩
    refine .of_aside rfl rfl rfl (fun l => ?_) (.of_ports rfl)
    simp only [State.laneActive, State.laneEnabled, State.laneEntry, State.setProf_site, State.setLoops_site,
      State.setTemp_site, State.setSite_site, State.setProf_prof, (hsite s.site).1, (hsite s.site).2]
    rfl

/-- Every step keeps the four invariants. -/
theorem step_keeps {s t : State} (h : step s = .next t) : Keeps s t := by
  unfold step at h
  split at h
  · rename_i c rest _
    have hpending : Keeps s (s.setPending rest) :=
      .of_keepsAllBut fun b hb => by cases b <;> simp [Keeps.aside] at hb <;> rfl
    exact hpending.trans (exec_keeps h)
  · unfold idle at h
    split at h
    · exact exec_keeps h
    · cases h
      exact .tick s

/-- Settles O56: a record joins the store only with room, the counter moves on past 0, and a frame of 15 axles closes. -/
theorem storeLimitsKept : Obligations.StoreLimitsKept := fun _ _ hs h => (step_keeps h).store hs

/-- Settles O57: an axle is handed on, and a candidate opens, in an active lane only, and a lane that ceases to be active is
emptied when activation is recomposed. -/
theorem idleLanesStayEmpty : Obligations.IdleLanesStayEmpty := fun _ _ hs h => (step_keeps h).idle hs

/-- Settles O58: counts saturate; a full list evicts and a full lane completes a candidate before either takes another. -/
theorem countLimitsKept : Obligations.CountLimitsKept :=
  ⟨fun _ _ hs h => (step_keeps h).counts hs, fun _ _ hs h => (step_keeps h).former hs⟩

/-! ### The active set (R152) -/

theorem keepsAllBut_replyToCommit (s : State) (owner : Option Port) (payload : List Byte) :
    KeepsAllBut [.ports] s (s.replyToCommit owner payload) := by
  unfold State.replyToCommit
  split
  · exact keepsAllBut_endDeferred _ _ _ _
  · exact .refl _ _

/-- The end of a write for a reason other than COMMIT, or of a failed one, leaves the active set and its generation. -/
theorem serveReason_active {s : State} {w : ImageWrite} {agrees : Bool} (h : ¬ (agrees = true ∧ w.reason = .commit)) :
    (s.serveReason w agrees).prof.active = s.prof.active
      ∧ (s.serveReason w agrees).prof.generation = s.prof.generation := by
  cases hr : w.reason with
  | commit =>
    have hfailed : agrees = false := by simpa [hr] using h
    simp only [State.serveReason, hr, hfailed, Bool.false_eq_true, if_false, State.commitFailed]
    rw [(keepsAllBut_replyToCommit _ _ _) .prof (by simp)]
    exact ⟨rfl, rfl⟩
  | lock =>
    simp only [State.serveReason, hr, State.lockDone]
    split <;> exact ⟨rfl, rfl⟩
  | boot =>
    simp only [State.serveReason, hr, State.bootDone]
    split <;> exact ⟨rfl, rfl⟩
  | learned =>
    simp only [State.serveReason, hr]
    exact ⟨trivial, trivial⟩

/-- The end of a write for a reason other than COMMIT leaves the claim. -/
theorem serveReason_claim {s : State} {w : ImageWrite} {agrees : Bool} (h : w.reason ≠ .commit) :
    (s.serveReason w agrees).prof.claim = s.prof.claim := by
  cases hr : w.reason with
  | commit => exact absurd hr h
  | lock =>
    simp only [State.serveReason, hr, State.lockDone]
    split <;> rfl
  | boot =>
    simp only [State.serveReason, hr, State.bootDone]
    split <;> rfl
  | learned => simp only [State.serveReason, hr]

/-- The end of a write acts on the write in progress. -/
theorem exec_imageWriteComplete_cases {s t : State} {agrees : Bool} (h : exec (.imageWriteComplete agrees) s = .next t) :
    t = s ∨ ∃ w, s.prof.write = some w ∧ t = (s.readBack w agrees).serveReason w agrees := by
  rcases whileRunning_eq_next h with rfl | rfl
  · exact .inl rfl
  · split
    · rename_i w hw
      exact .inr ⟨w, (Option.filter_eq_some_iff.mp hw).1, rfl⟩
    · exact .inl rfl

/-- Settles O59: no command but a start and the end of a write moves the active set, and of the ends of a write the
successful commit's alone does; an edit request moves the claim only while its timer runs. -/
theorem activeSetChangesAtTwoMoments : Obligations.ActiveSetChangesAtTwoMoments := by
  refine ⟨fun s t c h hpower hline hlow hrestart hcommit => ?_, fun s t c h hpower hline hlow hrestart hwrite => ?_,
    fun s t c x h hclaim htimer hpower hline hlow hrestart hcommit => ?_⟩
  · by_cases hwrite : ∃ agrees, c = .imageWriteComplete agrees
    · obtain ⟨agrees, rfl⟩ := hwrite
      rcases exec_imageWriteComplete_cases h with rfl | ⟨w, hw, rfl⟩
      · exact ⟨rfl, rfl⟩
      · exact serveReason_active fun ⟨ha, hr⟩ => hcommit ⟨by rw [ha], w, hw, hr⟩
    · have hstands := (exec_quiet h hpower hline hlow hrestart fun a ha => hwrite ⟨a, ha⟩).stands
      exact ⟨hstands.active, hstands.generation⟩
  · obtain ⟨h1, h2, h3, h4, h5, h6, -⟩ := (exec_quiet h hpower hline hlow hrestart hwrite).stands
    exact ⟨h1, h2, h3, h4, h5, h6⟩
  · by_cases hwrite : ∃ agrees, c = .imageWriteComplete agrees
    · obtain ⟨agrees, rfl⟩ := hwrite
      rcases exec_imageWriteComplete_cases h with rfl | ⟨w, hw, rfl⟩
      · exact hclaim
      · rw [serveReason_claim fun hr => hcommit ⟨agrees, w, rfl, hw, hr⟩]
        exact hclaim
    · exact (exec_quiet h hpower hline hlow hrestart fun a ha => hwrite ⟨a, ha⟩).stands.claim x hclaim htimer

end Sys2Proof.Machine
end

section
/-! The queue and the starts (R164, R168, R170, R171, R186): a held part does nothing, and every start begins the blocks
afresh. -/

namespace Sys2Proof.Machine

open Sys2Proof

/-- Settles O1: `step` takes the front command, and `idle` the clock's. -/
theorem stepTakesFrontCommand : Obligations.StepTakesFrontCommand :=
  ⟨fun s c rest h => by rw [step, h], fun s c h hd => by simp only [step, h, idle, hd],
    fun s h hd => by simp only [step, h, idle, hd]⟩

theorem whileRunning_heldLow {s : State} (h : s.heldLow = true) (t : State) : whileRunning s t = .next s := by
  simp only [whileRunning, h, if_true]

theorem whenDue_heldLow {s : State} (h : s.heldLow = true) (due : Bool) (t : State) : whenDue s due t = .next s := by
  simp only [whenDue, whileRunning_heldLow h]

/-- Settles O3: every other command has the form `whileRunning` or `whenDue`. -/
theorem heldInResetDoesNothing : Obligations.HeldInResetDoesNothing := by
  intro s c h hpower hline hlow hloop
  cases c with
  | powerOn strap => exact absurd rfl (hpower strap)
  | lineReset strap => exact absurd rfl (hline strap)
  | resetNHeldLow => exact absurd rfl hlow
  | loopLineChange l d high => exact absurd rfl (hloop l d high)
  | settlingComplete | hitEnd | hitLong | recoveryEnd | bucketLeak | stuckExpiry | loopSpeedExpiry | stallExpiry | clearExpiry
  | passStart | holdAgeStale | presenceClose | frameTimeout | ownershipTimeout | unknownKindRequest | rxGapTimeout
  | eventFrame | restartTakesPlace => exact whenDue_heldLow h _ _
  | _ => exact whileRunning_heldLow h _

/-! ### What every start does to the blocks -/

/-- The blocks of `t` hold the values `startBlocks` gives them at a start taken in `s`; the image check has not ended. -/
structure Started (s t : State) : Prop where
  now : t.now = s.now
  leak : t.strip.leakStart = s.now
  loops : t.loops = s.loops.map LaneMonitor.atStart
  temp : t.temp = startTemp
  former : t.former = startFormer
  frames : ∀ l : LaneIx, t.asm.frames[l] = none ∧ t.asm.lastMean[l] = none
  windows : ∀ l : LaneIx, t.cal[l].window = [] ∧ t.cal[l].anchor = none ∧ t.cal[l].outcome = none

theorem started_startBlocks (s : State) (cause : StartCause) : Started s (s.startBlocks cause) where
  now := rfl
  leak := rfl
  loops := rfl
  temp := rfl
  former := rfl
  frames l := by simp [State.startBlocks]
  windows l := by simp [State.startBlocks, startLaneCal]

theorem started_hardStart (s : State) (cause : StartCause) : Started s (s.hardStart cause) :=
  { started_startBlocks s cause with }

theorem waiting_startFormer {t : State} (h : t.former = startFormer) (r : StripRow) (q : PosIx) : t.waiting r q = [] := by
  cases r <;> simp [State.waiting, h, startFormer]

theorem Started.cleared {s t : State} (h : Started s t) : Cleared s t where
  leak := h.leak
  converter := by simp [h.temp, startTemp]
  temperatures l := by simp [h.temp, startTemp, startLaneTemp]
  lists := waiting_startFormer h.former
  candidates l := by simp [h.former, startFormer]
  numbering := by rw [h.former]; rfl
  frames := h.frames
  windows := h.windows

/-- The image check's outcome leaves the blocks at their start values but for the factors. -/
theorem Started.loadImage {s t : State} (h : Started s t) (i : Image) (strap : Bool) : Started s (t.loadImage i strap) :=
  { h with windows := fun l => by simp [State.loadImage, imageCal] }

theorem Started.loseStore {s t : State} (h : Started s t) : Started s t.loseStore :=
  { h with windows := fun l => by simp [State.loseStore, defaultLaneCal] }

theorem lane_readAtStart (m : LaneMonitor) (now : Tick) : m.atStart.readAtStart now =
    { up := loopFound m.up.high now, down := loopFound m.down.high now, presence := presenceFound m.up.high m.down.high,
      uView := m.up.high, dView := m.down.high, uOnset := none, dOnset := none, paired := false, uStart := none,
      speed := none, congested := false,
      stallStart := if m.up.high = true ∧ m.down.high = true then some now else none,
      clearStart := none, lastLength := none, frameCount := 0,
      idleSince := if m.up.high = false ∧ m.down.high = false then some now else none } := by
  rcases m with ⟨⟨up, _, _, _⟩, ⟨down, _, _, _⟩⟩
  cases up <;> cases down <;> rfl

theorem beginBlocks_strip {t : State} (h : t.temp = startTemp) : t.beginBlocks.strip =
    { t.strip with channels := Vector.ofFn (fun c => remappedChannel (t.stripEntry c)) } := by
  rw [beginBlocks_eq h]

theorem beginBlocks_loops {t : State} (h : t.temp = startTemp) :
    t.beginBlocks.loops = t.loops.map (fun m => m.readAtStart t.now) := by
  rw [beginBlocks_eq h]

theorem beginBlocks_temp {t : State} (h : t.temp = startTemp) : t.beginBlocks.temp =
    { startTemp with
      conv := some { input := .zref, origin := .scan, start := t.now },
      passList := (allProbes.filter (fun p => t.prof.active.probes.entries[p].enabled)).map ConvInput.probe,
      lastPass := some t.now,
      probes := Vector.ofFn (fun p =>
        if t.prof.active.probes.entries[p].enabled then { startProbe with state := .warmup } else startProbe) } := by
  rw [beginBlocks_eq h]

/-- From the start values the end of an image check begins every block (R22, R40, R43, R44, R61). -/
theorem Started.begun {s t : State} (h : Started s t) : BlocksBegun s t.beginBlocks := by
  have hk := keepsAllBut_beginBlocks t
  have hprof : t.beginBlocks.prof = t.prof := hk .prof (by simp)
  have hformer : t.beginBlocks.former = t.former := hk .former (by simp)
  have hasm : t.beginBlocks.asm = t.asm := hk .asm (by simp)
  have hcal : t.beginBlocks.cal = t.cal := hk .cal (by simp)
  refine ⟨⟨?_, ?_, fun l => ?_, waiting_startFormer (hformer.trans h.former), fun l => ?_, ?_, ?_, ?_⟩, fun c => ?_,
    fun l => ?_, ?_, fun q => ?_⟩
  · rw [beginBlocks_strip h.temp]
    exact h.leak
  · simp [beginBlocks_temp h.temp, startTemp]
  · simp [beginBlocks_temp h.temp, startTemp, startLaneTemp]
  · simp [hformer, h.former, startFormer]
  · simp [hformer, h.former, startFormer]
  · rw [hasm]
    exact h.frames
  · rw [hcal]
    exact h.windows
  · rw [hprof, beginBlocks_strip h.temp]
    simp only [Fin.getElem_fin, Vector.getElem_ofFn, State.stripEntry, remappedChannel, startChannel]
    by_cases hl : t.prof.active.strips[c.val].lane = none
    · simp [hl]
    · simp [hl, Option.isSome_iff_ne_none]
  · rw [beginBlocks_loops h.temp, h.loops, h.now]
    simp only [Fin.getElem_fin, Vector.getElem_map, lane_readAtStart]
  · rw [hprof, beginBlocks_temp h.temp, h.now]
    exact ⟨rfl, rfl, rfl⟩
  · rw [hprof, beginBlocks_temp h.temp]
    simp only [Fin.getElem_fin, Vector.getElem_ofFn, startProbe]
    split <;> rfl

theorem portAtStart_startPort (p : Port) : PortAtStart p (startPort p) :=
  ⟨rfl, rfl, rfl, rfl, fun i => by simp [startPort, emptyCell], rfl, by cases p <;> rfl⟩

theorem port_hardStart (s : State) (cause : StartCause) (p : Port) : (s.hardStart cause).port p = startPort p := by
  cases p <;> rfl

/-- What a power-on or line reset leaves, whatever image its check finds. -/
theorem FreshStart.beginBlocks {t : State} {cause : StartCause} {strap : Bool} (h : FreshStart t cause strap) :
    FreshStart t.beginBlocks cause strap := by
  have hk := keepsAllBut_beginBlocks t
  have hports : t.beginBlocks.ports = t.ports := hk .ports (by simp)
  have hprof : t.beginBlocks.prof = t.prof := hk .prof (by simp)
  have hsite : t.beginBlocks.site = t.site := hk .site (by simp)
  have hasm : t.beginBlocks.asm = t.asm := hk .asm (by simp)
  have hport : ∀ p, t.beginBlocks.port p = t.port p := fun p => by cases p <;> simp only [State.port, hports]
  obtain ⟨h1, h2, h3, h4, h5, h6, h7, h8, h9, h10, h11, h12, h13, h14, h15, h16⟩ := h
  have hstore : t.beginBlocks.store = t.store := hk .store (by simp)
  have hheld : t.beginBlocks.heldLow = t.heldLow := hk .heldLow (by simp)
  constructor <;> simp only [hprof, hsite, hasm, hport, hports, hstore, hheld] <;> assumption

/-! ### The starts -/

/-- Settles O4: at the low level the start values stand, whatever image the check will find. -/
theorem resetLineHoldsStartValues : Obligations.ResetLineHoldsStartValues := by
  intro s
  have hstart : Started s ((s.hardStart .line).setHeldLow true) := { started_hardStart s .line with }
  refine ⟨(s.hardStart .line).setHeldLow true, rfl, rfl, ⟨hstart.cleared, fun c => ?_, fun l => ?_, ⟨rfl, rfl, rfl⟩,
    fun q => ?_, fun l => ?_⟩, rfl, rfl, rfl, fun h => ?_, fun h => ?_, rfl, rfl, rfl, rfl, rfl, fun l => ?_, rfl, rfl,
    fun p => ?_, rfl, rfl, rfl, rfl⟩
  · simp [State.hardStart, State.startBlocks, startChannel]
  · simp [State.hardStart, State.startBlocks, LaneMonitor.atStart, startLaneMonitor, startLoop]
  · simp [State.hardStart, State.startBlocks, startTemp, startProbe]
  · simp [State.hardStart, State.startBlocks, startLaneCal]
  · obtain ⟨w, hw⟩ := Option.ne_none_iff_exists'.mp h
    simp [State.hardStart, State.startBlocks, ProfileStore.cutShort, hw]
  · simp [State.hardStart, State.startBlocks, ProfileStore.cutShort, h]
  · simp [State.hardStart, State.startBlocks]
  · rw [State.port_setHeldLow, port_hardStart]
    exact ⟨portAtStart_startPort p, rfl⟩

/-- The state whose image a power-on or line reset checks: the start values, and RESET_N released. -/
def State.released (s : State) (cause : StartCause) (strap : Bool) : State :=
  ((s.hardStart cause).setHeldLow false).setSite { (s.hardStart cause).site with strapOpen := strap }

theorem started_released (s : State) (cause : StartCause) (strap : Bool) : Started s (s.released cause strap) :=
  { started_hardStart s cause with }

/-- A power-on of a part that is not held, and a line reset, are the image check of the released part. -/
theorem exec_start {s : State} {strap : Bool} {c : Instr} {cause : StartCause}
    (h : (c = .powerOn strap ∧ cause = .power ∧ s.heldLow = false) ∨ (c = .lineReset strap ∧ cause = .line)) :
    exec c s = .next (((s.hardStart cause).setHeldLow false).checkAtPower strap) := by
  rcases h with ⟨rfl, rfl, hlow⟩ | ⟨rfl, rfl⟩
  · have hset : (s.hardStart .power).setHeldLow false = s.hardStart .power := by
      rw [← hlow]
      rfl
    rw [hset]
    simp [exec, execPowerOn, State.powerUp, hlow]
  · rfl

theorem cutShort_of_no_write {x : ProfileStore} (h : x.write = none) : x.cutShort = x.medium := by
  simp [ProfileStore.cutShort, h]

theorem released_medium (s : State) (cause : StartCause) (strap : Bool) :
    (s.released cause strap).prof.medium = s.prof.cutShort := rfl

/-- The check of a good image (R168). -/
theorem checkAtPower_good {s : State} {cause : StartCause} {strap : Bool} {i : Image}
    (h : s.prof.cutShort.goodImage = some i) : ((s.hardStart cause).setHeldLow false).checkAtPower strap
      = ((s.released cause strap).loadImage i strap).beginBlocks := by
  have hm := released_medium s cause strap
  rw [← hm] at h
  unfold State.checkAtPower
  change (State.beginBlocks (match (s.released cause strap).prof.medium.goodImage with
    | some i => (s.released cause strap).loadImage i strap
    | none => (s.released cause strap).loseStore)) = _
  rw [h]

/-- The check of a bad image (R164). -/
theorem checkAtPower_bad {s : State} {cause : StartCause} {strap : Bool} (h : s.prof.cutShort.goodImage = none) :
    ((s.hardStart cause).setHeldLow false).checkAtPower strap = (s.released cause strap).loseStore.beginBlocks := by
  have hm := released_medium s cause strap
  rw [← hm] at h
  unfold State.checkAtPower
  change (State.beginBlocks (match (s.released cause strap).prof.medium.goodImage with
    | some i => (s.released cause strap).loadImage i strap
    | none => (s.released cause strap).loseStore)) = _
  rw [h]

theorem freshStart_loadImage (s : State) (cause : StartCause) (strap : Bool) (i : Image) :
    FreshStart ((s.released cause strap).loadImage i strap) cause strap := by
  refine ⟨rfl, rfl, rfl, rfl, rfl, rfl, rfl, fun l => ?_, ⟨rfl, rfl⟩, rfl, fun l => ?_, rfl, rfl, fun p => ?_, rfl, rfl⟩
  · exact (started_released s cause strap).frames l |>.1
  · exact Vector.getElem_replicate ..
  · cases p <;> exact portAtStart_startPort _

theorem freshStart_loseStore (s : State) (cause : StartCause) (strap : Bool) :
    FreshStart (s.released cause strap).loseStore cause strap := by
  refine ⟨rfl, rfl, rfl, rfl, rfl, rfl, rfl, fun l => ?_, ⟨rfl, rfl⟩, rfl, fun l => ?_, rfl, rfl, fun p => ?_, rfl, rfl⟩
  · exact (started_released s cause strap).frames l |>.1
  · exact Vector.getElem_replicate ..
  · cases p <;> exact portAtStart_startPort _

/-- Settles O5: the image's values stand and every block begins on them. -/
theorem powerUpOnGoodImage : Obligations.PowerUpOnGoodImage := by
  intro s strap i c cause hc hwrite hgood
  have hcut := cutShort_of_no_write hwrite
  rw [exec_start hc, checkAtPower_good (i := i) (by rw [hcut]; exact hgood)]
  generalize hu : (s.released cause strap).loadImage i strap = u
  have hk := keepsAllBut_beginBlocks u
  have hprof : u.beginBlocks.prof = u.prof := hk .prof (by simp)
  have hsite : u.beginBlocks.site = u.site := hk .site (by simp)
  have hcal : u.beginBlocks.cal = u.cal := hk .cal (by simp)
  refine ⟨u.beginBlocks, rfl, ?_, ?_, ?_, ?_, ?_, ?_, ?_, ?_, ?_, fun l => ?_, ?_, ?_, ?_, ?_⟩
  · exact (hu ▸ freshStart_loadImage s cause strap i).beginBlocks
  · rw [hsite, ← hu]; rfl
  · rw [hsite, ← hu]; rfl
  · rw [hprof, ← hu]; rfl
  · rw [hprof, ← hu]; rfl
  · rw [hprof, ← hu]
    simp [State.loadImage, satSucc, countLimit]
  · rw [hprof, ← hu]
    simp [State.loadImage, satSucc, countLimit]
  · rw [hprof, ← hu]; rfl
  · rw [hprof, ← hu]
    exact hcut
  · rw [hcal, ← hu]
    simp [State.loadImage, imageCal]
  · exact (hu ▸ (started_released s cause strap).loadImage i strap).begun
  · exact (hk .pending (by simp)).trans (hu ▸ rfl)
  · exact (hk .now (by simp)).trans (hu ▸ rfl)
  · exact (hk .freeReads (by simp)).trans (hu ▸ rfl)

theorem goodImage_of_badMedium {x : ProfileStore} (h : BadMedium x) : x.cutShort.goodImage = none := by
  cases hw : x.write with
  | none => simpa [ProfileStore.cutShort, hw] using h.resolve_left (fun hn => hn hw)
  | some w => simp [ProfileStore.cutShort, hw, Medium.goodImage]

theorem channels_off_of_unmapped {s t : State} (h : BlocksBegun s t) (hp : t.prof.active = defaultProfile) (c : ChanIx) :
    t.strip.channels[c].state = .off := by
  rw [h.channels c, hp]
  simp [defaultProfile, defaultStrip]

theorem probes_absent_of_default {s t : State} (h : BlocksBegun s t) (hp : t.prof.active = defaultProfile) (q : ProbeIx) :
    t.temp.probes[q].state = .absent := by
  rw [h.probes q, hp]
  simp [defaultProfile, defaultProbes]

theorem passList_of_default {s t : State} (h : BlocksBegun s t) (hp : t.prof.active = defaultProfile) :
    t.temp.passList = [] := by
  rw [h.pass.2.2, hp]
  simp [defaultProfile, defaultProbes]

/-- Settles O6: the default set stands and every block begins on it. -/
theorem powerUpOnBadImage : Obligations.PowerUpOnBadImage := by
  intro s strap c cause hc hbad
  rw [exec_start hc, checkAtPower_bad (goodImage_of_badMedium hbad)]
  generalize hu : (s.released cause strap).loseStore = u
  have hk := keepsAllBut_beginBlocks u
  have hprof : u.beginBlocks.prof = u.prof := hk .prof (by simp)
  have hsite : u.beginBlocks.site = u.site := hk .site (by simp)
  have hcal : u.beginBlocks.cal = u.cal := hk .cal (by simp)
  have hbegun : BlocksBegun s u.beginBlocks := (hu ▸ (started_released s cause strap).loseStore).begun
  have hactive : u.beginBlocks.prof.active = defaultProfile := by rw [hprof, ← hu]; rfl
  have hmedium : u.beginBlocks.prof.medium = s.prof.cutShort := by rw [hprof, ← hu]; rfl
  refine ⟨u.beginBlocks, rfl, ?_, ?_, ?_, hactive, ?_, ?_, ?_, ?_, fun h => ?_, fun h => ?_, fun l => ?_, hbegun,
    channels_off_of_unmapped hbegun hactive, probes_absent_of_default hbegun hactive, passList_of_default hbegun hactive,
    ?_, ?_, ?_⟩
  · exact (hu ▸ freshStart_loseStore s cause strap).beginBlocks
  · rw [hsite, ← hu]; rfl
  · rw [hsite, ← hu]; rfl
  · rw [hprof, ← hu]; rfl
  · rw [hprof, ← hu]; rfl
  · rw [hprof, ← hu]; rfl
  · rw [hprof, ← hu]; rfl
  · obtain ⟨w, hw⟩ := Option.ne_none_iff_exists'.mp h
    simp [hmedium, ProfileStore.cutShort, hw]
  · rw [hmedium, cutShort_of_no_write h]
  · rw [hcal, ← hu]
    simp [State.loseStore, defaultLaneCal]
  · exact (hk .pending (by simp)).trans (hu ▸ rfl)
  · exact (hk .now (by simp)).trans (hu ▸ rfl)
  · exact (hk .freeReads (by simp)).trans (hu ▸ rfl)

/-! ### The restart (R171) -/

/-- The state whose image a restart checks. -/
def State.restarting (s : State) : State :=
  (s.startBlocks .restart).setPorts
    { cab := s.ports.cab.atRestart .cab, svc := s.ports.svc.atRestart .svc, stream := false }

theorem started_restarting (s : State) : Started s s.restarting := { started_startBlocks s .restart with }

/-- The set a restart runs on: the image's, or the default set with the generation raised. -/
def State.restartedOn (s : State) (o : Option Image) : State :=
  match o with
  | some i =>
    { s with
      prof := { s.prof with active := i.profile },
      cal := imageCal i,
      site := { s.site with state := .standby } }
  | none => s.loseStore.setProf { s.loseStore.prof with generation := satSucc countLimit s.loseStore.prof.generation }

theorem restartNow_eq (s : State) :
    s.restartNow = (s.restarting.restartedOn s.prof.medium.goodImage).beginBlocks := by
  cases h : s.prof.medium.goodImage <;>
    simp only [State.restartNow, State.restarting, State.checkAtRestart, State.setPorts, State.startBlocks, h] <;> rfl

theorem Started.restartedOn {s t : State} (h : Started s t) (o : Option Image) : Started s (t.restartedOn o) := by
  cases o with
  | some i => exact { h with windows := fun l => by simp [State.restartedOn, imageCal] }
  | none => exact { h.loseStore with }

/-- A restart drops a port's requests and replies, sets a port that sends nothing, and lets a frame being sent go on. -/
theorem atRestart_eq (p : Port) (x : PortState) :
    (x.atRestart p).rx = .hunt ∧ (x.atRestart p).deferred = none ∧ (x.atRestart p).tx = x.tx
      ∧ (x.atRestart p).replies = [] ∧ (x.tx = none → PortAtStart p (x.atRestart p))
      ∧ (x.atRestart p).setAfterFrame = x.tx.isSome := by
  cases htx : x.tx with
  | none =>
    have hset : x.atRestart p = startPort p := by simp [PortState.atRestart, htx]
    rw [hset]
    exact ⟨rfl, rfl, rfl, rfl, fun _ => portAtStart_startPort p, rfl⟩
  | some f =>
    have hset : x.atRestart p = { x with rx := .hunt, replies := [], deferred := none, setAfterFrame := true } := by
      simp [PortState.atRestart, htx]
    rw [hset]
    exact ⟨rfl, rfl, htx, rfl, fun h => absurd h (by simp), rfl⟩

theorem port_restarting (s : State) (p : Port) : s.restarting.port p = (s.port p).atRestart p := by cases p <;> rfl

/-- The restart's blocks, whatever set it runs on, are those the check begins. -/
theorem keepsAllBut_restartNow (s : State) :
    KeepsAllBut [.strip, .loops, .temp, .former, .asm, .cal, .prof, .site, .ports] s s.restartNow := by
  have h1 : KeepsAllBut [.strip, .loops, .temp, .former, .asm, .cal, .prof, .site, .ports] s s.restarting := by
    intro b hb
    cases b <;> simp at hb <;> rfl
  have h2 := (keepsAllBut_checkAtRestart s.restarting).mono
    (M := [.strip, .loops, .temp, .former, .asm, .cal, .prof, .site, .ports]) (by simp [checked])
  exact h1.trans h2

/-- What a restart keeps and clears whatever image it finds. -/
theorem restartedOn_keeps (s : State) (o : Option Image) :
    (s.restarting.restartedOn o).asm.seq = s.asm.seq
      ∧ (s.restarting.restartedOn o).prof.writeFault = s.prof.writeFault
      ∧ (s.restarting.restartedOn o).site.strapOpen = s.site.strapOpen
      ∧ (s.restarting.restartedOn o).site.cause = .restart ∧ (s.restarting.restartedOn o).site.restart = none
      ∧ (s.restarting.restartedOn o).prof.claim = none ∧ (s.restarting.restartedOn o).prof.reasons = s.prof.reasons
      ∧ (s.restarting.restartedOn o).prof.medium = s.prof.medium
      ∧ (s.restarting.restartedOn o).site.time = 0 ∧ (s.restarting.restartedOn o).site.epochSet = false
      ∧ (∀ l : LaneIx, (s.restarting.restartedOn o).site.closed[l] = false)
      ∧ (s.restarting.restartedOn o).prof.lockPending = false
      ∧ (s.restarting.restartedOn o).prof.write = s.prof.write := by
  cases o <;> exact ⟨rfl, rfl, rfl, rfl, rfl, rfl, rfl, rfl, rfl, rfl, fun l => Vector.getElem_replicate .., rfl, rfl⟩

/-- Settles O7: the restart clears all but the store, the counter and what the image check fixes, and lets frames go on. -/
theorem restartKeepsStore : Obligations.RestartKeepsStore := by
  intro s hruns hrestart hwrite hreasons
  have hdue : s.restartDue = true := by simp [State.restartDue, hrestart, hwrite, hreasons, ReasonSet.first]
  refine ⟨s.restartNow, whenDue_of_due hruns hdue _, ?_⟩
  have hkeeps := keepsAllBut_restartNow s
  have hbegun : BlocksBegun s s.restartNow := by
    rw [restartNow_eq]
    exact ((started_restarting s).restartedOn _).begun
  have heq := restartNow_eq s
  generalize s.restartNow = t at hkeeps hbegun heq ⊢
  generalize hu : s.restarting.restartedOn s.prof.medium.goodImage = u at heq
  have hk := keepsAllBut_beginBlocks u
  have hprof : t.prof = u.prof := heq ▸ hk .prof (by simp)
  have hsite : t.site = u.site := heq ▸ hk .site (by simp)
  have hcal : t.cal = u.cal := heq ▸ hk .cal (by simp)
  have hasm : t.asm = u.asm := heq ▸ hk .asm (by simp)
  have hports : t.ports = s.restarting.ports := by
    rw [heq, show u.beginBlocks.ports = u.ports from hk .ports (by simp), ← hu]
    cases s.prof.medium.goodImage <;> rfl
  have hport : ∀ p, t.port p = (s.port p).atRestart p := fun p => by
    rw [← port_restarting]
    cases p <;> simp only [State.port, hports]
  have hstream : t.ports.stream = false := by rw [hports]; rfl
  obtain ⟨hseq, hfault, hstrap, hcause, hrestart', hclaim, hreasons', hmedium, htime, hepoch, hshut, hpending, hwrite'⟩ :=
    hu ▸ restartedOn_keeps s s.prof.medium.goodImage
  refine ⟨hkeeps .store (by simp), hasm ▸ hseq, hprof ▸ hfault, hsite ▸ hstrap, hsite ▸ hcause, hsite ▸ hrestart',
    hprof ▸ hclaim, hprof ▸ hreasons', hprof ▸ hmedium, hsite ▸ htime, hsite ▸ hepoch, fun l => by rw [hsite, hshut l],
    hprof ▸ hpending, hprof ▸ hwrite'.trans hwrite, hstream, hbegun, hkeeps,
    fun p => by rw [hport p]; exact atRestart_eq p _, fun i hi => ?_, fun hbad => ?_⟩
  · rw [hi] at hu
    rw [hsite, hprof, hcal, ← hu]
    exact ⟨rfl, rfl, rfl, rfl, rfl, rfl, rfl, fun l => by simp [State.restartedOn, imageCal]⟩
  · rw [hbad] at hu
    rw [hsite, hprof, hcal, ← hu]
    exact ⟨rfl, rfl, rfl, rfl, rfl, rfl, rfl,
      fun l => by simp [State.restartedOn, State.loseStore, defaultLaneCal]⟩

/-! ### The state after reset -/

/-- Reset's blocks are those of a start on the default set. -/
theorem blocksBegun_reset : BlocksBegun State.reset State.reset where
  cleared := by
    refine ⟨rfl, ⟨rfl, rfl, rfl, rfl, rfl, rfl⟩, fun l => ?_, waiting_startFormer rfl, fun l => ?_, rfl, fun l => ?_,
      fun l => ?_⟩
    · simp [State.reset, startTemp, startLaneTemp]
    · simp [State.reset, startFormer]
    · simp [State.reset]
    · simp [State.reset, defaultLaneCal]
  channels c := by simp [State.reset, startChannel, defaultProfile, defaultStrip]
  lanes l := by simp [State.reset, startLaneMonitor, startLoop, loopFound, presenceFound]
  pass := by simp [State.reset, startTemp, defaultProfile, defaultProbes]
  probes q := by simp [State.reset, startTemp, startProbe, defaultProfile, defaultProbes]

theorem port_reset (p : Port) : State.reset.port p = startPort p := by cases p <;> rfl

/-- Settles O2: reset is the state a power-on without an image leaves, and the four invariants hold in it. -/
theorem resetIsBadImageStart : Obligations.ResetIsBadImageStart := by
  have hstart := blocksBegun_reset.cleared
  refine ⟨⟨rfl, rfl, rfl, rfl, rfl, rfl, ?_, blocksBegun_reset, fun l d => ?_, rfl⟩, ?_, ?_, fun p => ?_, ?_⟩
  · refine ⟨rfl, rfl, rfl, rfl, rfl, rfl, rfl, fun l => (hstart.frames l).1, ⟨rfl, rfl⟩, rfl, fun l => ?_, rfl, rfl,
      fun p => ?_, rfl, rfl⟩
    · exact Vector.getElem_replicate ..
    · rw [port_reset]
      exact portAtStart_startPort p
  · cases d <;> simp [State.reset, startLaneMonitor, startLoop, LaneMonitor.loop]
  · exact ⟨Nat.zero_le _, Nat.zero_le _, by simp [State.reset], fun l f h => by simp [(hstart.frames l).1] at h⟩
  · exact fun l _ => ⟨(hstart.frames l).1, (hstart.candidates l).1⟩
  · rw [port_reset]
    exact .start p
  · exact formerLimits_start rfl

end Sys2Proof.Machine
end

section
/-! The strip front end (chapter 1): what one sample makes of a channel, case by case, and the leak. -/

namespace Sys2Proof.Machine

open Sys2Proof

/-! ### A sample's deviation and its thresholds (R2, R4) -/

theorem deviation_toInt (b : Int) (x : BitVec 16) : deviation b x.toInt = deviationOf b x := rfl

theorem isClipped_toInt (x : BitVec 16) : isClipped x.toInt = decide (x.toInt = -32768 ∨ x.toInt = 32767) := by
  simp [isClipped]

theorem clipOf_eq (x : BitVec 16) : (if isClipped x.toInt = true then 1 else 0) = clipOf x := by
  simp [isClipped_toInt, clipOf]

/-! ### The detector, case by case (R5 to R8) -/

section Detector

variable {trigger : Nat} {now : Tick} {b : Int} {x : BitVec 16}

theorem detectorStep_quiet_high (h : (trigger : Int) ≤ deviationOf b x) : detectorStep trigger now b x.toInt .quiet
    = (.arming now (deviationOf b x) (decide (x.toInt = -32768 ∨ x.toInt = 32767)), b, .none) := by
  simp [detectorStep, deviation_toInt, h, isClipped]

theorem detectorStep_quiet_low (h : deviationOf b x < (trigger : Int)) : detectorStep trigger now b x.toInt .quiet
    = (.quiet, b + roundHalfAway (x.toInt - b) 256, .none) := by
  simp [detectorStep, deviation_toInt, not_le.mpr h, trackBaseline]

theorem beginHit_eq (t0 : Tick) (d0 d : Int) (c0 c : Bool) : beginHit t0 d0 c0 d c =
    { start := t0, area := d0.toNat + d.toNat, peak := max d0 d,
      clips := (if c0 = true then 1 else 0) + (if c = true then 1 else 0), samples := 2 } := by
  simp [beginHit, HitAcc.take]

theorem detectorStep_arming_high {t0 : Tick} {d0 : Int} {c0 : Bool} (h : (trigger : Int) ≤ deviationOf b x) :
    detectorStep trigger now b x.toInt (.arming t0 d0 c0) = (.inHit
      { start := t0, area := d0.toNat + (deviationOf b x).toNat, peak := max d0 (deviationOf b x),
        clips := (if c0 = true then 1 else 0) + clipOf x, samples := 2 }, b, .none) := by
  simp only [detectorStep, deviation_toInt, h, decide_true, if_true, beginHit_eq, clipOf_eq]

theorem detectorStep_arming_low {t0 : Tick} {d0 : Int} {c0 : Bool} (h : deviationOf b x < (trigger : Int)) :
    detectorStep trigger now b x.toInt (.arming t0 d0 c0) = (.quiet, b + roundHalfAway (x.toInt - b) 256, .none) := by
  simp [detectorStep, deviation_toInt, not_le.mpr h, trackBaseline]

theorem cutIfLong_open {n : Nat} (h : n < 2048) (det : Detector) : cutIfLong n det = (det, .none) := by
  simp [cutIfLong, longLimit, not_le.mpr h]

theorem cutIfLong_long {n : Nat} (h : n = 2048) (det : Detector) : cutIfLong n det = (.recovering 0, .long) := by
  simp [cutIfLong, longLimit, h]

variable {h : HitAcc} {e : EndRun}

/-- A sample taken into a hit in progress, whose number decides whether the hit goes on (R6, R8). -/
theorem detectorStep_inHit_high (hd : ((trigger / 2 : Nat) : Int) ≤ deviationOf b x) :
    detectorStep trigger now b x.toInt (.inHit h) =
      ((cutIfLong (h.samples + 1) (.inHit
          { start := h.start, area := h.area + (deviationOf b x).toNat, peak := max h.peak (deviationOf b x),
            clips := h.clips + clipOf x, samples := h.samples + 1 })).1, b, (cutIfLong (h.samples + 1) .quiet).2) := by
  simp only [detectorStep, deviation_toInt, not_lt.mpr hd, decide_false, Bool.false_eq_true, if_false, HitAcc.take, clipOf_eq]
  simp only [cutIfLong]
  split <;> rfl

theorem detectorStep_inHit_low (hd : deviationOf b x < ((trigger / 2 : Nat) : Int)) :
    detectorStep trigger now b x.toInt (.inHit h) =
      ((cutIfLong (h.samples + 1) (.ending h
          { first := now, run := 1, sum := (deviationOf b x).toNat, clips := clipOf x })).1, b,
        (cutIfLong (h.samples + 1) .quiet).2) := by
  simp only [detectorStep, deviation_toInt, hd, decide_true, if_true, clipOf_eq]
  simp only [cutIfLong]
  split <;> rfl

theorem detectorStep_ending_high (hd : ((trigger / 2 : Nat) : Int) ≤ deviationOf b x) :
    detectorStep trigger now b x.toInt (.ending h e) =
      ((cutIfLong (h.samples + e.run + 1) (.inHit
          { start := h.start, area := h.area + e.sum + (deviationOf b x).toNat, peak := max h.peak (deviationOf b x),
            clips := h.clips + e.clips + clipOf x, samples := h.samples + e.run + 1 })).1, b,
        (cutIfLong (h.samples + e.run + 1) .quiet).2) := by
  simp only [detectorStep, deviation_toInt, not_lt.mpr hd, decide_false, Bool.false_eq_true, if_false, HitAcc.take,
    HitAcc.join, clipOf_eq]
  simp only [cutIfLong]
  split <;> rfl

theorem detectorStep_ending_low (hd : deviationOf b x < ((trigger / 2 : Nat) : Int)) (hrun : e.run < 3) :
    detectorStep trigger now b x.toInt (.ending h e) =
      ((cutIfLong (h.samples + e.run + 1) (.ending h
          { first := e.first, run := e.run + 1, sum := e.sum + (deviationOf b x).toNat, clips := e.clips + clipOf x })).1, b,
        (cutIfLong (h.samples + e.run + 1) .quiet).2) := by
  simp only [detectorStep, deviation_toInt, hd, decide_true, if_true, show ¬ e.run + 1 ≥ 4 by omega, if_false, EndRun.hold,
    clipOf_eq]
  simp only [cutIfLong]
  split <;> rfl

theorem detectorStep_ending_ends (hd : deviationOf b x < ((trigger / 2 : Nat) : Int)) (hrun : e.run = 3) :
    detectorStep trigger now b x.toInt (.ending h e) = (.quiet, b, .hit h.start e.first h.area h.peak h.clips) := by
  simp only [detectorStep, deviation_toInt, hd, hrun, decide_true, if_true, ge_iff_le, le_refl]

theorem detectorStep_recovering_high {n : Nat} (hd : ((trigger / 2 : Nat) : Int) ≤ deviationOf b x) :
    detectorStep trigger now b x.toInt (.recovering n) = (.recovering 0, b, .none) := by
  simp only [detectorStep, deviation_toInt, not_lt.mpr hd, decide_false, Bool.false_eq_true, if_false]

theorem detectorStep_recovering_low {n : Nat} (hd : deviationOf b x < ((trigger / 2 : Nat) : Int)) (hn : n < 3) :
    detectorStep trigger now b x.toInt (.recovering n) = (.recovering (n + 1), b, .none) := by
  simp only [detectorStep, deviation_toInt, hd, decide_true, if_true, show ¬ n + 1 ≥ 4 by omega, if_false]

theorem detectorStep_recovering_ends (hd : deviationOf b x < ((trigger / 2 : Nat) : Int)) :
    detectorStep trigger now b x.toInt (.recovering 3) = (.quiet, b, .recovered) := by
  simp only [detectorStep, deviation_toInt, hd, decide_true, if_true, ge_iff_le, le_refl]

end Detector

/-! ### One sample (R2 to R8) -/

theorem sample_of_off {ch : Channel} (h : ch.state = .off) (trigger : Nat) (now : Tick) (x : Int) :
    ch.sample trigger now x = (ch, .none) := by
  simp only [Channel.sample, h]

theorem sample_of_settling {ch : Channel} (h : ch.state = .settling) (trigger : Nat) (now : Tick) (x : Int) :
    ch.sample trigger now x = ch.settle x := by
  simp only [Channel.sample, h]

theorem settle_before {ch : Channel} (h : ch.settleCount < 255) (x : Int) :
    ch.settle x = ({ ch with settleSum := ch.settleSum + x, settleCount := ch.settleCount + 1 }, .none) := by
  have hn : ¬ 256 ≤ ch.settleCount + 1 := by omega
  simp only [Channel.settle, settleLimit, hn, if_false]

theorem settle_last {ch : Channel} (h : ch.settleCount = 255) (x : Int) :
    ch.settle x =
      ({ ch with
          state := .normal, settleSum := 0, settleCount := 0, detector := .quiet
          baseline := some (roundHalfAway (ch.settleSum + x) 256) }, .settled) := by
  simp only [Channel.settle, settleLimit, h, le_refl, if_true]

/-- A channel that detects takes a sample through its detector. -/
theorem sample_of_detects {ch : Channel} {b : Int} (h : Detects ch b) (trigger : Nat) (now : Tick) (x : Int) :
    ch.sample trigger now x =
      ({ ch with
          detector := (detectorStep trigger now b x ch.detector).1
          baseline := some (detectorStep trigger now b x ch.detector).2.1 },
        (detectorStep trigger now b x ch.detector).2.2) := by
  obtain ⟨hs, hb⟩ := h
  rcases hs with hs | hs | hs <;> simp [Channel.sample, hs, hb]

section Sample

variable {s : State} {c : ChanIx} {x : BitVec 16} {b b' : Int} {det det' : Detector} {ev : SampleEvent}

/-- What a sample brings about on a channel that detects. -/
theorem sampleEvent_of_step (h : Detects s.strip.channels[c] b) (hdet : s.strip.channels[c].detector = det)
    (hstep : detectorStep (s.stripEntry c).trigger s.now b x.toInt det = (det', b', ev)) : s.sampleEvent c x = ev := by
  rw [State.sampleEvent, sample_of_detects h, hdet, hstep]

theorem sampled_of_step (h : Detects s.strip.channels[c] b) (hdet : s.strip.channels[c].detector = det)
    (hstep : detectorStep (s.stripEntry c).trigger s.now b x.toInt det = (det', b', ev)) :
    s.sampled c x = s.setChannel c { s.strip.channels[c] with detector := det', baseline := some b' } := by
  rw [State.sampled, sample_of_detects h, hdet, hstep]

/-- The baseline a channel holds already. -/
theorem setDetector_of_detects (h : Detects s.strip.channels[c] b) :
    s.setChannel c { s.strip.channels[c] with detector := det', baseline := some b }
      = s.setChannel c { s.strip.channels[c] with detector := det' } := by
  rw [← h.2]

/-- A sample that brings nothing about moves its channel and nothing else. -/
theorem exec_stripSample_none (hruns : s.heldLow = false) (h : Detects s.strip.channels[c] b)
    (hdet : s.strip.channels[c].detector = det)
    (hstep : detectorStep (s.stripEntry c).trigger s.now b x.toInt det = (det', b', .none)) :
    exec (.stripSample c x) s
      = .next (s.setChannel c { s.strip.channels[c] with detector := det', baseline := some b' }) := by
  have htake : s.takeSample c x = s.sampled c x := by rw [State.takeSample, sampleEvent_of_step h hdet hstep]
  rw [← sampled_of_step h hdet hstep, ← htake]
  exact whileRunning_of_runs hruns _

/-- A sample that leaves the baseline and brings nothing about moves the detector alone. -/
theorem exec_stripSample_detector (hruns : s.heldLow = false) (h : Detects s.strip.channels[c] b)
    (hdet : s.strip.channels[c].detector = det)
    (hstep : detectorStep (s.stripEntry c).trigger s.now b x.toInt det = (det', b, .none)) :
    exec (.stripSample c x) s = .next (s.setChannel c { s.strip.channels[c] with detector := det' }) := by
  rw [exec_stripSample_none hruns h hdet hstep, setDetector_of_detects h]

/-- A command that carries a sample, and whose outcome the sample brings about, takes it. -/
theorem exec_isSample {cmd named : Instr} {due : Bool} (hruns : s.heldLow = false) (hcmd : IsSample cmd named c x)
    (hnamed : exec named s = whenDue s due (s.takeSample c x)) (hdue : due = true) :
    exec cmd s = .next (s.takeSample c x) := by
  rcases hcmd with rfl | rfl
  · exact whileRunning_of_runs hruns _
  · rw [hnamed, whenDue_of_due hruns hdue]

end Sample

theorem setChannel_self (s : State) (c : ChanIx) : s.setChannel c s.strip.channels[c] = s := by
  simp [State.setChannel, State.setStrip]

theorem setChannel_setChannel (s : State) (c : ChanIx) (x y : Channel) :
    (s.setChannel c x).setChannel c y = s.setChannel c y := by
  simp [State.setChannel, State.setStrip]

theorem setChannel_channel (s : State) (c : ChanIx) (x : Channel) : (s.setChannel c x).strip.channels[c] = x := by
  simp [State.setChannel, State.setStrip]

theorem setChannel_channel_ne (s : State) {c k : ChanIx} (h : k ≠ c) (x : Channel) :
    (s.setChannel c x).strip.channels[k] = s.strip.channels[k] := by
  have hv : c.val ≠ k.val := fun e => h (Fin.ext e.symm)
  simp [State.setChannel, State.setStrip, hv]

/-- Settles O8: the 256th sample settles the channel, and those before it are summed. -/
theorem settlingSamples : Obligations.SettlingSamples := by
  intro s c x hruns
  refine ⟨fun hoff => ?_, fun hset hn => ?_, fun cmd hcmd hset hn => ?_⟩
  · have htake : s.takeSample c x = s := by
      rw [State.takeSample, State.sampleEvent, State.sampled, sample_of_off hoff, setChannel_self]
    exact (whileRunning_of_runs hruns _).trans (by rw [htake])
  · have htake : s.takeSample c x = s.setChannel c
        { s.strip.channels[c] with
          settleSum := s.strip.channels[c].settleSum + x.toInt
          settleCount := s.strip.channels[c].settleCount + 1 } := by
      rw [State.takeSample, State.sampleEvent, State.sampled, sample_of_settling hset, settle_before hn]
    exact (whileRunning_of_runs hruns _).trans (by rw [htake])
  · have hev : s.sampleEvent c x = .settled := by
      rw [State.sampleEvent, sample_of_settling hset, settle_last hn]
    have htake : s.takeSample c x = (s.setChannel c
        { s.strip.channels[c] with
          state := .normal, settleSum := 0, settleCount := 0, detector := .quiet
          baseline := some (roundHalfAway (s.strip.channels[c].settleSum + x.toInt) 256) }).raiseAt .channelState c.val := by
      rw [State.takeSample, hev, State.sampled, sample_of_settling hset, settle_last hn]
    refine ⟨_, exec_isSample hruns hcmd rfl (by simp [hev]), ?_, ?_, ?_⟩
    · rw [htake]
      rfl
    · rw [htake]
      exact oneEvent_raise _ _ rfl
    · rw [htake]
      exact ((KeepsAllBut.setStrip s _).mono (by simp)).trans ((KeepsAllBut.raiseAt _ _ _).mono (by simp))

/-- Settles O9: each state of the detector, with a sample at or above its threshold and with one below. -/
theorem quietSample : Obligations.QuietSample := by
  refine ⟨fun s c x b hruns hd hdet => ⟨fun hx => ?_, fun hx => ?_⟩,
    fun s c x b t0 d0 c0 hruns hd hdet => ⟨fun hx => ?_, fun hx => ?_⟩,
    fun s c x b h hruns hd hdet hn => ⟨fun hx => ?_, fun hx => ?_⟩,
    fun s c x b h e hruns hd hdet hn => ⟨fun hx => ?_, fun hx hrun => ?_⟩⟩
  · exact exec_stripSample_detector hruns hd hdet (detectorStep_quiet_high hx)
  · rw [exec_stripSample_none hruns hd hdet (detectorStep_quiet_low hx), ← hdet]
  · exact exec_stripSample_detector hruns hd hdet (detectorStep_arming_high hx)
  · exact exec_stripSample_none hruns hd hdet (detectorStep_arming_low hx)
  · exact exec_stripSample_detector hruns hd hdet
      ((detectorStep_inHit_high hx).trans (by rw [cutIfLong_open (by omega), cutIfLong_open (by omega)]))
  · exact exec_stripSample_detector hruns hd hdet
      ((detectorStep_inHit_low hx).trans (by rw [cutIfLong_open (by omega), cutIfLong_open (by omega)]))
  · exact exec_stripSample_detector hruns hd hdet
      ((detectorStep_ending_high hx).trans (by rw [cutIfLong_open (by omega), cutIfLong_open (by omega)]))
  · exact exec_stripSample_detector hruns hd hdet
      ((detectorStep_ending_low hx hrun).trans (by rw [cutIfLong_open (by omega), cutIfLong_open (by omega)]))

/-! ### The end of a hit that is not delivered (R7, R8, R10) -/

theorem channelLaneActive_iff (s : State) (c : ChanIx) :
    s.channelLaneActive c = true ↔ ∃ l, (s.stripEntry c).lane = some l ∧ s.laneActive l = true := by
  unfold State.channelLaneActive
  cases (s.stripEntry c).lane <;> simp

/-- A hit cut off is counted in an active lane only (R10). -/
theorem takeSample_long {s : State} {c : ChanIx} {x : BitVec 16} {b : Int} {det : Detector}
    (h : Detects s.strip.channels[c] b) (hdet : s.strip.channels[c].detector = det)
    (hstep : detectorStep (s.stripEntry c).trigger s.now b x.toInt det = (.recovering 0, b, .long)) :
    s.takeSample c x = s.setChannel c
      { s.strip.channels[c] with
        detector := .recovering 0,
        discard := if ∃ l, (s.stripEntry c).lane = some l ∧ s.laneActive l = true
          then min (s.strip.channels[c].discard + 1) 65535 else s.strip.channels[c].discard } := by
  rw [State.takeSample, sampleEvent_of_step h hdet hstep, sampled_of_step h hdet hstep, setDetector_of_detects h]
  have hlane : ∀ ch, (s.setChannel c ch).channelLaneActive c = s.channelLaneActive c := fun _ => rfl
  simp only [State.disposeLong, hlane, State.countDiscard, setChannel_channel, setChannel_setChannel, channelLaneActive_iff]
  split <;> rfl

/-- A hit that ends where it is not delivered leaves the channel in QUIET, and a DEAD channel counts it (R10). -/
theorem takeSample_hit {s : State} {c : ChanIx} {x : BitVec 16} {b : Int} {h : HitAcc} {e : EndRun}
    (hd : Detects s.strip.channels[c] b) (hdet : s.strip.channels[c].detector = .ending h e) (hrun : e.run = 3)
    (hx : deviationOf b x < (((s.stripEntry c).trigger / 2 : Nat) : Int)) :
    s.takeSample c x = (s.setChannel c { s.strip.channels[c] with detector := .quiet }).disposeHit c h.start e.first h.area
      h.peak h.clips := by
  have hstep := detectorStep_ending_ends (now := s.now) (h := h) hx hrun
  rw [State.takeSample, sampleEvent_of_step hd hdet hstep, sampled_of_step hd hdet hstep, setDetector_of_detects hd]

theorem sampleEvent_hit {s : State} {c : ChanIx} {x : BitVec 16} {b : Int} {h : HitAcc} {e : EndRun}
    (hd : Detects s.strip.channels[c] b) (hdet : s.strip.channels[c].detector = .ending h e) (hrun : e.run = 3)
    (hx : deviationOf b x < (((s.stripEntry c).trigger / 2 : Nat) : Int)) :
    s.sampleEvent c x = .hit h.start e.first h.area h.peak h.clips :=
  sampleEvent_of_step hd hdet (detectorStep_ending_ends hx hrun)

/-- A hit of a channel without an active lane goes without a count (R10, cases 1 and 2). -/
theorem disposeHit_inactive {s : State} {c : ChanIx} (h : ∀ l, (s.stripEntry c).lane = some l → s.laneActive l = false)
    (start stop : Tick) (area : Nat) (peak : Int) (clips : Nat) : s.disposeHit c start stop area peak clips = s := by
  unfold State.disposeHit
  cases hl : (s.stripEntry c).lane with
  | none => rfl
  | some l => simp only [h l hl, Bool.not_false, if_true]

/-- A DEAD channel's hit is counted (R10, case 3). -/
theorem disposeHit_dead {s : State} {c : ChanIx} {l : LaneIx} (hl : (s.stripEntry c).lane = some l)
    (hactive : s.laneActive l = true) (hdead : s.strip.channels[c].state = .dead) (start stop : Tick) (area : Nat)
    (peak : Int) (clips : Nat) : s.disposeHit c start stop area peak clips = s.countDiscard c := by
  unfold State.disposeHit
  simp only [hl, hactive, Bool.not_true, Bool.false_eq_true, if_false, hdead]

/-- Settles O10: every way a hit ends without delivery, and the recovery run after a hit cut off. -/
theorem hitsEndWithoutDelivery : Obligations.HitsEndWithoutDelivery := by
  refine ⟨fun s c x b h e cmd hcmd hruns hd hdet hrun hx => ⟨fun hlane => ?_, fun l hl hactive hdead => ?_⟩,
    fun s c x b h cmd hcmd hruns hd hdet hn => ?_, fun s c x b h e cmd hcmd hruns hd hdet hn hx => ?_,
    fun s c x b n hruns hd hdet => ⟨fun hx hn => ?_, fun hx => ?_⟩, fun s c x b cmd hcmd hruns hd hdet hx => ?_⟩
  · rw [exec_isSample hruns hcmd rfl (by rw [sampleEvent_hit hd hdet hrun hx]; rfl), takeSample_hit hd hdet hrun hx]
    exact congrArg _ (disposeHit_inactive (s := s.setChannel c _) hlane _ _ _ _ _)
  · rw [exec_isSample hruns hcmd rfl (by rw [sampleEvent_hit hd hdet hrun hx]; rfl), takeSample_hit hd hdet hrun hx,
      disposeHit_dead (s := s.setChannel c _) (l := l) hl hactive (by rw [setChannel_channel]; exact hdead)]
    simp only [State.countDiscard, setChannel_channel, setChannel_setChannel]
    rfl
  · have hstep : detectorStep (s.stripEntry c).trigger s.now b x.toInt (.inHit h) = (.recovering 0, b, .long) := by
      rcases lt_or_ge (deviationOf b x) (((s.stripEntry c).trigger / 2 : Nat) : Int) with hx | hx
      · rw [detectorStep_inHit_low hx, cutIfLong_long (by omega), cutIfLong_long (by omega)]
      · rw [detectorStep_inHit_high hx, cutIfLong_long (by omega), cutIfLong_long (by omega)]
    rw [exec_isSample hruns hcmd rfl (by rw [sampleEvent_of_step hd hdet hstep]; rfl), takeSample_long hd hdet hstep]
  · have hstep : detectorStep (s.stripEntry c).trigger s.now b x.toInt (.ending h e) = (.recovering 0, b, .long) := by
      rcases lt_or_ge (deviationOf b x) (((s.stripEntry c).trigger / 2 : Nat) : Int) with hlow | hhigh
      · have hrun : e.run < 3 := hx.resolve_left (not_le.mpr hlow)
        rw [detectorStep_ending_low hlow hrun, cutIfLong_long (by omega), cutIfLong_long (by omega)]
      · rw [detectorStep_ending_high hhigh, cutIfLong_long (by omega), cutIfLong_long (by omega)]
    rw [exec_isSample hruns hcmd rfl (by rw [sampleEvent_of_step hd hdet hstep]; rfl), takeSample_long hd hdet hstep]
  · exact exec_stripSample_detector hruns hd hdet (detectorStep_recovering_low hx hn)
  · exact exec_stripSample_detector hruns hd hdet (detectorStep_recovering_high hx)
  · have hstep := detectorStep_recovering_ends (now := s.now) hx
    rw [exec_isSample hruns hcmd rfl (by rw [sampleEvent_of_step hd hdet hstep]; rfl), State.takeSample,
      sampleEvent_of_step hd hdet hstep, sampled_of_step hd hdet hstep]
    simp only [setDetector_of_detects hd]

/-! ### The leak (R13) -/

/-- No event of the class is no change of the ports. -/
theorem eachEvent_nil_iff {k : EventClass} {s t : State} : EachEvent k [] s t ↔ t.ports = s.ports := by
  have hcells : ∀ before after : Vector EventCell 13, RaisedEach k [] before after → after = before := by
    rintro before after ⟨h1, h2⟩
    refine Vector.ext fun i hi => ?_
    by_cases h : (⟨i, hi⟩ : Fin 13) = k.index
    · obtain rfl : i = k.index.val := congrArg Fin.val h
      exact h1
    · exact h2 ⟨i, hi⟩ h
  constructor
  · rintro ⟨hcab, hsvc, hports⟩
    rw [hports, hcells _ _ hcab, hcells _ _ hsvc]
  · intro h
    exact ⟨by rw [h]; exact ⟨rfl, fun _ _ => rfl⟩, by rw [h]; exact ⟨rfl, fun _ _ => rfl⟩, by rw [h]⟩

/-- Events raised one after the other. -/
theorem EachEvent.cons {k : EventClass} {item : BitVec 32} {items : List (BitVec 32)} {s t u : State}
    (h1 : OneEvent k item s t) (h2 : EachEvent k items t u) : EachEvent k (item :: items) s u := by
  obtain ⟨⟨hc1, hc2⟩, ⟨hs1, hs2⟩, hp⟩ := h1
  obtain ⟨⟨hc1', hc2'⟩, ⟨hs1', hs2'⟩, hp'⟩ := h2
  refine ⟨⟨?_, fun i hi => (hc2' i hi).trans (hc2 i hi)⟩, ⟨?_, fun i hi => (hs2' i hi).trans (hs2 i hi)⟩, ?_⟩
  · rw [hc1', hc1, List.foldl_cons]
  · rw [hs1', hs1, List.foldl_cons]
  · rw [hp', hp]

theorem EachEvent.of_ports {k : EventClass} {items : List (BitVec 32)} {s t u : State} (h1 : t.ports = s.ports)
    (h2 : EachEvent k items t u) : EachEvent k items s u := by
  unfold EachEvent at h2 ⊢
  rw [h1] at h2
  exact h2

/-- A DEGRADED channel at or below half its clip limit after the leak (R13). -/
def Recovers (s : State) (c : ChanIx) : Prop :=
  s.strip.channels[c].state = .degraded ∧ s.strip.channels[c].bucket - 1 ≤ (s.stripEntry c).clipLimit / 2

theorem leak_eq (limit : Nat) (ch : Channel) : ch.leak limit =
    if ch.state = .off then ch
    else { ch with
      bucket := ch.bucket - 1,
      state := if ch.state = .degraded ∧ ch.bucket - 1 ≤ limit / 2 then .normal else ch.state } := by
  rcases ch with ⟨state, _, _, _, _, bucket, _, _⟩
  cases state <;> simp only [Channel.leak]
  case degraded => by_cases hb : bucket - 1 ≤ limit / 2 <;> simp only [hb, if_true, if_false] <;> simp
  all_goals simp

theorem leak_state (limit : Nat) (ch : Channel) :
    (ch.leak limit).state ≠ ch.state ↔ ch.state = .degraded ∧ ch.bucket - 1 ≤ limit / 2 := by
  rw [leak_eq]
  by_cases hoff : ch.state = .off
  · simp [hoff]
  · by_cases hr : ch.state = .degraded ∧ ch.bucket - 1 ≤ limit / 2
    · simp [hr.1, hr.2]
    · simp only [hoff, hr, if_false, ne_eq, not_true_eq_false]

/-- One channel leaks and raises CHANNEL_STATE where it recovers (R13, R18). -/
theorem leakChannel_eq (s : State) (c : ChanIx) :
    (s.leakChannel c).strip =
        { s.strip with channels := s.strip.channels.set c (s.strip.channels[c].leak (s.stripEntry c).clipLimit) }
      ∧ (Recovers s c → OneEvent .channelState (itemBit c.val) s (s.leakChannel c))
      ∧ (¬ Recovers s c → (s.leakChannel c).ports = s.ports) := by
  unfold State.leakChannel
  dsimp only
  by_cases h : Recovers s c
  · rw [if_pos ((leak_state _ _).mpr h)]
    exact ⟨rfl, fun _ => oneEvent_raise _ _ rfl, fun hn => absurd h hn⟩
  · rw [if_neg (fun hn => h ((leak_state _ _).mp hn))]
    exact ⟨rfl, fun hn => absurd hn h, fun _ => rfl⟩

/-- The leak of a list of channels, each of them once. -/
theorem leakChannels_eq {cs : List ChanIx} (hcs : cs.Nodup) (s : State) [DecidablePred (Recovers s)] :
    (∀ c : ChanIx, (cs.foldl State.leakChannel s).strip.channels[c] =
        if c ∈ cs then s.strip.channels[c].leak (s.stripEntry c).clipLimit else s.strip.channels[c])
      ∧ EachEvent .channelState ((cs.filter (fun c => decide (Recovers s c))).map (fun c => itemBit c.val)) s
          (cs.foldl State.leakChannel s)
      ∧ (cs.foldl State.leakChannel s).strip.leakStart = s.strip.leakStart := by
  induction cs generalizing s with
  | nil => exact ⟨fun c => by simp, eachEvent_nil_iff.mpr rfl, rfl⟩
  | cons c cs ih =>
    obtain ⟨hc, hcs⟩ := List.nodup_cons.mp hcs
    obtain ⟨hstrip, hone, hnone⟩ := leakChannel_eq s c
    have hentry : ∀ k, (s.leakChannel c).stripEntry k = s.stripEntry k := fun k => by
      have hp : (s.leakChannel c).prof = s.prof := by
        unfold State.leakChannel
        dsimp only
        split <;> rfl
      rw [State.stripEntry, hp, State.stripEntry]
    have hother : ∀ k, k ≠ c → (s.leakChannel c).strip.channels[k] = s.strip.channels[k] := fun k hk => by
      have hv : c.val ≠ k.val := fun e => hk (Fin.ext e.symm)
      simp [hstrip, hv]
    have hself : (s.leakChannel c).strip.channels[c] = s.strip.channels[c].leak (s.stripEntry c).clipLimit := by
      simp [hstrip]
    have hrecovers : ∀ k, k ≠ c → (Recovers (s.leakChannel c) k ↔ Recovers s k) := fun k hk => by
      simp only [Recovers, hother k hk, hentry]
    classical
    obtain ⟨hchannels, hevents, hleak⟩ := ih hcs (s.leakChannel c)
    have hfilter : cs.filter (fun k => decide (Recovers (s.leakChannel c) k)) = cs.filter (fun k => decide (Recovers s k)) :=
      List.filter_congr fun k hk => by simp only [hrecovers k fun e => hc (e ▸ hk)]
    refine ⟨fun k => ?_, ?_, ?_⟩
    · rw [List.foldl_cons, hchannels k]
      by_cases hk : k = c
      · subst hk
        rw [if_neg hc, if_pos (List.mem_cons_self ..), hself]
      · simp only [hother k hk, hentry, List.mem_cons, hk, false_or]
    · rw [List.foldl_cons]
      by_cases hr : Recovers s c
      · rw [List.filter_cons_of_pos (by simpa using hr), List.map_cons]
        refine .cons (hone hr) ?_
        rw [← hfilter]
        convert hevents
      · rw [List.filter_cons_of_neg (by simpa using hr), ← hfilter]
        refine .of_ports (hnone hr) ?_
        convert hevents
    · rw [List.foldl_cons, hleak, hstrip]

theorem keepsAllBut_leakChannels (s : State) (cs : List ChanIx) :
    KeepsAllBut [.strip, .ports] s (cs.foldl State.leakChannel s) := by
  refine foldl_keeps (KeepsAllBut [.strip, .ports]) (.refl _) .trans State.leakChannel (fun t c => ?_) cs s
  have h1 : ∀ x, KeepsAllBut [.strip, .ports] t (t.setChannel c x) := fun x => (KeepsAllBut.setStrip t _).mono (by simp)
  unfold State.leakChannel
  exact .ite ((h1 _).trans ((KeepsAllBut.raiseAt _ _ _).mono (by simp))) (h1 _)

/-- Settles O12: the leak visits each channel once. -/
theorem bucketsLeak : Obligations.BucketsLeak := by
  intro s hruns hdue
  classical
  generalize hu : s.setStrip { s.strip with leakStart := s.strip.leakStart + 400 } = u
  have huentry : ∀ c, u.stripEntry c = s.stripEntry c := fun c => by rw [← hu]; rfl
  have huchannels : u.strip.channels = s.strip.channels := by rw [← hu]; rfl
  have huports : u.ports = s.ports := by rw [← hu]; rfl
  obtain ⟨hchannels, hevents, hleak⟩ := leakChannels_eq (cs := allChannels) (List.nodup_finRange 24) u
  have hleaked : ∀ c : ChanIx, (allChannels.foldl State.leakChannel u).strip.channels[c] =
      s.strip.channels[c].leak (s.stripEntry c).clipLimit := fun c => by
    rw [hchannels c, if_pos (show c ∈ allChannels from List.mem_finRange c), huchannels, huentry]
  have hevents' : EachEvent .channelState (((List.finRange 24).filter (fun c : ChanIx =>
      decide (s.strip.channels[c].state = .degraded
        ∧ s.strip.channels[c].bucket - 1 ≤ (s.stripEntry c).clipLimit / 2))).map (fun c => itemBit c.val)) s
      (allChannels.foldl State.leakChannel u) := by
    refine EachEvent.of_ports huports ?_
    have hfilter : allChannels.filter (fun c => decide (Recovers u c)) = (List.finRange 24).filter (fun c : ChanIx =>
        decide (s.strip.channels[c].state = .degraded
          ∧ s.strip.channels[c].bucket - 1 ≤ (s.stripEntry c).clipLimit / 2)) :=
      List.filter_congr fun c _ => by simp only [Recovers, huchannels, huentry]
    rw [← hfilter]
    exact hevents
  refine ⟨allChannels.foldl State.leakChannel u, hu ▸ whenDue_of_due hruns hdue _, ?_, fun c => ?_, fun h => ?_, hevents', ?_⟩
  · rw [hleak, ← hu]
    rfl
  · rw [hleaked c, leak_eq]
  · have hnone : (List.finRange 24).filter (fun c : ChanIx => decide (s.strip.channels[c].state = .degraded
        ∧ s.strip.channels[c].bucket - 1 ≤ (s.stripEntry c).clipLimit / 2)) = [] :=
      List.filter_eq_nil_iff.mpr fun c _ hc =>
        (leak_state _ _).mpr (of_decide_eq_true hc) ((congrArg Channel.state (hleaked c)).symm.trans (h c))
    rw [hnone] at hevents'
    exact eachEvent_nil_iff.mp hevents'
  · have hset : KeepsAllBut [.strip, .ports] s u := hu ▸ (KeepsAllBut.setStrip s _).mono (by simp)
    exact hset.trans (keepsAllBut_leakChannels u _)

/-! ### CHANNEL_REARM (R20) -/

/-- Settles O13: the request's number names a channel or none. -/
theorem channelRearmed : Obligations.ChannelRearmed := by
  intro s p tag b hadm
  have hexec := exec_requestCommand_admitted hadm tag
  have hbyte : byte0 [b] = b.toNat := rfl
  refine ⟨fun hb => ?_, fun c hc => ⟨fun hoff => ?_, fun hon => ?_⟩⟩
  · have howner : ownerOf .channelRearm p [b] s = (s, .refused .badValue 0 0) := by
      simp only [ownerOf, rearmOwner, hbyte]
      rw [dif_neg (by omega)]
    rw [howner] at hexec
    exact hexec
  · have howner : ownerOf .channelRearm p [b] s = (s, .refused .badValue 0 0) := by
      simp only [ownerOf, rearmOwner, hbyte, hc]
      rw [dif_pos (by omega)]
      exact if_pos hoff
    rw [howner] at hexec
    exact hexec
  · have howner : ownerOf .channelRearm p [b] s =
        ((s.setChannel c s.strip.channels[c].enterSettling).raiseAt .channelState c.val, .ok []) := by
      simp only [ownerOf, rearmOwner, hbyte, hc]
      rw [dif_pos (by omega)]
      exact if_neg hon
    rw [howner] at hexec
    exact hexec

end Sys2Proof.Machine
end

section
/-! The loop monitor (chapter 2): what an accepted change, a stuck expiry and the timers make of a lane. -/

namespace Sys2Proof.Machine

open Sys2Proof

/-! ### One lane of the monitor -/

theorem setLaneMon_lane (s : State) (l : LaneIx) (m : LaneMonitor) : (s.setLaneMon l m).loops[l] = m := by
  simp [State.setLaneMon]

theorem setLaneMon_lane_ne (s : State) {l k : LaneIx} (h : k ≠ l) (m : LaneMonitor) :
    (s.setLaneMon l m).loops[k] = s.loops[k] := by
  have hv : l.val ≠ k.val := fun e => h (Fin.ext e.symm)
  simp [State.setLaneMon, hv]

theorem setFrame_loops (s : State) (l : LaneIx) (f : Option Frame) : (s.setFrame l f).loops = s.loops := rfl

theorem raiseAt_loops (s : State) (k : EventClass) (i : Nat) : (s.raiseAt k i).loops = s.loops := rfl

theorem setFrame_frames_ne (s : State) {l k : LaneIx} (h : k ≠ l) (f : Option Frame) :
    (s.setFrame l f).asm.frames[k] = s.asm.frames[k] := by
  have hv : l.val ≠ k.val := fun e => h (Fin.ext e.symm)
  simp [State.setFrame, hv]

/-- Settles O14: a level that agrees with the filtered state cancels, one that differs begins or waits on. -/
theorem lineLevelRead : Obligations.LineLevelRead := by
  intro s l d high hruns
  have hread : (s.loops[l].loop d).read high s.now = { s.loops[l].loop d with
      high := high,
      change := if high = decide ((s.loops[l].loop d).filtered ≠ .free) then none
        else match (s.loops[l].loop d).change with
          | some ct => some ct
          | none => some s.now } := by
    have hhigh : (s.loops[l].loop d).filtered.high = decide ((s.loops[l].loop d).filtered ≠ .free) := by
      cases (s.loops[l].loop d).filtered <;> rfl
    unfold Loop.read
    rw [hhigh]
    split
    · rfl
    · cases (s.loops[l].loop d).change <;> rfl
  simp only [exec, execLoopLineChange, hruns, Bool.false_eq_true, if_false]
  exact congrArg (fun x => Host.Outcome.next (s.setLaneMon l (s.loops[l].setLoop d x))) hread

/-! ### The presence machine (R27 to R36) -/

/-- The length an occupancy report gives is that of R32. -/
theorem occupancyLength_eq (occupancy v length : Nat) :
    occupancyLength occupancy v length = min 4000 ((occupancy * v * 2 + 80000) / 160000 - length) := by
  unfold occupancyLength clampInt roundHalfUp
  norm_num
  omega

theorem report_eq {f : Frame} {length : Option Nat} {shared : Bool} (h : shared = true → length = none) :
    f.report length shared = if f.shared = true then f else { f with shared := shared, length := length } := by
  unfold Frame.report
  split
  · rfl
  · next hf =>
    cases shared with
    | true => simp [h rfl]
    | false => simp [Bool.eq_false_iff.mpr hf]

/-- What an occupancy report leaves: the length, and the open frame's (R32, R33, R114). -/
def State.reported (s : State) (l : LaneIx) (u ct : Tick) : State :=
  (s.setLaneMon l { s.loops[l] with lastLength := reportedLength s l u ct }).setFrame l
    ((s.asm.frames[l]).map (fun f =>
      if f.shared = true then f
      else { f with shared := decide (1 < s.loops[l].frameCount), length := reportedLength s l u ct }))

theorem occupancyReport_none {s : State} {l : LaneIx} (h : s.loops[l].uStart = none) (ct : Tick) :
    s.occupancyReport l ct = s := by
  simp only [State.occupancyReport, h]

theorem occupancyReport_some {s : State} {l : LaneIx} {u : Tick} (h : s.loops[l].uStart = some u) (ct : Tick) :
    s.occupancyReport l ct = s.reported l u ct := by
  have hlength : (if decide (1 < s.loops[l].frameCount) = true then none
      else (s.reportSpeed l).map (fun v => occupancyLength (elapsed u ct) v (s.laneEntry l).loopLength))
        = reportedLength s l u ct := by
    simp only [reportedLength, decide_eq_true_eq, occupancyLength_eq]
    rfl
  simp only [State.occupancyReport, h, hlength, State.reported]
  congr 1
  exact Option.map_congr fun f _ => report_eq fun hshared => if_pos (of_decide_eq_true hshared)

/-- What a move of the presence machine makes of a lane, and what it keeps. -/
structure Moved (d : LoopPos) (occupied : Bool) (before after : LaneMonitor) : Prop where
  presence : after.presence = presenceAfter d occupied before
  up : after.up = before.up
  down : after.down = before.down
  lastLength : after.lastLength = before.lastLength

/-- Where the machine does not move, the lane stays. -/
theorem Moved.stays {d : LoopPos} {occupied : Bool} {m : LaneMonitor} (h : m.presence = presenceAfter d occupied m) :
    Moved d occupied m m := ⟨h, rfl, rfl, rfl⟩

theorem setLaneMon_self (s : State) (l : LaneIx) : s.setLaneMon l s.loops[l] = s := by
  simp [State.setLaneMon, State.setLoops]

theorem upOccupied_moves (s : State) (l : LaneIx) (ct : Tick) :
    ∃ m, s.upOccupied l ct = s.setLaneMon l m ∧ Moved .up true s.loops[l] m := by
  cases hp : s.loops[l].presence <;> simp only [State.upOccupied, hp]
  case idle => exact ⟨_, rfl, ⟨by simp only [presenceAfter, hp]; rfl, rfl, rfl, rfl⟩⟩
  case leaving => exact ⟨_, rfl, ⟨by simp only [presenceAfter, hp]; rfl, rfl, rfl, rfl⟩⟩
  case reverse => exact ⟨_, rfl, ⟨by simp only [presenceAfter, hp], rfl, rfl, rfl⟩⟩
  case entering => exact ⟨_, (setLaneMon_self s l).symm, .stays (by simp only [presenceAfter, hp])⟩
  case spanning => exact ⟨_, (setLaneMon_self s l).symm, .stays (by simp only [presenceAfter, hp])⟩

theorem downFree_moves (s : State) (l : LaneIx) (ct : Tick) :
    ∃ m, s.downFree l ct = s.setLaneMon l m ∧ Moved .down false s.loops[l] m := by
  cases hp : s.loops[l].presence <;> simp only [State.downFree, hp]
  case spanning => exact ⟨_, rfl, ⟨by simp only [presenceAfter, hp]; rfl, rfl, rfl, rfl⟩⟩
  case leaving => exact ⟨_, rfl, ⟨by simp only [presenceAfter, hp]; rfl, rfl, rfl, rfl⟩⟩
  case reverse =>
    refine ⟨_, rfl, ⟨?_, ?_, ?_, ?_⟩⟩ <;> split <;> simp_all [presenceAfter, LaneMonitor.enter]
  case idle => exact ⟨_, (setLaneMon_self s l).symm, .stays (by simp only [presenceAfter, hp])⟩
  case entering => exact ⟨_, (setLaneMon_self s l).symm, .stays (by simp only [presenceAfter, hp])⟩

theorem attempt_up (m : LaneMonitor) (spacing : Nat) (now : Tick) : (m.attempt spacing now).up = m.up := by
  unfold LaneMonitor.attempt
  split <;> rfl

theorem attempt_down (m : LaneMonitor) (spacing : Nat) (now : Tick) : (m.attempt spacing now).down = m.down := by
  unfold LaneMonitor.attempt
  split <;> rfl

theorem attempt_lastLength (m : LaneMonitor) (spacing : Nat) (now : Tick) :
    (m.attempt spacing now).lastLength = m.lastLength := by
  unfold LaneMonitor.attempt
  split <;> rfl

theorem downOccupied_moves {s : State} {l : LaneIx} (h : s.loops[l].presence ≠ .idle) (ct : Tick) :
    ∃ m, s.downOccupied l ct = s.setLaneMon l m ∧ Moved .down true s.loops[l] m := by
  cases hp : s.loops[l].presence <;> simp only [State.downOccupied, hp]
  case idle => exact absurd hp h
  case entering =>
    exact ⟨_, rfl, ⟨by simp only [presenceAfter, hp]; rfl, attempt_up _ _ _, attempt_down _ _ _, attempt_lastLength _ _ _⟩⟩
  case reverse => exact ⟨_, rfl, ⟨by simp only [presenceAfter, hp], rfl, rfl, rfl⟩⟩
  case spanning => exact ⟨_, (setLaneMon_self s l).symm, .stays (by simp only [presenceAfter, hp])⟩
  case leaving => exact ⟨_, (setLaneMon_self s l).symm, .stays (by simp only [presenceAfter, hp])⟩

/-- R29: D OCCUPIED in IDLE. -/
theorem downOccupied_wrongWay {s : State} {l : LaneIx} (h : s.loops[l].presence = .idle) (ct : Tick) :
    ∃ m, s.downOccupied l ct = (s.setLaneMon l m).raiseAt .wrongWay l.val ∧ Moved .down true s.loops[l] m
      ∧ m.speed = none := by
  unfold State.downOccupied
  simp only [h]
  exact ⟨_, rfl, ⟨by simp only [presenceAfter, h]; rfl, rfl, rfl, rfl⟩, rfl⟩

/-- U FREE without a report (R25, R28). -/
theorem upFree_moves (s : State) (l : LaneIx) (ct : Tick) :
    ∃ m, s.upFree l ct false = s.setLaneMon l m ∧ Moved .up false s.loops[l] m := by
  cases hp : s.loops[l].presence <;> simp only [State.upFree, hp, Bool.false_eq_true, if_false]
  case entering => exact ⟨_, rfl, ⟨by simp only [presenceAfter, hp]; rfl, rfl, rfl, rfl⟩⟩
  case spanning => exact ⟨_, rfl, ⟨by simp only [presenceAfter, hp]; rfl, rfl, rfl, rfl⟩⟩
  case reverse =>
    refine ⟨_, rfl, ⟨?_, ?_, ?_, ?_⟩⟩ <;> split <;> simp_all [presenceAfter, LaneMonitor.enter]
  case idle => exact ⟨_, (setLaneMon_self s l).symm, .stays (by simp only [presenceAfter, hp])⟩
  case leaving => exact ⟨_, (setLaneMon_self s l).symm, .stays (by simp only [presenceAfter, hp])⟩

/-- The report comes before the move, and changes nothing the move looks at (R28, R32). -/
theorem upFree_reports {s : State} {l : LaneIx} {ct u : Tick} (hu : s.loops[l].uStart = some u)
    (hp : s.loops[l].presence = .entering ∨ s.loops[l].presence = .spanning) :
    s.upFree l ct true = (s.reported l u ct).upFree l ct false := by
  have hr := occupancyReport_some hu ct
  have hlane : (s.reported l u ct).loops[l] = { s.loops[l] with lastLength := reportedLength s l u ct } :=
    setLaneMon_lane _ _ _
  rcases hp with hp | hp <;> simp only [State.upFree, hp, hr, if_true, Bool.false_eq_true, if_false, hlane] <;> rfl

theorem upFree_silent {s : State} {l : LaneIx} {ct : Tick}
    (h : s.loops[l].uStart = none ∨ (s.loops[l].presence ≠ .entering ∧ s.loops[l].presence ≠ .spanning)) :
    s.upFree l ct true = s.upFree l ct false := by
  rcases h with h | ⟨h1, h2⟩
  · simp only [State.upFree, occupancyReport_none h, if_true, Bool.false_eq_true, if_false]
  · cases hp : s.loops[l].presence with
    | entering => exact absurd hp h1
    | spanning => exact absurd hp h2
    | idle | leaving | reverse => simp only [State.upFree, hp]

/-! ### An accepted change (R23 to R33) -/

theorem acceptedChange_of_ready {s : State} {l : LaneIx} {d : LoopPos} {ct : Tick} (h : ChangeReady s l d ct) :
    s.acceptedChange l d = some ct := by
  obtain ⟨hchange, hspan⟩ := h
  simp only [State.acceptedChange, hchange]
  exact if_pos ((spanPassed_iff s ct (rejectSpan l)).mpr hspan)

theorem exec_loopChangeAccept {s : State} {l : LaneIx} {d : LoopPos} {ct : Tick} (hruns : s.heldLow = false)
    (h : ChangeReady s l d ct) : exec (.loopChangeAccept l d) s = .next (s.acceptChange l d ct) := by
  simp only [exec, execLoopChangeAccept, acceptedChange_of_ready h, whileRunning_of_runs hruns]

theorem setLoop_loop (m : LaneMonitor) (d : LoopPos) (x : Loop) : (m.setLoop d x).loop d = x := by cases d <;> rfl

theorem loop_of_moved {d d' : LoopPos} {occupied : Bool} {m m' : LaneMonitor} (h : Moved d occupied m m') :
    m'.loop d' = m.loop d' := by
  cases d'
  · exact h.up
  · exact h.down

theorem presenceAfter_setLoop (d d' : LoopPos) (occupied : Bool) (m : LaneMonitor) (x : Loop) :
    presenceAfter d occupied (m.setLoop d' x) = presenceAfter d occupied m := by
  cases d' <;> rfl

/-- The state in which the machine takes a change: the loop's filtered state has moved (R23). -/
def State.filteredTo (s : State) (l : LaneIx) (d : LoopPos) (f : Filtered) (stuck : Option Tick) : State :=
  s.setLaneMon l (s.loops[l].setLoop d { s.loops[l].loop d with filtered := f, change := none, stuckStart := stuck })

theorem filteredTo_lane (s : State) (l : LaneIx) (d : LoopPos) (f : Filtered) (stuck : Option Tick) :
    (s.filteredTo l d f stuck).loops[l]
      = s.loops[l].setLoop d { s.loops[l].loop d with filtered := f, change := none, stuckStart := stuck } :=
  setLaneMon_lane _ _ _

theorem acceptChange_free {s : State} {l : LaneIx} {d : LoopPos} (h : (s.loops[l].loop d).filtered = .free) (ct : Tick) :
    s.acceptChange l d ct = (s.filteredTo l d .occupied (some ct)).presenceTakes l d true ct true := by
  simp only [State.acceptChange, h, State.filteredTo]

theorem acceptChange_occupied {s : State} {l : LaneIx} {d : LoopPos} (h : (s.loops[l].loop d).filtered = .occupied)
    (ct : Tick) : s.acceptChange l d ct = (s.filteredTo l d .free none).presenceTakes l d false ct true := by
  simp only [State.acceptChange, h, State.filteredTo]

theorem acceptChange_stuck {s : State} {l : LaneIx} {d : LoopPos} (h : (s.loops[l].loop d).filtered = .stuck) (ct : Tick) :
    s.acceptChange l d ct = s.filteredTo l d .free none := by
  simp only [State.acceptChange, h, State.filteredTo]

/-- How an accepted change ends: a move of the lane alone, after an occupancy report at a U FREE, or with WRONG_WAY where
D is OCCUPIED in IDLE (R28, R29, R32). -/
theorem presenceTakes_cases (s : State) (l : LaneIx) (d : LoopPos) (occupied : Bool) (ct : Tick) :
    (d = .down ∧ occupied = true ∧ s.loops[l].presence = .idle
        ∧ ∃ m, s.presenceTakes l d occupied ct true = (s.setLaneMon l m).raiseAt .wrongWay l.val
          ∧ Moved d occupied s.loops[l] m ∧ m.speed = none)
      ∨ (d = .up ∧ occupied = false ∧ (s.loops[l].presence = .entering ∨ s.loops[l].presence = .spanning)
        ∧ ∃ u, s.loops[l].uStart = some u
          ∧ ∃ m, s.presenceTakes l d occupied ct true = (s.reported l u ct).setLaneMon l m
            ∧ Moved d occupied (s.reported l u ct).loops[l] m)
      ∨ (¬ (d = .down ∧ occupied = true ∧ s.loops[l].presence = .idle)
        ∧ (d = .up → occupied = false → s.loops[l].uStart = none
          ∨ (s.loops[l].presence ≠ .entering ∧ s.loops[l].presence ≠ .spanning))
        ∧ ∃ m, s.presenceTakes l d occupied ct true = s.setLaneMon l m ∧ Moved d occupied s.loops[l] m) := by
  cases d with
  | up =>
    cases occupied with
    | true => exact .inr (.inr ⟨by simp, by simp, upOccupied_moves s l ct⟩)
    | false =>
      by_cases hsilent : s.loops[l].uStart = none ∨ (s.loops[l].presence ≠ .entering ∧ s.loops[l].presence ≠ .spanning)
      · obtain ⟨m, hm, hmoved⟩ := upFree_moves s l ct
        exact .inr (.inr ⟨by simp, fun _ _ => hsilent, m, (upFree_silent hsilent).trans hm, hmoved⟩)
      · obtain ⟨hstart, hpresence⟩ := not_or.mp hsilent
        obtain ⟨u, hu⟩ := Option.ne_none_iff_exists'.mp hstart
        have hp : s.loops[l].presence = .entering ∨ s.loops[l].presence = .spanning := by
          by_contra hno
          exact hpresence (not_or.mp hno)
        obtain ⟨m, hm, hmoved⟩ := upFree_moves (s.reported l u ct) l ct
        exact .inr (.inl ⟨rfl, rfl, hp, u, hu, m, (upFree_reports hu hp).trans hm, hmoved⟩)
  | down =>
    cases occupied with
    | true =>
      by_cases hidle : s.loops[l].presence = .idle
      · exact .inl ⟨rfl, rfl, hidle, downOccupied_wrongWay hidle ct⟩
      · exact .inr (.inr ⟨fun h => hidle h.2.2, by simp, downOccupied_moves hidle ct⟩)
    | false => exact .inr (.inr ⟨by simp, by simp, downFree_moves s l ct⟩)

theorem acceptChange_eq {s : State} {l : LaneIx} {d : LoopPos} (h : (s.loops[l].loop d).filtered ≠ .stuck) (ct : Tick) :
    ∃ stuck, s.acceptChange l d ct =
      (s.filteredTo l d (if (s.loops[l].loop d).filtered = .free then .occupied else .free) stuck).presenceTakes l d
        (decide ((s.loops[l].loop d).filtered = .free)) ct true := by
  cases hf : (s.loops[l].loop d).filtered with
  | free => exact ⟨_, by simpa using acceptChange_free hf ct⟩
  | occupied => exact ⟨_, by simpa using acceptChange_occupied hf ct⟩
  | stuck => exact absurd hf h

section FilteredTo

variable (s : State) (l : LaneIx) (d : LoopPos) (f : Filtered) (stuck : Option Tick)

theorem filteredTo_lane_ne {k : LaneIx} (h : k ≠ l) : (s.filteredTo l d f stuck).loops[k] = s.loops[k] :=
  setLaneMon_lane_ne s h _

theorem filteredTo_presence : (s.filteredTo l d f stuck).loops[l].presence = s.loops[l].presence := by
  rw [filteredTo_lane]
  cases d <;> rfl

theorem filteredTo_uStart : (s.filteredTo l d f stuck).loops[l].uStart = s.loops[l].uStart := by
  rw [filteredTo_lane]
  cases d <;> rfl

theorem filteredTo_frameCount : (s.filteredTo l d f stuck).loops[l].frameCount = s.loops[l].frameCount := by
  rw [filteredTo_lane]
  cases d <;> rfl

theorem filteredTo_lastLength : (s.filteredTo l d f stuck).loops[l].lastLength = s.loops[l].lastLength := by
  rw [filteredTo_lane]
  cases d <;> rfl

theorem filteredTo_presenceAfter (d' : LoopPos) (occupied : Bool) :
    presenceAfter d' occupied (s.filteredTo l d f stuck).loops[l] = presenceAfter d' occupied s.loops[l] := by
  rw [filteredTo_lane, presenceAfter_setLoop]

theorem reportedLength_filteredTo (u ct : Tick) :
    reportedLength (s.filteredTo l d f stuck) l u ct = reportedLength s l u ct := by
  unfold reportedLength
  rw [filteredTo_frameCount]
  rfl

end FilteredTo

theorem reported_lane (s : State) (l : LaneIx) (u ct : Tick) :
    (s.reported l u ct).loops[l] = { s.loops[l] with lastLength := reportedLength s l u ct } :=
  setLaneMon_lane _ _ _

theorem reported_asm (s : State) (l : LaneIx) (u ct : Tick) : (s.reported l u ct).asm = { s.asm with
    frames := s.asm.frames.set l ((s.asm.frames[l]).map (fun f =>
      if f.shared = true then f
      else { f with shared := decide (1 < s.loops[l].frameCount), length := reportedLength s l u ct })) } := rfl

/-- Settles O15: an accepted change is one of the three moves of `presenceTakes_cases`. -/
theorem presenceMoves : Obligations.PresenceMoves := by
  refine ⟨fun s l d ct hruns hready hstuck => ?_, fun s l d ct hchange hforward => ?_⟩
  · obtain ⟨stuck, haccept⟩ := acceptChange_eq hstuck ct
    have hkeeps := keepsAllBut_acceptChange s l d ct
    refine ⟨_, exec_loopChangeAccept hruns hready, ?_⟩
    rw [haccept] at hkeeps ⊢
    generalize (if (s.loops[l].loop d).filtered = .free then Filtered.occupied else .free) = f at hkeeps ⊢
    have hocc : (s.loops[l].loop d).filtered = .occupied ↔ decide ((s.loops[l].loop d).filtered = .free) = false := by
      cases hf : (s.loops[l].loop d).filtered <;> simp_all
    have hfree : (s.loops[l].loop d).filtered = .free ↔ decide ((s.loops[l].loop d).filtered = .free) = true := by simp
    generalize decide ((s.loops[l].loop d).filtered = .free) = occ at hkeeps hocc hfree ⊢
    have hloop : ((s.filteredTo l d f stuck).loops[l]).loop d =
        { s.loops[l].loop d with filtered := f, change := none, stuckStart := stuck } := by
      rw [filteredTo_lane, setLoop_loop]
    have hafter := filteredTo_presenceAfter s l d f stuck d occ
    have hpresence := filteredTo_presence s l d f stuck
    have hstart := filteredTo_uStart s l d f stuck
    have hlength := filteredTo_lastLength s l d f stuck
    have hother : ∀ k, k ≠ l → (s.filteredTo l d f stuck).loops[k] = s.loops[k] :=
      fun k hk => filteredTo_lane_ne s l d f stuck hk
    rcases presenceTakes_cases (s.filteredTo l d f stuck) l d occ ct with
      ⟨hd, hon, hidle, m, hm, hmoved, hspeed⟩ | ⟨hd, hoff, hp, u, hu, m, hm, hmoved⟩ | ⟨hright, hsilent, m, hm, hmoved⟩
    · have hlane : ((s.filteredTo l d f stuck).presenceTakes l d occ ct true).loops[l] = m := by
        rw [hm]
        exact setLaneMon_lane _ _ _
      refine ⟨?_, ?_, ?_, fun k hk => ⟨?_, by rw [hm]; rfl⟩, fun _ _ _ => ⟨?_, ?_⟩, fun hno => ?_, fun _ => by rw [hm]; rfl,
        fun hup => ?_, hkeeps⟩
      · rw [hlane, loop_of_moved hmoved, hloop]
      · rw [hlane, loop_of_moved hmoved, hloop]
      · rw [hlane, hmoved.presence, hafter]
      · rw [hm, raiseAt_loops, setLaneMon_lane_ne _ hk, hother k hk]
      · rw [hlane, hspeed]
      · rw [hm]
        exact oneEvent_raise _ _ rfl
      · exact absurd ⟨hd, hfree.mpr hon, hpresence ▸ hidle⟩ hno
      · rw [hd] at hup
        cases hup
    · have hlane : ((s.filteredTo l d f stuck).presenceTakes l d occ ct true).loops[l] = m := by
        rw [hm]
        exact setLaneMon_lane _ _ _
      have hreported := reported_lane (s.filteredTo l d f stuck) l u ct
      have hloop' : ((State.reported (s.filteredTo l d f stuck) l u ct).loops[l]).loop d =
          { s.loops[l].loop d with filtered := f, change := none, stuckStart := stuck } := by
        rw [hreported, ← hloop]
        cases d <;> rfl
      have hafter' : presenceAfter d occ (State.reported (s.filteredTo l d f stuck) l u ct).loops[l]
          = presenceAfter d occ s.loops[l] := by
        rw [hreported, ← hafter]
        rfl
      have hreport := reportedLength_filteredTo s l d f stuck u ct
      have hasm : ((s.filteredTo l d f stuck).presenceTakes l d occ ct true).asm = { s.asm with
          frames := s.asm.frames.set l ((s.asm.frames[l]).map (fun f =>
            if f.shared = true then f
            else { f with shared := decide (1 < s.loops[l].frameCount), length := reportedLength s l u ct })) } := by
        rw [hm, State.setLaneMon_asm, reported_asm, hreport, filteredTo_frameCount]
        rfl
      refine ⟨?_, ?_, ?_, fun k hk => ⟨?_, ?_⟩, fun hdown => ?_, fun _ => by rw [hm]; rfl, fun hno => ?_,
        fun _ _ => ⟨fun v hv _ => ?_, fun hno => ?_⟩, hkeeps⟩
      · rw [hlane, loop_of_moved hmoved, hloop']
      · rw [hlane, loop_of_moved hmoved, hloop']
      · rw [hlane, hmoved.presence, hafter']
      · rw [hm, setLaneMon_lane_ne _ hk]
        exact (setLaneMon_lane_ne _ hk _).trans (hother k hk)
      · rw [hasm]
        have hv : l.val ≠ k.val := fun e => hk (Fin.ext e.symm)
        simp [hv]
      · rw [hd] at hdown
        cases hdown
      · exact absurd ⟨hd, hocc.mpr hoff⟩ hno
      · rw [hstart, hv] at hu
        cases hu
        exact ⟨by rw [hlane, hmoved.lastLength, hreported, hreport], hasm⟩
      · rw [hstart] at hu
        rw [hpresence] at hp
        exact absurd hno (not_or.mpr ⟨by rw [hu]; exact Option.some_ne_none u, fun hn => hp.elim hn.1 hn.2⟩)
    · have hlane : ((s.filteredTo l d f stuck).presenceTakes l d occ ct true).loops[l] = m := by
        rw [hm]
        exact setLaneMon_lane _ _ _
      have hasm : ((s.filteredTo l d f stuck).presenceTakes l d occ ct true).asm = s.asm := by rw [hm]; rfl
      refine ⟨?_, ?_, ?_, fun k hk => ⟨?_, by rw [hasm]⟩, fun hd hf hidle => ?_, fun _ => by rw [hm]; rfl, fun _ => hasm,
        fun hup hf => ⟨fun u hu hp => ?_, fun _ => ⟨?_, hasm⟩⟩, hkeeps⟩
      · rw [hlane, loop_of_moved hmoved, hloop]
      · rw [hlane, loop_of_moved hmoved, hloop]
      · rw [hlane, hmoved.presence, hafter]
      · rw [hm, setLaneMon_lane_ne _ hk, hother k hk]
      · exact absurd ⟨hd, hfree.mp hf, hpresence.trans hidle⟩ hright
      · rcases hsilent hup (hocc.mp hf) with hnone | ⟨hne, hns⟩
        · rw [hstart, hu] at hnone
          cases hnone
        · rw [hpresence] at hne hns
          exact absurd hp (not_or.mpr ⟨hne, hns⟩)
      · rw [hlane, hmoved.lastLength, hlength]
  · have hnone : s.acceptedChange l d = none := by
      simp only [State.acceptedChange, hchange]
      exact if_neg (Bool.eq_false_iff.mp (not_spanPassed_of_broughtForward hforward))
    simp only [exec, execLoopChangeAccept, hnone, whileRunning, ite_self]

/-! ### The loop speed attempt, stuck loops and the timers -/

theorem roundHalfUp_eq (x d : Nat) : roundHalfUp x d = (x * 2 + d) / (2 * d) := rfl

/-- The machine's move at a loop speed attempt (R30). -/
theorem downOccupied_attempt {s : State} {l : LaneIx} {u : Tick} (hp : s.loops[l].presence = .entering)
    (hu : s.loops[l].uOnset = some u) (hpaired : s.loops[l].paired = false) (ct : Tick) :
    s.downOccupied l ct = s.setLaneMon l
      { s.loops[l] with
        dView := true, dOnset := some ct, paired := true, presence := .spanning, stallStart := some s.now,
        clearStart := none, idleSince := none,
        speed := (loopSpeed (s.laneEntry l).loopSpacing (elapsed u ct)).map (fun v => (v, s.now)) } := by
  simp only [State.downOccupied, hp, LaneMonitor.attempt, hu, hpaired, LaneMonitor.enter]
  rfl

theorem keepsAllBut_filteredTo (s : State) (l : LaneIx) (d : LoopPos) (f : Filtered) (stuck : Option Tick) :
    KeepsAllBut [.loops] s (s.filteredTo l d f stuck) := .setLoops s _

/-- Settles O16: the attempt is made by D OCCUPIED in ENTERING, and its speed is the rounded quotient in the range. -/
theorem loopSpeedAttempt : Obligations.LoopSpeedAttempt := by
  intro s l ct u hruns hready hfree hentering hu hpaired
  have hlane := filteredTo_lane s l .down .occupied (some ct)
  have haccept : s.acceptChange l .down ct = (s.filteredTo l .down .occupied (some ct)).downOccupied l ct :=
    acceptChange_free (d := .down) hfree ct
  rw [downOccupied_attempt (u := u) (by rw [hlane]; exact hentering) (by rw [hlane]; exact hu)
    (by rw [hlane]; exact hpaired)] at haccept
  refine ⟨_, exec_loopChangeAccept hruns hready, ?_⟩
  rw [haccept]
  generalize hm : ({ (s.filteredTo l .down .occupied (some ct)).loops[l] with
    dView := true, dOnset := some ct, paired := true, presence := .spanning,
    stallStart := some (s.filteredTo l .down .occupied (some ct)).now, clearStart := none, idleSince := none,
    speed := (loopSpeed ((s.filteredTo l .down .occupied (some ct)).laneEntry l).loopSpacing (elapsed u ct)).map
      (fun v => (v, (s.filteredTo l .down .occupied (some ct)).now)) } : LaneMonitor) = m
  have hspeed : m.speed = (loopSpeed (s.laneEntry l).loopSpacing (elapsed u ct)).map (fun v => (v, s.now)) := hm ▸ rfl
  rw [setLaneMon_lane]
  refine ⟨hm ▸ rfl, hm ▸ rfl, hm ▸ rfl, hm ▸ rfl, fun v hpos hv => ?_, fun hzero => ?_, ?_⟩
  · rw [hspeed, loopSpeed, if_neg (Nat.pos_iff_ne_zero.mp hpos), roundHalfUp_eq, ← hv]
    by_cases hrange : 1500 ≤ v ∧ v ≤ 60000
    · simp only [hrange, and_self, if_true, Option.map_some]
    · simp only [hrange, if_false, Option.map_none]
  · rw [hspeed, loopSpeed, if_pos hzero]
    rfl
  · exact (keepsAllBut_filteredTo s l _ _ _).trans (.setLoops _ _)

/-- A FREE given to the machine without a report is a move of the lane alone (R25). -/
theorem presenceTakes_silent (s : State) (l : LaneIx) (d : LoopPos) (ct : Tick) :
    ∃ m, s.presenceTakes l d false ct false = s.setLaneMon l m ∧ Moved d false s.loops[l] m := by
  cases d with
  | up => exact upFree_moves s l ct
  | down => exact downFree_moves s l ct

/-- Settles O17: the stuck expiry is a FREE without a report, and the FREE that ends STUCK is not passed on. -/
theorem stuckLoop : Obligations.StuckLoop := by
  refine ⟨fun s l d t0 hruns hstart hpassed => ?_, fun s l d ct hruns hready hstuck => ?_⟩
  · have hdue : s.stuckDue l d = true := by simp only [State.stuckDue, hstart, hpassed]
    generalize hu : (s.setLaneMon l (s.loops[l].setLoop d
      { s.loops[l].loop d with filtered := .stuck, stuckStart := none })).raise .loopStuck (loopBit l d) = u
    have hlane : u.loops[l] = s.loops[l].setLoop d { s.loops[l].loop d with filtered := .stuck, stuckStart := none } := by
      rw [← hu, State.raise_loops, setLaneMon_lane]
    have hother : ∀ k, k ≠ l → u.loops[k] = s.loops[k] := fun k hk => by
      rw [← hu, State.raise_loops, setLaneMon_lane_ne _ hk]
    have hevent : OneEvent .loopStuck (loopBit l d) s u := hu ▸ oneEvent_raise _ _ rfl
    have hkeeps : KeepsAllBut [.loops, .ports] s u :=
      hu ▸ ((KeepsAllBut.setLoops s _).mono (by simp)).trans ((KeepsAllBut.raise _ _ _).mono (by simp))
    obtain ⟨m, hm, hmoved⟩ := presenceTakes_silent u l d s.now
    refine ⟨u.setLaneMon l m, ?_, ?_, ?_, ?_, ?_, fun k hk => ?_, hevent, hkeeps.trans ((KeepsAllBut.setLoops _ _).mono (by simp))⟩
    · rw [← hm, ← hu]
      exact whenDue_of_due hruns hdue _
    · rw [setLaneMon_lane, loop_of_moved hmoved, hlane, setLoop_loop]
    · rw [setLaneMon_lane, loop_of_moved hmoved, hlane, setLoop_loop]
    · rw [setLaneMon_lane, hmoved.presence, hlane, presenceAfter_setLoop]
    · rw [setLaneMon_lane, hmoved.lastLength, hlane]
      cases d <;> rfl
    · rw [setLaneMon_lane_ne _ hk, hother k hk]
  · rw [exec_loopChangeAccept hruns hready, acceptChange_stuck hstuck]
    rfl

theorem stallDue_iff {s : State} {l : LaneIx} {t0 : Tick} (h : s.loops[l].stallStart = some t0) :
    s.stallDue l = s.spanPassed t0 (fun p => 8000 * p.lanes[l].stallS) := by
  simp only [State.stallDue, h]
  rfl

/-- Settles O18: each timer of a lane, and the stall expiry that waits for the tick after a commit. -/
theorem laneTimersExpire : Obligations.LaneTimersExpire := by
  intro s l t0 hruns
  refine ⟨fun v hv hpassed => ?_, fun hstall hforward => ?_, fun hstall hspan => ?_, fun hclear hpassed => ?_⟩
  · have hdue : s.loopSpeedDue l = true := by simp only [State.loopSpeedDue, hv, hpassed]
    exact whenDue_of_due hruns hdue _
  · have hdue : s.stallDue l = false := (stallDue_iff hstall).trans (not_spanPassed_of_broughtForward hforward)
    simp only [exec, execStallExpiry, whenDue, hdue, Bool.false_eq_true, if_false, whileRunning_of_runs hruns]
  · have hdue : s.stallDue l = true := (stallDue_iff hstall).trans ((spanPassed_iff ..).mpr hspan)
    refine ⟨s.congest l, whenDue_of_due hruns hdue _, ?_⟩
    have hkeeps := keepsAllBut_congest s l
    cases hc : s.loops[l].congested with
    | true =>
      have heq : s.congest l = s.setLaneMon l { s.loops[l] with stallStart := none } := by
        simp only [State.congest, hc, if_true]
      rw [heq] at hkeeps ⊢
      rw [setLaneMon_lane]
      exact ⟨hc, rfl, rfl, hkeeps, fun k hk => ⟨setLaneMon_lane_ne _ hk _, rfl⟩, fun _ => ⟨rfl, rfl⟩, fun h => by cases h⟩
    | false =>
      have heq : s.congest l = ((s.setLaneMon l { s.loops[l] with
          stallStart := none, congested := true, idleSince := none }).setFrame l
            ((s.asm.frames[l]).map (fun f => { f with flags := f.flags ||| Flag.congested.one }))).raiseAt
          .laneCongested l.val := by
        simp only [State.congest, hc, Bool.false_eq_true, if_false]
      rw [heq] at hkeeps ⊢
      rw [raiseAt_loops, setFrame_loops, setLaneMon_lane]
      refine ⟨rfl, rfl, rfl, hkeeps, fun k hk => ⟨?_, ?_⟩, fun h => absurd h (by simp), fun _ => ⟨?_, ?_⟩⟩
      · rw [setLaneMon_lane_ne _ hk]
      · rw [State.raiseAt_asm, setFrame_frames_ne _ hk]
        rfl
      · exact oneEvent_raise _ _ rfl
      · rw [State.raiseAt_asm, setFrame_frames, if_pos rfl]
        rfl
  · have hdue : s.clearDue l = true := by simp only [State.clearDue, hclear, hpassed]
    refine ⟨_, whenDue_of_due hruns hdue _, rfl, oneEvent_raise _ _ rfl, ?_⟩
    exact ((KeepsAllBut.setLoops s _).mono (by simp)).trans ((KeepsAllBut.raiseAt _ _ _).mono (by simp))

end Sys2Proof.Machine
end

section
/-! The converter and the temperature unit (chapter 3): selection, the zero reference, probe results and lane
temperatures. -/

namespace Sys2Proof.Machine

open Sys2Proof

/-! ### Selection (R42) -/

/-- A busy converter selects nothing. -/
theorem selectInput_busy {s : State} (h : s.temp.conv ≠ none) : s.selectInput = s := by
  obtain ⟨c, hc⟩ := Option.ne_none_iff_exists'.mp h
  simp only [State.selectInput, hc]

/-- An idle converter without a waiting slot takes the first input of the pass list. -/
theorem selectInput_list {s : State} (h : s.temp.conv = none) (hslot : s.temp.slot = none) :
    s.selectInput = s.setTemp { s.temp with
      conv := (s.temp.passList.head?).map (fun i => { input := i, origin := .scan, start := s.now }),
      passList := s.temp.passList.tail } := by
  cases hl : s.temp.passList with
  | nil =>
    calc s.selectInput = s := by simp only [State.selectInput, h, hslot, hl]
      _ = s.setTemp { s.temp with conv := none, passList := [] } := by
        rw [← h, ← hl]
        rfl
  | cons i rest => simp only [State.selectInput, h, hslot, hl, List.head?_cons, Option.map_some, List.tail_cons]

/-- An idle converter takes the waiting request of the slot first. -/
theorem selectInput_slot {s : State} {r : SlotRequest} (h : s.temp.conv = none) (hslot : s.temp.slot = some r)
    (hr : r.selected = false) :
    s.selectInput = s.setTemp { s.temp with
      conv := some { input := .probe r.probe, origin := .slot, start := s.now },
      slot := some { r with selected := true } } := by
  simp only [State.selectInput, h, hslot, hr, Bool.false_eq_true, if_false]

/-- What selection never moves, and that it leaves an empty slot empty. -/
theorem selectInput_keeps (s : State) :
    s.selectInput.temp = { s.temp with
        conv := s.selectInput.temp.conv, passList := s.selectInput.temp.passList, slot := s.selectInput.temp.slot }
      ∧ (s.temp.slot = none → s.selectInput.temp.slot = none) := by
  cases hc : s.temp.conv with
  | some c =>
    rw [selectInput_busy (by simp [hc])]
    exact ⟨rfl, id⟩
  | none =>
    cases hs : s.temp.slot with
    | none =>
      rw [selectInput_list hc hs]
      exact ⟨rfl, fun _ => hs⟩
    | some r =>
      refine ⟨?_, fun h => by simp at h⟩
      unfold State.selectInput
      simp only [hc, hs]
      split
      · split <;> rfl
      · rfl

/-- The converter returns to IDLE and selects (R42). -/
def State.freeConverter (s : State) : State :=
  (s.setTemp { s.temp with conv := none }).selectInput

theorem keepsAllBut_freeConverter (s : State) : KeepsAllBut [.temp] s s.freeConverter :=
  (KeepsAllBut.setTemp s _).trans (keepsAllBut_selectInput _)

theorem freeConverter_probes (s : State) : s.freeConverter.temp.probes = s.temp.probes := by
  rw [State.freeConverter, (selectInput_keeps _).1]
  rfl

theorem freeConverter_lanes (s : State) : s.freeConverter.temp.lanes = s.temp.lanes := by
  rw [State.freeConverter, (selectInput_keeps _).1]
  rfl

theorem freeConverter_slot {s : State} (h : s.temp.slot = none) : s.freeConverter.temp.slot = none :=
  (selectInput_keeps (s.setTemp { s.temp with conv := none })).2 h

theorem freeConverter_port (s : State) (p : Port) : s.freeConverter.port p = s.port p := by
  have h : s.freeConverter.ports = s.ports := keepsAllBut_freeConverter s .ports (by simp)
  cases p <;> simp only [State.port, h]

/-- The end of a conversion, once its 160 ticks have passed. -/
theorem exec_conversionComplete {s : State} {c : Conversion} (hruns : s.heldLow = false) (hc : s.temp.conv = some c)
    (hpassed : hasPassed c.start 160 s.now = true) (code : BitVec 12) :
    exec (.conversionComplete code) s = .next (s.deliverResult c code).freeConverter := by
  have hdone : s.conversionDone = some c := by simp only [State.conversionDone, hc, hpassed, if_true]
  simp only [exec, execConversionComplete, hdone, whileRunning_of_runs hruns]
  rfl

/-! ### The pass and the zero reference (R42, R44, R46) -/

theorem passDue_of_passed {s : State} {t0 : Tick} (h : s.temp.lastPass = some t0)
    (hpassed : hasPassed t0 (8000 * s.prof.active.site.scanPeriod) s.now = true) : s.passDue = true := by
  simp only [State.passDue, h]
  exact hpassed

theorem takeZero_in {t : TempUnit} {z : Int} (h : z.natAbs ≤ 64) :
    t.takeZero z = { t with lastZero := some z, offset := z, zeroFault := false } := by
  simp only [TempUnit.takeZero, h, if_true]

theorem takeZero_out {t : TempUnit} {z : Int} (h : 64 < z.natAbs) :
    t.takeZero z = { t with lastZero := some z, zeroFault := true, zeroFaults := min (t.zeroFaults + 1) 65535 } := by
  simp only [TempUnit.takeZero, not_le.mpr h, if_false]
  rfl

/-- The zero reference moves its own values alone (R46). -/
theorem takeZero_keeps (t : TempUnit) (z : Int) :
    t.takeZero z = { t with
      lastZero := some z, offset := (t.takeZero z).offset, zeroFault := (t.takeZero z).zeroFault,
      zeroFaults := (t.takeZero z).zeroFaults } := by
  unfold TempUnit.takeZero
  split <;> rfl

/-- Settles O19: a pass start during a pass, on an idle and on a busy converter; and the zero reference's result. -/
theorem passAndZeroReference : Obligations.PassAndZeroReference := by
  refine ⟨fun s t0 hruns hlast hpassed => ⟨fun hin => ?_, fun hout hconv hslot => ?_, fun hout hconv => ?_⟩,
    fun s code c hruns hc hinput hpassed hslot => ?_⟩
  · refine (whenDue_of_due hruns (passDue_of_passed hlast hpassed) _).trans ?_
    simp only [State.startPass, hin, if_true]
    rfl
  · refine (whenDue_of_due hruns (passDue_of_passed hlast hpassed) _).trans ?_
    simp only [State.startPass, hout, Bool.false_eq_true, if_false]
    exact congrArg _ (selectInput_list (s := s.setTemp _) hconv hslot)
  · refine (whenDue_of_due hruns (passDue_of_passed hlast hpassed) _).trans ?_
    simp only [State.startPass, hout, Bool.false_eq_true, if_false]
    exact congrArg _ (selectInput_busy (s := s.setTemp _) hconv)
  · have hdeliver : s.deliverResult c code = s.setTemp (s.temp.takeZero code.toInt) := by
      simp only [State.deliverResult, hinput]
    have hkeeps := takeZero_keeps s.temp code.toInt
    have hslot' : (s.temp.takeZero code.toInt).slot = none := by
      rw [hkeeps]
      exact hslot
    refine ⟨_, exec_conversionComplete hruns hc hpassed code, ?_⟩
    rw [hdeliver, State.freeConverter, selectInput_list rfl hslot']
    refine ⟨by rw [hkeeps]; rfl, fun hin => by rw [takeZero_in hin]; exact ⟨rfl, rfl, rfl⟩,
      fun hout => by rw [takeZero_out hout]; exact ⟨rfl, rfl, rfl⟩, by rw [hkeeps]; rfl, by rw [hkeeps]; rfl,
      by rw [hkeeps]; rfl, by rw [hkeeps]; rfl, by rw [hkeeps]; rfl, by rw [hkeeps]; rfl, hslot', ?_⟩
    exact ((KeepsAllBut.setTemp s _).trans (.setTemp _ _)).trans (.setTemp _ _)

/-! ### Lane temperatures (R56, R58) -/

/-- A fold over distinct indexes writes each entry once, by the value it had: `get` reads an entry, `write i` writes entry
`i` and leaves the others, and a property of the state is kept throughout. -/
theorem foldl_entries {ι α : Type} {get : State → ι → α} {g : ι → α → α} {write : State → ι → State}
    {Inv : State → Prop} [DecidableEq ι] (hinv : ∀ t i, Inv t → Inv (write t i))
    (hself : ∀ t i, Inv t → get (write t i) i = g i (get t i)) (hother : ∀ t i j, j ≠ i → get (write t i) j = get t j) :
    ∀ (is : List ι), is.Nodup → ∀ s, Inv s → ∀ j,
      get (is.foldl write s) j = if j ∈ is then g j (get s j) else get s j
  | [], _, s, _, j => by simp
  | i :: is, hnodup, s, hs, j => by
    obtain ⟨hi, his⟩ := List.nodup_cons.mp hnodup
    rw [List.foldl_cons, foldl_entries hinv hself hother is his (write s i) (hinv s i hs) j]
    by_cases hj : j = i
    · subst hj
      rw [if_neg hi, if_pos (List.mem_cons_self ..), hself s j hs]
    · simp only [hother s i j hj, List.mem_cons, hj, false_or]

theorem setLaneTemp_temp (s : State) (l : LaneIx) (x : LaneTemp) :
    (s.setLaneTemp l x).temp = { s.temp with lanes := s.temp.lanes.set l x } := by
  unfold State.setLaneTemp
  dsimp only
  split <;> split <;> rfl

theorem setLaneTemp_cal (s : State) (l : LaneIx) (x : LaneTemp) : (s.setLaneTemp l x).cal[l] =
    if s.temp.lanes[l].status = .live ∧ x.status ≠ .live then s.cal[l].clear else s.cal[l] := by
  unfold State.setLaneTemp
  dsimp only
  split <;> split <;> simp [State.setLaneCal]

theorem setLaneTemp_cal_ne (s : State) {l k : LaneIx} (h : k ≠ l) (x : LaneTemp) :
    (s.setLaneTemp l x).cal[k] = s.cal[k] := by
  have hv : l.val ≠ k.val := fun e => h (Fin.ext e.symm)
  unfold State.setLaneTemp
  dsimp only
  split <;> split <;> simp [State.setLaneCal, hv]

/-- A lane's temperature and its calibration state. -/
def State.laneClimate (s : State) (l : LaneIx) : LaneTemp × LaneCal :=
  (s.temp.lanes[l], s.cal[l])

/-- What a re-evaluation with the source found makes of a lane (R56, R143). -/
def climateAfter (found : Option (TempSource × Int)) (x : LaneTemp × LaneCal) : LaneTemp × LaneCal :=
  (x.1.evaluate found,
    if x.1.status = .live ∧ (x.1.evaluate found).status ≠ .live then x.2.clear else x.2)

theorem evaluateLane_climate (s : State) (l : LaneIx) :
    (s.evaluateLane l).laneClimate l = climateAfter (s.findSource l) (s.laneClimate l) := by
  refine Prod.ext ?_ (setLaneTemp_cal s l _)
  change (s.setLaneTemp l _).temp.lanes[l] = _
  rw [setLaneTemp_temp]
  exact Vector.getElem_set_self ..

theorem evaluateLane_climate_ne (s : State) {l k : LaneIx} (h : k ≠ l) :
    (s.evaluateLane l).laneClimate k = s.laneClimate k := by
  refine Prod.ext ?_ (setLaneTemp_cal_ne s h _)
  change (s.setLaneTemp l _).temp.lanes[k] = _
  rw [setLaneTemp_temp]
  have hv : l.val ≠ k.val := fun e => h (Fin.ext e.symm)
  simp [State.laneClimate, hv]

theorem allLanes_nodup : allLanes.Nodup := by decide

theorem mem_allLanes (l : LaneIx) : l ∈ allLanes := by
  revert l
  decide

theorem evaluateFold_probes (ls : List LaneIx) (s : State) :
    (ls.foldl State.evaluateLane s).temp.probes = s.temp.probes := by
  induction ls generalizing s with
  | nil => rfl
  | cons l ls ih => rw [List.foldl_cons, ih, State.evaluateLane, setLaneTemp_temp]

theorem evaluateLanes_probes (s : State) : s.evaluateLanes.temp.probes = s.temp.probes := by
  unfold State.evaluateLanes
  exact evaluateFold_probes _ _

theorem findSource_congr {s t : State} (hprobes : t.temp.probes = s.temp.probes) (hprof : t.prof = s.prof) (l : LaneIx) :
    t.findSource l = s.findSource l := by
  have hentry : t.laneEntry l = s.laneEntry l := by simp only [State.laneEntry, hprof]
  unfold State.findSource
  simp only [hentry, hprobes]

/-- Every lane is re-evaluated with the source it finds before any is (R56). -/
theorem evaluateLanes_climate (s : State) (l : LaneIx) :
    s.evaluateLanes.laneClimate l = climateAfter (s.findSource l) (s.laneClimate l) := by
  have hfind : ∀ t : State, t.temp.probes = s.temp.probes ∧ t.prof = s.prof → ∀ k, t.findSource k = s.findSource k :=
    fun t ⟨hprobes, hprof⟩ => findSource_congr hprobes hprof
  have hstep : ∀ (t : State) (i : LaneIx), t.temp.probes = s.temp.probes ∧ t.prof = s.prof →
      (t.evaluateLane i).temp.probes = s.temp.probes ∧ (t.evaluateLane i).prof = s.prof := fun t i ⟨hprobes, hprof⟩ =>
    ⟨by rw [State.evaluateLane, setLaneTemp_temp]; exact hprobes,
      (keepsAllBut_setLaneTemp t i _ .prof (by simp [tempParts])).trans hprof⟩
  have h := foldl_entries (get := State.laneClimate) (g := fun k => climateAfter (s.findSource k)) (write := State.evaluateLane)
    (Inv := fun t => t.temp.probes = s.temp.probes ∧ t.prof = s.prof) hstep
    (fun t i hi => by rw [evaluateLane_climate, hfind t hi]) (fun t i j hj => evaluateLane_climate_ne t hj)
    allLanes allLanes_nodup s ⟨rfl, rfl⟩ l
  rwa [if_pos (mem_allLanes l)] at h

theorem evaluate_unsourced (old : LaneTemp) : Unsourced old (old.evaluate none) := by
  unfold Unsourced
  cases h : old.status <;> simp [LaneTemp.evaluate, h]

/-- What a lane takes from the source it finds is what R56 gives it. -/
theorem follows_findSource (s : State) (l : LaneIx) (old : LaneTemp) :
    Follows s.temp.probes (s.laneEntry l) old (old.evaluate (s.findSource l)) := by
  unfold Follows State.findSource
  dsimp only
  cases s.temp.probes[(s.laneEntry l).primary].value with
  | some v => rfl
  | none =>
    cases (s.laneEntry l).alternate with
    | none => exact evaluate_unsourced old
    | some q =>
      dsimp only
      split
      · exact evaluate_unsourced old
      · cases s.temp.probes[q].value with
        | some v => rfl
        | none => exact evaluate_unsourced old

/-- Every lane temperature follows the probes (R56), and a lane that leaves LIVE loses window and anchor (R143). -/
theorem evaluateLanes_follows (s : State) (l : LaneIx) :
    Follows s.evaluateLanes.temp.probes (s.laneEntry l) s.temp.lanes[l] s.evaluateLanes.temp.lanes[l]
      ∧ s.evaluateLanes.cal[l] = if s.temp.lanes[l].status = .live ∧ s.evaluateLanes.temp.lanes[l].status ≠ .live
          then { s.cal[l] with window := [], anchor := none } else s.cal[l] := by
  have h := evaluateLanes_climate s l
  simp only [State.laneClimate, climateAfter, Prod.mk.injEq] at h
  obtain ⟨hlane, hcal⟩ := h
  rw [evaluateLanes_probes, hcal, hlane]
  exact ⟨follows_findSource s l _, rfl⟩

/-! ### A probe's result (R47, R50 to R55) -/

theorem setProbe_temp (s : State) (q : ProbeIx) (x : Probe) :
    (s.setProbe q x).temp = { s.temp with probes := s.temp.probes.set q x } := by
  unfold State.setProbe
  dsimp only
  split <;> rfl

/-- A result as it is processed (R50, R54). -/
def State.resultOf (s : State) (q : ProbeIx) (raw : Nat) : Probe × ProbeOutcome :=
  s.temp.probes[q].process s.temp.zeroFault raw (correctedRaw s.temp.offset raw)
    (curveTemp s.prof.active.probes q (correctedRaw s.temp.offset raw))

theorem takeProbeResult_eq (s : State) (q : ProbeIx) (raw : Nat) : s.takeProbeResult q raw =
    if s.temp.zeroFault then s.setProbe q (s.resultOf q raw).1 else (s.setProbe q (s.resultOf q raw).1).evaluateLanes := rfl

/-- A result moves its own probe alone among the probes. -/
theorem takeProbeResult_probes (s : State) (q : ProbeIx) (raw : Nat) :
    (s.takeProbeResult q raw).temp.probes = s.temp.probes.set q (s.resultOf q raw).1 := by
  rw [takeProbeResult_eq]
  split
  · rw [setProbe_temp]
  · rw [evaluateLanes_probes, setProbe_temp]

theorem takeProbeResult_probe (s : State) (q : ProbeIx) (raw : Nat) :
    (s.takeProbeResult q raw).temp.probes[q] = (s.resultOf q raw).1 := by
  rw [takeProbeResult_probes]
  exact Vector.getElem_set_self _

theorem takeProbeResult_probe_ne (s : State) {q k : ProbeIx} (h : k ≠ q) (raw : Nat) :
    (s.takeProbeResult q raw).temp.probes[k] = s.temp.probes[k] := by
  have hv : q.val ≠ k.val := fun e => h (Fin.ext e.symm)
  rw [takeProbeResult_probes]
  simp [hv]

/-- A processed result leaves its raw code and its outcome with the probe (R49). -/
theorem process_last (x : Probe) (zeroFault : Bool) (raw corrected : Nat) (v : Int) :
    (x.process zeroFault raw corrected v).1.lastRaw = some raw
      ∧ (x.process zeroFault raw corrected v).1.lastOutcome = some (x.process zeroFault raw corrected v).2 := ⟨rfl, rfl⟩

theorem process_good {raw corrected : Nat} (h1 : 16 ≤ raw) (h2 : raw ≤ 4079) (h3 : 16 ≤ corrected) (h4 : corrected ≤ 4079)
    (x : Probe) (v : Int) : x.process false raw corrected v =
      ({ (x.good v).1 with lastRaw := some raw, lastOutcome := some (x.good v).2 }, (x.good v).2) := by
  have hbad : (codeIsBad raw || codeIsBad corrected) = false := by
    simp only [codeIsBad, Bool.or_eq_false_iff, decide_eq_false_iff_not]
    omega
  simp only [Probe.process, hbad, Bool.false_eq_true, if_false]

theorem process_bad {raw corrected : Nat} (h : raw < 16 ∨ 4079 < raw ∨ corrected < 16 ∨ 4079 < corrected) (x : Probe)
    (v : Int) : x.process false raw corrected v =
      ({ x.bad.1 with lastRaw := some raw, lastOutcome := some x.bad.2 }, x.bad.2) := by
  have hbad : (codeIsBad raw || codeIsBad corrected) = true := by
    simp only [codeIsBad, Bool.or_eq_true, decide_eq_true_eq]
    omega
  simp only [Probe.process, hbad, Bool.false_eq_true, if_false, if_true]

theorem process_zeroFault (x : Probe) (raw corrected : Nat) (v : Int) : x.process true raw corrected v =
    ({ x with lastRaw := some raw, lastOutcome := some .zeroFault }, .zeroFault) := rfl

section Events

theorem raisedAt_self (s : State) (k : EventClass) (i : Nat) (p : Port) :
    ((s.raiseAt k i).port p).events[k.index] = cellRaised (itemBit i) (s.port p).events[k.index] := by
  rw [State.raiseAt, raise_port]
  exact (raisedOnce_raise k (itemBit i) (s.port p)).1

theorem raisedAt_other (s : State) {k k' : EventClass} (h : k'.index ≠ k.index) (i : Nat) (p : Port) :
    ((s.raiseAt k i).port p).events[k'.index] = (s.port p).events[k'.index] := by
  rw [State.raiseAt, raise_port]
  exact (raisedOnce_raise k (itemBit i) (s.port p)).2 _ h

theorem setLaneTemp_event (s : State) (l : LaneIx) (x : LaneTemp) (p : Port) :
    ((s.setLaneTemp l x).port p).events[EventClass.probeState.index] = (s.port p).events[EventClass.probeState.index] := by
  have hraise : ∀ t : State, ((t.raiseAt .laneTemp l.val).port p).events[EventClass.probeState.index]
      = (t.port p).events[EventClass.probeState.index] := fun t => raisedAt_other t (by decide) _ p
  unfold State.setLaneTemp
  dsimp only
  split <;> split <;> simp only [State.port_setLaneCal, hraise, State.port_setTemp]

theorem evaluateFold_event (ls : List LaneIx) (s : State) (p : Port) :
    ((ls.foldl State.evaluateLane s).port p).events[EventClass.probeState.index]
      = (s.port p).events[EventClass.probeState.index] := by
  induction ls generalizing s with
  | nil => rfl
  | cons l ls ih => rw [List.foldl_cons, ih, State.evaluateLane, setLaneTemp_event]

/-- The lanes' re-evaluation raises no PROBE_STATE (R59). -/
theorem evaluateLanes_event (s : State) (p : Port) :
    (s.evaluateLanes.port p).events[EventClass.probeState.index] = (s.port p).events[EventClass.probeState.index] := by
  unfold State.evaluateLanes
  exact evaluateFold_event _ _ _

/-- A result that changes the probe's state raises PROBE_STATE (R59). -/
theorem takeProbeResult_event {s : State} {q : ProbeIx} {raw : Nat}
    (h : (s.resultOf q raw).1.state ≠ s.temp.probes[q].state) (p : Port) :
    ((s.takeProbeResult q raw).port p).events[EventClass.probeState.index]
      = cellRaised (itemBit q.val) (s.port p).events[EventClass.probeState.index] := by
  have hset : ((s.setProbe q (s.resultOf q raw).1).port p).events[EventClass.probeState.index]
      = cellRaised (itemBit q.val) (s.port p).events[EventClass.probeState.index] := by
    simp only [State.setProbe, if_pos h, raisedAt_self, State.port_setTemp]
  rw [takeProbeResult_eq]
  split
  · exact hset
  · rw [evaluateLanes_event, hset]

end Events

/-- A scanned probe's result is taken, unless a commit has disabled the probe since (R42, R55). -/
theorem exec_scanned {s : State} {c : Conversion} {q : ProbeIx} (hruns : s.heldLow = false) (hc : s.temp.conv = some c)
    (hinput : c.input = .probe q) (horigin : c.origin = .scan) (hvoided : c.voided = false)
    (hpassed : hasPassed c.start 160 s.now = true) (hstate : s.temp.probes[q].state ≠ .absent) (code : BitVec 12) :
    exec (.conversionComplete code) s = .next (s.takeProbeResult q code.toNat).freeConverter := by
  have hdeliver : s.deliverResult c code = s.takeProbeResult q code.toNat := by
    simp only [State.deliverResult, hinput, horigin, hvoided, Bool.false_eq_true, false_or, if_neg hstate]
  rw [exec_conversionComplete hruns hc hpassed, hdeliver]

/-- The result of a probe the set has disabled is discarded (R45, R55). -/
theorem exec_scanned_discarded {s : State} {c : Conversion} {q : ProbeIx} (hruns : s.heldLow = false)
    (hc : s.temp.conv = some c) (hinput : c.input = .probe q) (horigin : c.origin = .scan)
    (hpassed : hasPassed c.start 160 s.now = true) (h : c.voided = true ∨ s.temp.probes[q].state = .absent)
    (code : BitVec 12) : exec (.conversionComplete code) s = .next s.freeConverter := by
  have hdeliver : s.deliverResult c code = s := by
    simp only [State.deliverResult, hinput, horigin, if_pos h]
  rw [exec_conversionComplete hruns hc hpassed, hdeliver]

theorem keepsAllBut_scanned (s : State) (q : ProbeIx) (raw : Nat) :
    KeepsAllBut tempParts s (s.takeProbeResult q raw).freeConverter :=
  (keepsAllBut_takeProbeResult s q raw).trans ((keepsAllBut_freeConverter _).mono (by simp [tempParts]))

theorem scanned_probe (s : State) (q : ProbeIx) (raw : Nat) :
    (s.takeProbeResult q raw).freeConverter.temp.probes[q] = (s.resultOf q raw).1 := by
  rw [freeConverter_probes, takeProbeResult_probe]

theorem scanned_probe_ne (s : State) {q k : ProbeIx} (h : k ≠ q) (raw : Nat) :
    (s.takeProbeResult q raw).freeConverter.temp.probes[k] = s.temp.probes[k] := by
  rw [freeConverter_probes, takeProbeResult_probe_ne s h]

/-- The result of a good code: the state's case of R53 or R54. -/
theorem resultOf_good {s : State} {q : ProbeIx} {code raw : Nat} (hzero : s.temp.zeroFault = false) (h1 : 16 ≤ code)
    (h2 : code ≤ 4079) (hraw : raw = (max 0 (min 4095 ((code : Int) - s.temp.offset))).toNat) (h3 : 16 ≤ raw)
    (h4 : raw ≤ 4079) : (s.resultOf q code).1 =
      { (s.temp.probes[q].good (curveTemp s.prof.active.probes q raw)).1 with
        lastRaw := some code,
        lastOutcome := some (s.temp.probes[q].good (curveTemp s.prof.active.probes q raw)).2 } := by
  have hcorrected : correctedRaw s.temp.offset code = raw := hraw.symm
  rw [State.resultOf, hzero, hcorrected, process_good h1 h2 h3 h4]

theorem resultOf_bad {s : State} {q : ProbeIx} {code raw : Nat} (hzero : s.temp.zeroFault = false)
    (hraw : raw = (max 0 (min 4095 ((code : Int) - s.temp.offset))).toNat)
    (h : code < 16 ∨ 4079 < code ∨ raw < 16 ∨ 4079 < raw) : (s.resultOf q code).1 =
      { s.temp.probes[q].bad.1 with lastRaw := some code, lastOutcome := some s.temp.probes[q].bad.2 } := by
  have hcorrected : correctedRaw s.temp.offset code = raw := hraw.symm
  rw [State.resultOf, hzero, hcorrected, process_bad h]

/-- A good result in WARMUP (R53). -/
theorem good_warmup {x : Probe} (h : x.state = .warmup) (v : Int) : x.good v =
    if x.warm ≤ 2 then ({ x with badRun := 0, warm := x.warm + 1 }, .warmup)
    else ({ x with state := .valid, badRun := 0, warm := 0, spike := 0, filtered := some v }, .seeded) := by
  simp only [Probe.good, h]

/-- A good result in VALID (R54). -/
theorem good_valid {x : Probe} {f : Int} (h : x.state = .valid) (hf : x.filtered = some f) (v : Int) : x.good v =
    if (v - f).natAbs ≤ 100 then
      ({ x with badRun := 0, filtered := some (f + roundHalfAway (v - f) 8), spike := 0 }, .filtered)
    else if x.spike ≤ 1 then ({ x with badRun := 0, spike := x.spike + 1 }, .spike)
    else ({ x with badRun := 0, filtered := some v, spike := 0 }, .seeded) := by
  simp only [Probe.good, h, Probe.goodValid, hf, Option.getD_some]

theorem good_fault {x : Probe} (h : x.state = .fault) (v : Int) :
    x.good v = ({ x with state := .warmup, warm := 1 }, .warmup) := by
  simp only [Probe.good, h]

theorem bad_fault {x : Probe} (h : x.state = .fault) : x.bad = (x, .bad) := by simp only [Probe.bad, h]

/-- A bad result in WARMUP or VALID (R52). -/
theorem bad_running {x : Probe} (h : x.state = .warmup ∨ x.state = .valid) : x.bad =
    if x.badRun = 0 then ({ x with badRun := 1 }, .bad)
    else ({ x with state := .fault, badRun := 0, warm := 0, spike := 0, filtered := none }, .bad) := by
  rcases h with h | h <;> simp only [Probe.bad, h]

/-- Settles O20: good results in WARMUP and VALID, bad results, the way out of FAULT, and results not processed. -/
theorem probeResultsProcessed : Obligations.ProbeResultsProcessed := by
  refine ⟨fun s code c q raw hruns hc hin hor hvoid hpassed hzero hstate h1 h2 hraw h3 h4 => ?_,
    fun s code c q raw f v hruns hc hin hor hvoid hpassed hzero hstate hf h1 h2 hraw h3 h4 hv => ?_,
    fun s code c q raw hruns hc hin hor hvoid hpassed hzero hraw hbad => ?_,
    fun s code c q raw hruns hc hin hor hvoid hpassed hzero hstate h1 h2 hraw h3 h4 => ?_,
    fun s code c q hruns hc hin hor hpassed => ?_⟩
  · refine ⟨_, exec_scanned hruns hc hin hor hvoid hpassed (by rw [hstate]; decide) code,
      fun k hk => scanned_probe_ne s hk _, fun hwarm => ?_, fun hwarm => ?_, keepsAllBut_scanned s q _⟩
    · rw [scanned_probe, resultOf_good hzero h1 h2 hraw h3 h4, good_warmup hstate, if_pos hwarm]
    · rw [scanned_probe, resultOf_good hzero h1 h2 hraw h3 h4, good_warmup hstate, if_neg (by omega)]
  · refine ⟨_, exec_scanned hruns hc hin hor hvoid hpassed (by rw [hstate]; decide) code,
      fun k hk => scanned_probe_ne s hk _, fun hnear => ?_, fun hfar hspike => ?_, fun hfar hspike => ?_,
      keepsAllBut_scanned s q _⟩
    · rw [scanned_probe, resultOf_good hzero h1 h2 hraw h3 h4, ← hv, good_valid hstate hf, if_pos hnear]
    · rw [scanned_probe, resultOf_good hzero h1 h2 hraw h3 h4, ← hv, good_valid hstate hf, if_neg (by omega), if_pos hspike]
    · rw [scanned_probe, resultOf_good hzero h1 h2 hraw h3 h4, ← hv, good_valid hstate hf, if_neg (by omega),
        if_neg (by omega)]
  · by_cases habsent : s.temp.probes[q].state = .absent
    · refine ⟨_, exec_scanned_discarded hruns hc hin hor hpassed (.inr habsent) code,
        fun k _ => by rw [freeConverter_probes], fun h => ?_, fun h => ?_,
        (keepsAllBut_freeConverter s).mono (by simp)⟩
      · rw [habsent] at h
        exact absurd h (by decide)
      · rw [habsent] at h
        exact absurd h (by decide)
    · refine ⟨_, exec_scanned hruns hc hin hor hvoid hpassed habsent code, fun k hk => scanned_probe_ne s hk _,
        fun hrunning => ⟨fun hfirst => ?_, fun hsecond => ?_⟩, fun hfault => ?_, keepsAllBut_scanned s q _⟩
      · rw [scanned_probe, resultOf_bad hzero hraw hbad, bad_running hrunning, if_pos hfirst]
      · have hresult : (s.resultOf q code.toNat).1 = { s.temp.probes[q] with
            state := .fault, warm := 0, spike := 0, badRun := 0, filtered := none, lastRaw := some code.toNat,
            lastOutcome := some .bad } := by
          rw [resultOf_bad hzero hraw hbad, bad_running hrunning, if_neg hsecond]
        refine ⟨by rw [scanned_probe, hresult], fun p => ?_⟩
        rw [freeConverter_port]
        refine takeProbeResult_event ?_ p
        rw [hresult]
        rcases hrunning with h | h <;> (rw [h]; exact ProbeState.noConfusion)
      · rw [scanned_probe, resultOf_bad hzero hraw hbad, bad_fault hfault]
  · have hresult : (s.resultOf q code.toNat).1 = { s.temp.probes[q] with
        state := .warmup, warm := 1, lastRaw := some code.toNat, lastOutcome := some .warmup } := by
      rw [resultOf_good hzero h1 h2 hraw h3 h4, good_fault hstate]
    refine ⟨_, exec_scanned hruns hc hin hor hvoid hpassed (by rw [hstate]; decide) code,
      fun k hk => scanned_probe_ne s hk _, by rw [scanned_probe, hresult], fun p => ?_, keepsAllBut_scanned s q _⟩
    rw [freeConverter_port]
    refine takeProbeResult_event ?_ p
    rw [hresult, hstate]
    exact ProbeState.noConfusion
  · by_cases hdiscarded : c.voided = true ∨ s.temp.probes[q].state = .absent
    · refine ⟨_, exec_scanned_discarded hruns hc hin hor hpassed hdiscarded code,
        fun _ => ⟨freeConverter_probes s, freeConverter_lanes s, keepsAllBut_freeConverter s⟩, fun hvoid hstate _ => ?_⟩
      rcases hdiscarded with h | h
      · rw [hvoid] at h
        cases h
      · exact absurd h hstate
    · obtain ⟨hvoid, hstate⟩ := not_or.mp hdiscarded
      refine ⟨_, exec_scanned hruns hc hin hor (Bool.eq_false_iff.mpr hvoid) hpassed hstate code,
        fun h => absurd h hvoid, fun _ _ hzero => ?_⟩
      have hresult : (s.resultOf q code.toNat).1 =
          { s.temp.probes[q] with lastRaw := some code.toNat, lastOutcome := some .zeroFault } := by
        rw [State.resultOf, hzero, process_zeroFault]
      have htake : s.takeProbeResult q code.toNat = s.setTemp { s.temp with
          probes := s.temp.probes.set q
            { s.temp.probes[q] with lastRaw := some code.toNat, lastOutcome := some .zeroFault } } := by
        rw [takeProbeResult_eq, hzero, if_pos rfl, hresult]
        exact if_neg fun h => h rfl
      rw [htake]
      exact ⟨by rw [freeConverter_probes]; rfl, (KeepsAllBut.setTemp s _).trans (keepsAllBut_freeConverter _)⟩

/-- Settles O21: the lanes follow a scanned result but under ZERO_FAULT, and the hold age makes a HELD lane STALE. -/
theorem laneTemperaturesFollow : Obligations.LaneTemperaturesFollow := by
  refine ⟨fun s code c q hruns hc hin hor hvoid hpassed hstate => ?_, fun s l hruns hheld hage => ?_⟩
  · refine ⟨_, exec_scanned hruns hc hin hor hvoid hpassed hstate code, fun hzero => ?_, fun hzero l => ?_⟩
    · rw [freeConverter_lanes, keepsAllBut_freeConverter _ .cal (by simp), takeProbeResult_eq, hzero, if_pos rfl]
      exact ⟨by rw [setProbe_temp], by unfold State.setProbe; dsimp only; split <;> rfl⟩
    · generalize hu : s.setProbe q (s.resultOf q code.toNat).1 = u
      have htake : s.takeProbeResult q code.toNat = u.evaluateLanes := by
        rw [takeProbeResult_eq, hzero, ← hu]
        rfl
      have hlanes : u.temp.lanes = s.temp.lanes := by rw [← hu, setProbe_temp]
      have hentry : u.laneEntry l = s.laneEntry l := by rw [← hu]; unfold State.setProbe; dsimp only; split <;> rfl
      have hcal : u.cal = s.cal := by rw [← hu]; unfold State.setProbe; dsimp only; split <;> rfl
      have h := evaluateLanes_follows u l
      rw [hentry, hlanes, hcal] at h
      rw [htake, freeConverter_probes, freeConverter_lanes, keepsAllBut_freeConverter _ .cal (by simp)]
      exact h
  · have hdue : s.staleDue l = true := by
      simp only [State.staleDue, hheld, staleAge, decide_true, Bool.true_and]
      exact decide_eq_true hage
    refine ⟨_, whenDue_of_due hruns hdue _, setLaneTemp_temp _ _ _, ?_, ?_⟩
    all_goals
      simp only [State.setLaneTemp, hheld]
      norm_num
    · exact oneEvent_raise _ _ rfl
    · exact ((KeepsAllBut.setTemp s _).mono (by simp)).trans ((KeepsAllBut.raiseAt _ _ _).mono (by simp))

end Sys2Proof.Machine
end

section
/-! Requests of both ports at one moment (R48, R155; log 32): which of them gives way, and what keeps the moment. -/

namespace Sys2Proof.Machine

open Sys2Proof

/-! ### The request a command brings to the cabinet link (R175) -/

theorem leBytes_two_eq_iff {n : Nat} (h : n < 65536) (lo hi : Byte) :
    leBytes 2 n = [lo, hi] ↔ n = lo.toNat + 256 * hi.toNat := by
  simp only [leBytes, List.cons.injEq, and_true]
  have hlo := lo.isLt
  have hhi := hi.isLt
  constructor
  · rintro ⟨h1, h2⟩
    have h1' := congrArg BitVec.toNat h1
    have h2' := congrArg BitVec.toNat h2
    simp only [BitVec.toNat_ofNat] at h1' h2'
    omega
  · intro hn
    constructor <;> (apply BitVec.eq_of_toNat_eq; simp only [BitVec.toNat_ofNat]; omega)

theorem frameCheck_eq_iff (len : Nat) (kind tag : Byte) (payload : List Byte) (lo hi : Byte) :
    frameCheck len kind tag payload = [lo, hi]
      ↔ (crc16 (leBytes 2 len ++ [kind, tag] ++ payload)).toNat = lo.toNat + 256 * hi.toNat :=
  leBytes_two_eq_iff (BitVec.isLt _) lo hi

/-- The byte that ends a good frame, and no other, brings the frame (R175). -/
theorem take_frame_iff (rx : RxState) (b kind tag : Byte) (payload : List Byte) :
    (rx.take b).2 = .frame kind tag payload
      ↔ ∃ len lo, rx = .check len kind tag payload (some lo) ∧ frameCheck len kind tag payload = [lo, b] := by
  constructor
  · intro h
    unfold RxState.take at h
    split at h
    case h_8 len kind' tag' got lo =>
      split at h
      · next hcheck =>
        cases h
        exact ⟨len, lo, rfl, hcheck⟩
      · cases h
    case h_2 => cases h
    case h_4 => cases h
    case h_7 => cases h
    case h_1 => split at h <;> cases h
    case h_5 => split at h <;> cases h
    all_goals (dsimp only at h; split at h <;> cases h)
  · rintro ⟨len, lo, rfl, hcheck⟩
    simp only [RxState.take, hcheck, if_true]

/-- What a command brings is what `BringsToCabinet` says (log 32). -/
theorem broughtRequest_iff {k : ReqKind} (hk : k = .probeNow ∨ k = .editBegin) (s : State) (c : Instr)
    (payload : List Byte) : broughtRequest k s.ports.cab.rx c = some payload ↔ BringsToCabinet k payload s c := by
  constructor
  · intro h
    unfold broughtRequest at h
    split at h
    · split at h
      · next heq =>
        cases h
        subst heq
        exact .inl ⟨_, rfl⟩
      · cases h
    · split at h
      · next heq =>
        cases h
        subst heq
        exact .inl ⟨_, rfl⟩
      · cases h
    · next b =>
      cases hframe : (s.ports.cab.rx.take b).2 with
      | frame kind tag got =>
        rw [hframe] at h
        dsimp only at h
        split at h
        · next heq =>
          cases h
          subst heq
          obtain ⟨len, lo, hrx, hcheck⟩ := (take_frame_iff _ _ _ _ _).mp hframe
          exact .inr ⟨b, lo, tag, len, rfl, hrx, (frameCheck_eq_iff _ _ _ _ _ _).mp hcheck⟩
        · cases h
      | none =>
        rw [hframe] at h
        cases h
      | error e =>
        rw [hframe] at h
        cases h
    · cases h
  · rintro (⟨tag, rfl⟩ | ⟨b, lo, tag, len, rfl, hrx, hcheck⟩)
    · rcases hk with rfl | rfl <;> rfl
    · have hframe := (take_frame_iff s.ports.cab.rx b k.code tag payload).mpr
        ⟨len, lo, hrx, (frameCheck_eq_iff _ _ _ _ _ _).mpr hcheck⟩
      simp only [broughtRequest, hframe, if_true]

/-! ### Which request gives way (log 32) -/

/-- The port's tests, seen from the request: a request that is not admitted is lost or refused (R177). -/
theorem admitted_of_not_refused {k : ReqKind} {p : Port} {payload : List Byte} {s : State} (hruns : s.heldLow = false)
    (hroom : (s.port p).replies.length < 4) (h : s.portRefusal p k payload.length = none) : Admitted k p payload s := by
  unfold State.portRefusal at h
  split at h
  · cases h
  next hinit =>
  split at h
  · cases h
  next hfree =>
  split at h
  · cases h
  next hport =>
  split at h
  · cases h
  next hfits =>
  refine ⟨hruns, hroom, ?_, ?_, ?_, by simpa using hfits⟩
  · by_contra hno
    obtain ⟨h1, h2⟩ := not_or.mp hno
    exact hinit ⟨not_not.mp h1, h2⟩
  · by_contra hno
    obtain ⟨h1, h2⟩ := not_or.mp hno
    exact hfree ⟨Option.isSome_iff_ne_none.mpr h1, not_or.mp h2⟩
  · cases p with
    | cab => exact .inl rfl
    | svc => exact .inr (not_or.mp fun h => hport ⟨rfl, h⟩)

theorem cabinetContends_of_waiting {s : State} {k : ReqKind} {fits : List Byte → Bool} {payload : List Byte}
    (h : awaitedRequest k s.ports.cab.rx s.pending = some payload) (hruns : s.heldLow = false)
    (hnot : ¬ Admitted k .cab payload s) : s.cabinetContends k fits = false := by
  simp only [State.cabinetContends, h]
  cases hfull : s.replyListFull .cab with
  | true => simp
  | false =>
    have hroom : (s.port .cab).replies.length < 4 := by simpa [State.replyListFull] using hfull
    have hrefused : s.portRefusal .cab k payload.length ≠ none := fun h =>
      hnot (admitted_of_not_refused hruns hroom h)
    simp [hrefused]

theorem cabinetContends_of_none {s : State} {k : ReqKind} (fits : List Byte → Bool)
    (h : awaitedRequest k s.ports.cab.rx s.pending = none) : s.cabinetContends k fits = false := by
  simp only [State.cabinetContends, h]

/-- The cabinet link's request never gives way; the service port's does where the first command that parts the moments
brings one that the cabinet link takes. -/
theorem givesWay {k : ReqKind} (hk : k = .probeNow ∨ k = .editBegin) (s : State) (fits : List Byte → Bool) :
    GivesWay s k fits := by
  refine ⟨rfl, fun hall => ?_, fun pre c post hpending hpre hc => ?_⟩
  · have hnone := awaitedRequest_append (k := k) s.ports.cab.rx [] s.pending hall
    rw [List.append_nil] at hnone
    exact cabinetContends_of_none fits hnone
  · have hwait : awaitedRequest k s.ports.cab.rx s.pending = broughtRequest k s.ports.cab.rx c := by
      rw [hpending, awaitedRequest_append _ _ _ hpre, awaitedRequest_apart _ _ hc]
    refine ⟨fun payload hbrings => ?_, fun hnone => ?_⟩
    · have hsome := hwait.trans ((broughtRequest_iff hk s c payload).mpr hbrings)
      exact ⟨cabinetContends_admitted fits hsome, cabinetContends_of_waiting hsome⟩
    · refine cabinetContends_of_none fits (hwait.trans ?_)
      cases hb : broughtRequest k s.ports.cab.rx c with
      | none => rfl
      | some payload => exact absurd ((broughtRequest_iff hk s c payload).mp hb) (hnone payload)

/-! ### Commands that do not part two moments -/

/-- What decides whether a waiting request of the cabinet link's is taken and granted stands: the receiver, the tests of
the port, the slot if it is empty, and the set if it is free. -/
structure MomentKept (s t : State) : Prop where
  rx : t.ports.cab.rx = s.ports.cab.rx
  runs : t.heldLow = s.heldLow
  site : t.site = s.site
  active : t.prof.active = s.prof.active
  claim : s.prof.claim = none → t.prof.claim = none
  slot : s.temp.slot = none → t.temp.slot = none
  waits : s.ports.cab.deferred = none →
    t.ports.cab.deferred = none ∧ t.ports.cab.replies.length ≤ s.ports.cab.replies.length

namespace MomentKept

variable {s t u : State}

theorem refl (s : State) : MomentKept s s := ⟨rfl, rfl, rfl, rfl, id, id, fun h => ⟨h, le_rfl⟩⟩

theorem trans (h : MomentKept s t) (k : MomentKept t u) : MomentKept s u where
  rx := k.rx.trans h.rx
  runs := k.runs.trans h.runs
  site := k.site.trans h.site
  active := k.active.trans h.active
  claim hc := k.claim (h.claim hc)
  slot hs := k.slot (h.slot hs)
  waits hd := by
    obtain ⟨h1, h2⟩ := h.waits hd
    obtain ⟨h3, h4⟩ := k.waits h1
    exact ⟨h3, h4.trans h2⟩

theorem of_measures (h : Measures s t) : MomentKept s t := by
  have hcab : t.ports.cab = { s.ports.cab with events := t.ports.cab.events } := h.port .cab
  refine ⟨by rw [hcab], h.heldLow, h.site, h.active, fun hc => by rw [h.prof]; exact hc, fun hs => by rw [h.temp]; exact hs,
    fun hd => ?_⟩
  rw [hcab]
  exact ⟨hd, le_rfl⟩

/-- A change outside the part that runs, the profile store, the site, the ports and the temperature unit. -/
theorem of_keepsAllBut {L : List Block} (h : KeepsAllBut L s t) (hL : .heldLow ∉ L ∧ .prof ∉ L ∧ .site ∉ L ∧ .ports ∉ L
    ∧ .temp ∉ L) : MomentKept s t := by
  obtain ⟨h1, h2, h3, h4, h5⟩ := hL
  have hheld : t.heldLow = s.heldLow := h .heldLow h1
  have hprof : t.prof = s.prof := h .prof h2
  have hsite : t.site = s.site := h .site h3
  have hports : t.ports = s.ports := h .ports h4
  have htemp : t.temp = s.temp := h .temp h5
  exact ⟨by rw [hports], hheld, hsite, by rw [hprof], fun hc => by rw [hprof]; exact hc,
    fun hs => by rw [htemp]; exact hs, fun hd => by rw [hports]; exact ⟨hd, le_rfl⟩⟩

theorem setLoops (s : State) (x : Vector LaneMonitor 6) : MomentKept s (s.setLoops x) :=
  of_keepsAllBut (.setLoops s x) (by simp)

theorem setLaneMon (s : State) (l : LaneIx) (m : LaneMonitor) : MomentKept s (s.setLaneMon l m) := setLoops s _

theorem raise (s : State) (k : EventClass) (x : BitVec 32) : MomentKept s (s.raise k x) := of_measures (.raise s k x)

theorem raiseAt (s : State) (k : EventClass) (i : Nat) : MomentKept s (s.raiseAt k i) := raise s k _

/-- The temperature unit moves and leaves an empty slot empty. -/
theorem setTemp (s : State) {x : TempUnit} (h : s.temp.slot = none → x.slot = none) : MomentKept s (s.setTemp x) :=
  ⟨rfl, rfl, rfl, rfl, id, h, fun hd => ⟨hd, le_rfl⟩⟩

theorem setPort_svc (s : State) (x : PortState) : MomentKept s (s.setPort .svc x) :=
  ⟨rfl, rfl, rfl, rfl, id, id, fun hd => ⟨hd, le_rfl⟩⟩

/-- The cabinet link sends: nothing joins its list. -/
theorem setPort_cab (s : State) {x : PortState} (hrx : x.rx = s.ports.cab.rx) (hd : x.deferred = s.ports.cab.deferred)
    (hr : x.replies.length ≤ s.ports.cab.replies.length) : MomentKept s (s.setPort .cab x) :=
  ⟨hrx, rfl, rfl, rfl, id, id, fun h => ⟨hd.trans h, hr⟩⟩

/-- A port sends: nothing joins its list. -/
theorem setPort (s : State) (p : Port) {x : PortState} (hrx : x.rx = (s.port p).rx) (hd : x.deferred = (s.port p).deferred)
    (hr : x.replies.length ≤ (s.port p).replies.length) : MomentKept s (s.setPort p x) := by
  cases p with
  | cab => exact setPort_cab s hrx hd hr
  | svc => exact setPort_svc s x

/-- A deferred request of the cabinet link's ends only where the port holds one. -/
theorem endDeferred (s : State) (p : Port) (k : DeferredKind) (payload : List Byte) :
    MomentKept s (s.endDeferred p k payload) := by
  unfold State.endDeferred
  dsimp only
  split
  · exact refl s
  · next d hd =>
    split
    · cases p with
      | svc => exact (setPort_svc _ _).trans (setPort_svc _ _)
      | cab => exact ⟨rfl, rfl, rfl, rfl, id, id, fun h => by rw [show (s.port .cab).deferred = none from h] at hd; cases hd⟩
    · exact refl s

end MomentKept

theorem momentKept_acceptChange (s : State) (l : LaneIx) (d : LoopPos) (ct : Tick) :
    MomentKept s (s.acceptChange l d ct) := by
  by_cases hstuck : (s.loops[l].loop d).filtered = .stuck
  · rw [acceptChange_stuck hstuck]
    exact .setLaneMon _ _ _
  · obtain ⟨stuck, haccept⟩ := acceptChange_eq hstuck ct
    rw [haccept]
    generalize (if (s.loops[l].loop d).filtered = .free then Filtered.occupied else .free) = f
    refine (MomentKept.setLaneMon s l _ : MomentKept s (s.filteredTo l d f stuck)).trans ?_
    rcases presenceTakes_cases (s.filteredTo l d f stuck) l d (decide ((s.loops[l].loop d).filtered = .free)) ct with
      ⟨-, -, -, m, hm, -⟩ | ⟨-, -, -, u, -, m, hm, -⟩ | ⟨-, -, m, hm, -⟩ <;> rw [hm]
    · exact (MomentKept.setLaneMon _ _ _).trans (.raiseAt _ _ _)
    · refine MomentKept.trans ?_ (.setLaneMon _ _ _)
      exact (MomentKept.setLaneMon _ _ _).trans (.of_keepsAllBut (.setAsm _ _) (by simp))
    · exact .setLaneMon _ _ _

theorem momentKept_congest (s : State) (l : LaneIx) : MomentKept s (s.congest l) := by
  unfold State.congest
  dsimp only
  split
  · exact .setLaneMon _ _ _
  · exact ((MomentKept.setLaneMon s l _).trans (.of_keepsAllBut (.setAsm _ _) (by simp))).trans (.raiseAt _ _ _)

theorem momentKept_setLaneTemp (s : State) (l : LaneIx) (x : LaneTemp) : MomentKept s (s.setLaneTemp l x) := by
  have htemp : MomentKept s (s.setTemp { s.temp with lanes := s.temp.lanes.set l x }) := .setTemp s id
  have hcal : ∀ t c, MomentKept t (State.setLaneCal t l c) := fun t c => .of_keepsAllBut (.setCal t _) (by simp)
  unfold State.setLaneTemp
  dsimp only
  split <;> split
  · exact (htemp.trans (.raiseAt _ _ _)).trans (hcal _ _)
  · exact htemp.trans (hcal _ _)
  · exact htemp.trans (.raiseAt _ _ _)
  · exact htemp

theorem momentKept_takeProbeResult (s : State) (q : ProbeIx) (raw : Nat) : MomentKept s (s.takeProbeResult q raw) := by
  have hset : ∀ x, MomentKept s (s.setProbe q x) := fun x => by
    have htemp : MomentKept s (s.setTemp { s.temp with probes := s.temp.probes.set q x }) := .setTemp s id
    unfold State.setProbe
    dsimp only
    split
    · exact htemp.trans (.raiseAt _ _ _)
    · exact htemp
  have hlanes : ∀ t, MomentKept t (State.evaluateLanes t) := fun t =>
    foldl_keeps MomentKept .refl .trans State.evaluateLane (fun u l => momentKept_setLaneTemp u l _) allLanes t
  rw [takeProbeResult_eq]
  split
  · exact hset _
  · exact (hset _).trans (hlanes _)

theorem momentKept_replyFromSlot (s before : State) (r : SlotRequest) (raw : Nat) :
    MomentKept s (s.replyFromSlot before r raw) :=
  (MomentKept.setTemp s (x := { s.temp with slot := none }) fun _ => rfl).trans (.endDeferred _ _ _ _)

theorem momentKept_deliverResult (s : State) (c : Conversion) (code : BitVec 12) :
    MomentKept s (s.deliverResult c code) := by
  unfold State.deliverResult
  split
  · refine .setTemp s fun h => ?_
    rw [takeZero_keeps]
    exact h
  · split
    · exact .refl s
    · exact momentKept_takeProbeResult s _ _
  · split
    · split
      · exact (momentKept_takeProbeResult s _ code.toNat).trans (momentKept_replyFromSlot _ _ _ _)
      · exact .refl s
    · exact .refl s

theorem momentKept_selectInput (s : State) : MomentKept s s.selectInput := by
  have hk := keepsAllBut_selectInput s
  have hprof : s.selectInput.prof = s.prof := hk .prof (by simp)
  have hports : s.selectInput.ports = s.ports := hk .ports (by simp)
  exact ⟨by rw [hports], hk .heldLow (by simp), hk .site (by simp), by rw [hprof], fun h => hprof ▸ h,
    (selectInput_keeps s).2, fun h => by rw [hports]; exact ⟨h, le_rfl⟩⟩

theorem momentKept_startPass (s : State) : MomentKept s s.startPass := by
  unfold State.startPass
  split
  · exact .setTemp s id
  · exact (MomentKept.setTemp s (x := { s.temp with passList := s.newPassList, lastPass := some s.now }) id).trans
      (momentKept_selectInput _)

/-- Every command that does not part two moments keeps the moment. -/
theorem exec_keepsMoment {s t : State} {c : Instr} (hc : ¬ TellsApart c) (h : exec c s = .next t) : MomentKept s t := by
  have hkept : keepsMoment c = true := (keepsMoment_iff c).mpr hc
  have hwhile : ∀ u, whileRunning s u = .next t → MomentKept s u → MomentKept s t := fun u hu hk => by
    rcases whileRunning_eq_next hu with rfl | rfl
    · exact .refl _
    · exact hk
  have hwhen : ∀ due u, whenDue s due u = .next t → MomentKept s u → MomentKept s t := fun due u hu hk => by
    rcases whenDue_eq_next hu with rfl | ⟨-, rfl⟩
    · exact .refl _
    · exact hk
  have hsample : ∀ k x, MomentKept s (s.takeSample k x) := fun k x => .of_measures (.takeSample s k x)
  cases c with
  | stripSample k x => exact hwhile _ h (hsample k x)
  | settlingComplete k x => exact hwhen _ _ h (hsample k x)
  | hitEnd k x => exact hwhen _ _ h (hsample k x)
  | hitLong k x => exact hwhen _ _ h (hsample k x)
  | recoveryEnd k x => exact hwhen _ _ h (hsample k x)
  | bucketLeak =>
    have hset : Measures s (s.setStrip { s.strip with leakStart := s.strip.leakStart + 400 }) := .setStrip s _
    exact hwhen _ _ h (.of_measures (hset.trans (foldl_keeps Measures .refl .trans _ Measures.leakChannel _ _)))
  | loopLineChange l d high =>
    simp only [exec, execLoopLineChange] at h
    split at h <;> (cases h; exact .setLaneMon _ _ _)
  | loopChangeAccept l d =>
    refine hwhile _ h ?_
    split
    · exact momentKept_acceptChange _ _ _ _
    · exact .refl s
  | stuckExpiry l d =>
    have hsilent : ∀ u, MomentKept s u → MomentKept s (u.presenceTakes l d false s.now false) := fun u hu => by
      obtain ⟨m, hm, -⟩ := presenceTakes_silent u l d s.now
      rw [hm]
      exact hu.trans (.setLaneMon _ _ _)
    exact hwhen _ _ h (hsilent _ ((MomentKept.setLaneMon s l _).trans (.raise _ _ _)))
  | loopSpeedExpiry l => exact hwhen _ _ h (.setLaneMon _ _ _)
  | stallExpiry l => exact hwhen _ _ h (momentKept_congest s l)
  | clearExpiry l => exact hwhen _ _ h ((MomentKept.setLaneMon _ _ _).trans (.raiseAt _ _ _))
  | passStart => exact hwhen _ _ h (momentKept_startPass s)
  | conversionComplete code =>
    refine hwhile _ h ?_
    split
    · next c _ =>
      exact ((momentKept_deliverResult s c code).trans
        (.setTemp _ (x := { (s.deliverResult c code).temp with conv := none }) id)).trans (momentKept_selectInput _)
    · exact .refl s
  | holdAgeStale l => exact hwhen _ _ h (momentKept_setLaneTemp s l _)
  | leadingHitExpiry r q =>
    refine hwhile _ h ?_
    split
    · exact .of_measures (.expireLeading _ _ _ _)
    · exact .refl s
  | candidateDeadline l =>
    refine hwhile _ h ?_
    split
    · exact .of_measures (.completeIds _ _)
    · exact .refl s
  | presenceClose l => exact hwhen _ _ h (.of_measures (.closeFrame _ _ _))
  | frameTimeout l => exact hwhen _ _ h (.of_measures (.closeFrame _ _ _))
  | ownershipTimeout => exact hwhen _ _ h ⟨rfl, rfl, rfl, rfl, fun _ => rfl, id, fun hd => ⟨hd, le_rfl⟩⟩
  | imageWriteStart =>
    refine hwhile _ h ?_
    split
    · exact ⟨rfl, rfl, rfl, rfl, id, id, fun hd => ⟨hd, le_rfl⟩⟩
    · exact .refl s
  | replySend p =>
    refine hwhile _ h ?_
    split
    · exact .setPort s p rfl rfl (by simp [PortState.send])
    · exact .refl s
  | eventFrame p => exact hwhen _ _ h (.setPort s p rfl rfl le_rfl)
  | vehicleFrame =>
    refine hwhile _ h ?_
    split
    · exact (MomentKept.of_keepsAllBut (.setStore s _) (by simp)).trans (.setPort_cab _ rfl rfl le_rfl)
    · exact .refl s
  | _ => exact absurd hkept (by simp [keepsMoment])

/-- A waiting request of the cabinet link's that the port would have taken is taken after it. -/
theorem MomentKept.keepsMoment {s t : State} (h : MomentKept s t) {k : ReqKind} (hk : k ≠ .ident ∧ k ≠ .status) :
    KeepsMoment k s t := by
  refine ⟨h.rx, fun payload hadm => ?_⟩
  have hdeferred : s.ports.cab.deferred = none := hadm.free.resolve_right fun hno => hno.elim hk.1 hk.2
  obtain ⟨hfree, hroom⟩ := h.waits hdeferred
  exact ⟨h.runs.trans hadm.runs, hroom.trans_lt hadm.room, by rw [h.site]; exact hadm.notInit, .inl hfree, hadm.rightPort,
    hadm.fits⟩

/-! ### PROBE_NOW and EDIT_BEGIN (R48, R155) -/

theorem byte0_singleton (b : Byte) : byte0 [b] = b.toNat := rfl

theorem namesEnabledProbe_iff (s : State) (b : Byte) : s.namesEnabledProbe [b] = true ↔
    ∃ q : ProbeIx, b.toNat = q.val ∧ s.prof.active.probes.entries[q].enabled = true := by
  unfold State.namesEnabledProbe
  dsimp only
  by_cases h : byte0 [b] < 8
  · rw [dif_pos h]
    constructor
    · exact fun hen => ⟨⟨b.toNat, h⟩, rfl, hen⟩
    · rintro ⟨q, hq, hen⟩
      obtain rfl : q = ⟨b.toNat, h⟩ := Fin.ext hq.symm
      exact hen
  · rw [dif_neg h]
    exact ⟨fun hno => absurd hno (by simp), fun ⟨q, hq, _⟩ => absurd q.isLt (hq ▸ h)⟩

/-- The owner of PROBE_NOW, for a number that names a probe. -/
theorem probeNowOwner_probe {b : Byte} {q : ProbeIx} (h : b.toNat = q.val) (p : Port) (s : State) :
    probeNowOwner p [b] s =
      if !s.prof.active.probes.entries[q].enabled then (s, .refused .badValue 0 0)
      else if s.temp.slot.isSome || s.yields p .probeNow s.namesEnabledProbe then (s, .refused .busy 0 0)
      else ((s.setTemp { s.temp with slot := some { probe := q, port := p, selected := false } }).selectInput,
        .deferred .probeNow) := by
  have hlt : byte0 [b] < 8 := by rw [byte0_singleton, h]; exact q.isLt
  have hq : (⟨byte0 [b], hlt⟩ : ProbeIx) = q := Fin.ext h
  simp only [probeNowOwner, dif_pos hlt, hq]

/-- Settles O22: the slot is filled by the first request that fits, the cabinet link's before the service port's. -/
theorem probeNowTaken : Obligations.ProbeNowTaken := by
  refine ⟨fun s => ⟨givesWay (.inl rfl) s _, namesEnabledProbe_iff s⟩, fun s t c hc h hslot => ?_,
    fun s p tag b hadm => ⟨fun hb => ?_, fun q hb => ⟨fun hoff => ?_, fun hon hbusy => ?_, fun hon hslot hyields hconv => ?_,
      fun hon hslot hyields hconv => ?_⟩⟩⟩
  · have hkept := exec_keepsMoment hc h
    exact ⟨hkept.slot hslot, hkept.active, hkept.keepsMoment (by simp)⟩
  · have howner : ownerOf .probeNow p [b] s = (s, .refused .badValue 0 0) := by
      have hge : ¬ byte0 [b] < 8 := by rw [byte0_singleton]; omega
      simp only [ownerOf, probeNowOwner, dif_neg hge]
    exact (exec_requestCommand_admitted hadm tag).trans (by rw [howner, answer_refused])
  · have howner : ownerOf .probeNow p [b] s = (s, .refused .badValue 0 0) := by
      rw [ownerOf, probeNowOwner_probe hb, hoff]
      rfl
    exact (exec_requestCommand_admitted hadm tag).trans (by rw [howner, answer_refused])
  · have hor : (s.temp.slot.isSome || s.yields p .probeNow s.namesEnabledProbe) = true := by
      rw [Bool.or_eq_true, Option.isSome_iff_ne_none]
      exact hbusy
    have howner : ownerOf .probeNow p [b] s = (s, .refused .busy 0 0) := by
      rw [ownerOf, probeNowOwner_probe hb, hon, hor]
      rfl
    exact (exec_requestCommand_admitted hadm tag).trans (by rw [howner, answer_refused])
  · have howner : ownerOf .probeNow p [b] s = (s.setTemp { s.temp with
        conv := some { input := .probe q, origin := .slot, start := s.now },
        slot := some { probe := q, port := p, selected := true } }, .deferred .probeNow) := by
      rw [ownerOf, probeNowOwner_probe hb, hon, hslot, hyields]
      have hselect := selectInput_slot (s := s.setTemp { s.temp with
        slot := some { probe := q, port := p, selected := false } }) (r := { probe := q, port := p, selected := false }) hconv
        rfl rfl
      exact congrArg (·, Answer.deferred .probeNow) hselect
    exact (exec_requestCommand_admitted hadm tag).trans (by rw [howner, answer_deferred, State.port_setTemp])
  · have howner : ownerOf .probeNow p [b] s =
        (s.setTemp { s.temp with slot := some { probe := q, port := p, selected := false } }, .deferred .probeNow) := by
      rw [ownerOf, probeNowOwner_probe hb, hon, hslot, hyields]
      exact congrArg (·, Answer.deferred .probeNow) (selectInput_busy (s := s.setTemp _) hconv)
    exact (exec_requestCommand_admitted hadm tag).trans (by rw [howner, answer_deferred, State.port_setTemp])

/-- Settles O37: a free set is claimed, the cabinet link before the service port; a held one is refused. -/
theorem editBeginClaims : Obligations.EditBeginClaims := by
  refine ⟨fun s => givesWay (.inr rfl) s _, fun s t c hc h hclaim => ?_,
    fun s p tag hadm => ⟨fun hfree hyields => ?_, fun hfree hyields => ?_, fun c hc howner => ?_, fun c hc howner => ?_⟩⟩
  · have hkept := exec_keepsMoment hc h
    exact ⟨hkept.claim hclaim, hkept.keepsMoment (by simp)⟩
  · refine (exec_requestCommand_admitted hadm tag).trans ?_
    simp only [ownerOf, editBeginOwner, hfree, hyields, Bool.false_eq_true, if_false, answer_ok]
    rfl
  · refine (exec_requestCommand_admitted hadm tag).trans ?_
    simp only [ownerOf, editBeginOwner, hfree, hyields, if_true, answer_refused]
  · refine (exec_requestCommand_admitted hadm tag).trans ?_
    simp only [ownerOf, editBeginOwner, hc, howner, if_true, answer_refused]
  · refine (exec_requestCommand_admitted hadm tag).trans ?_
    simp only [ownerOf, editBeginOwner, hc, howner, if_false, answer_refused]

end Sys2Proof.Machine
end

section
/-! The simple requests (R156, R160, R161, R167, R169, R171 to R173, R182) and the tests of the port engine (R177). -/

namespace Sys2Proof.Machine

open Sys2Proof

/-! ### What an admitted request answers -/

section
variable {s t : State} {k : ReqKind} {p : Port} {payload : List Byte}

theorem exec_ok (h : Admitted k p payload s) (tag : Byte) {result : List Byte}
    (howner : ownerOf k p payload s = (t, .ok result)) :
    exec (requestCommand k p tag payload) s = .next (t.withReply p (okReply k tag result)) := by
  rw [exec_requestCommand_admitted h, howner, answer_ok]

theorem exec_refused (h : Admitted k p payload s) (tag : Byte) {st : Status} {sect index : Nat}
    (howner : ownerOf k p payload s = (t, .refused st sect index)) :
    exec (requestCommand k p tag payload) s = .next (t.withReply p (refusalReply k.code tag st sect index)) := by
  rw [exec_requestCommand_admitted h, howner, answer_refused]

end

/-! ### Fields of a payload (chapter 9, Request payloads) -/

@[simp] theorem leNat_singleton (b : Byte) : leNat [b] = b.toNat := by simp [leNat]

@[simp] theorem leNat_pair (lo hi : Byte) : leNat [lo, hi] = lo.toNat + 256 * hi.toNat := by simp [leNat]

theorem leBytes_one (n : Nat) : leBytes 1 n = [BitVec.ofNat 8 n] := rfl

theorem leBytes_pair (lo hi : Byte) : leBytes 2 (lo.toNat + 256 * hi.toNat) = [lo, hi] :=
  (leBytes_two_eq_iff (by have := lo.isLt; have := hi.isLt; omega) lo hi).mpr rfl

/-! ### LOCK and RESTART (R167, R171) -/

/-- Settles O46: LOCK is refused in NOPROFILE or once set or pending, else placed; the first RESTART is the one that counts. -/
theorem lockAndRestartTaken : Obligations.LockAndRestartTaken := by
  refine ⟨fun s p tag h => ⟨fun hstate => ?_, fun hstate hsealed => ?_, fun hstate hlocked hpending => ?_⟩,
    fun s p tag h => ⟨fun hnone => ?_, fun hsome => ?_⟩⟩
  · exact exec_refused h tag (t := s) (by simp only [ownerOf, lockOwner, hstate, if_true])
  · have hs : s.prof.sealed = true := by simpa only [ProfileStore.sealed, Bool.or_eq_true] using hsealed
    exact exec_refused h tag (t := s) (by simp only [ownerOf, lockOwner, if_neg hstate, hs, if_true])
  · have hs : s.prof.sealed = false := by simp only [ProfileStore.sealed, hlocked, hpending, Bool.or_false]
    exact exec_ok h tag (t := (s.setProf { s.prof with lockPending := true }).placeReason .lock)
      (by simp only [ownerOf, lockOwner, if_neg hstate, hs, Bool.false_eq_true, if_false])
  · refine (exec_requestCommand_admitted h tag).trans ?_
    simp only [ownerOf, restartOwner, hnone]
    rfl
  · obtain ⟨r, hr⟩ := Option.ne_none_iff_exists'.mp hsome
    refine (exec_requestCommand_admitted h tag).trans ?_
    simp only [ownerOf, restartOwner, hr]
    rfl

/-! ### TIME_SET and IDENT (R172, R173) -/

theorem identResult_eq (s : State) : s.identResult =
    [BitVec.ofNat 8 (match s.site.cause with | .power => 0 | .line => 1 | .restart => 2),
      BitVec.ofNat 8 (match s.site.state with | .init => 0 | .noProfile => 1 | .standby => 2 | .weighing => 3),
      BitVec.ofNat 8 ((if s.site.storeLost then 1 else 0) + (if s.site.strapOpen then 2 else 0)
        + (if s.prof.locked then 4 else 0) + (if s.prof.lockPending then 8 else 0))]
      ++ leBytes 4 s.prof.audit ++ leBytes 4 s.prof.boot ++ leBytes 4 s.prof.generation
      ++ leBytes 4 s.prof.active.site.siteNumber := by
  have hcause : s.site.cause.code = match s.site.cause with | .power => 0 | .line => 1 | .restart => 2 := by
    cases s.site.cause <;> rfl
  have hstate : s.site.state.code = match s.site.state with
      | .init => 0 | .noProfile => 1 | .standby => 2 | .weighing => 3 := by cases s.site.state <;> rfl
  simp only [State.identResult, leBytes_one, bitIf, hcause, hstate]
  rfl

/-- Settles O49: TIME_SET takes its six bytes as site time; IDENT's result is read off the state. -/
theorem timeSetAndIdent : Obligations.TimeSetAndIdent := by
  refine ⟨fun s p tag payload h => ?_, fun s p tag h => ?_⟩
  · have hlen : payload.length = 6 := of_decide_eq_true h.fits
    have htime : fieldAt payload 0 6 = leNat payload := by rw [fieldAt, List.drop_zero, List.take_of_length_le hlen.le]
    refine ⟨_, exec_ok h tag (t := (timeSetOwner payload s).1) rfl, ?_, ?_, ?_, ?_⟩
    · rw [State.withReply, State.setPort_site, ← htime]
      rfl
    · rw [State.withReply, State.setPort_site]
      rfl
    · cases p <;> rfl
    · exact ((KeepsAllBut.setSite s _).mono (by decide)).trans ((KeepsAllBut.withReply _ p _).mono (by decide))
  · exact (exec_ok h tag (t := s) rfl).trans
      (congrArg (fun r => Host.Outcome.next (s.withReply p (okReply .ident tag r))) (identResult_eq s))

/-! ### EVENT_ENABLE and unknown requests (R177, R182) -/

/-- A KIND outside 1 to 18 is none of the catalogue. -/
theorem requestOfKind_outside {kind : Byte} (h : kind.toNat = 0 ∨ 18 < kind.toNat) : requestOfKind kind = none := by
  unfold requestOfKind
  split
  · rfl
  · exact List.getElem?_eq_none (by simp only [catalogue, List.length_cons, List.length_nil]; omega)

theorem unknownKind_refused {s : State} {p : Port} (hroom : (s.port p).replies.length < 4) (kind tag : Byte) :
    s.unknownKind p kind tag = s.withReply p (refusalReply kind tag .unknownKind 0 0) := by
  have hfull : s.replyListFull p = false := by simpa [State.replyListFull] using hroom
  simp only [State.unknownKind, hfull, Bool.false_eq_true, if_false, refuse_eq]

theorem exec_unknownKind {s : State} (hruns : s.heldLow = false) {kind : Byte} (h : kind.toNat = 0 ∨ 18 < kind.toNat)
    (p : Port) (tag : Byte) (payload : List Byte) :
    exec (.unknownKindRequest p kind tag payload) s = .next (s.unknownKind p kind tag) :=
  whenDue_of_due hruns (by rw [requestOfKind_outside h]; rfl) _

/-- Settles O51: thirteen bits make a mask, more are refused; and a KIND outside the catalogue is answered as one. -/
theorem eventEnableAndUnknownKind : Obligations.EventEnableAndUnknownKind := by
  refine ⟨fun s p tag lo hi h => ?_, fun s p kind tag payload hruns hkind hroom => ?_⟩
  · have hfield : fieldAt [lo, hi] 0 2 = lo.toNat + 256 * hi.toNat := leNat_pair lo hi
    have hlo := lo.isLt
    refine ⟨fun hbig => ?_, fun hsmall => ?_⟩
    · have hn : ¬ lo.toNat + 256 * hi.toNat < 2 ^ 13 := by omega
      exact exec_refused h tag (t := s) (by simp only [ownerOf, eventEnableOwner, hfield, if_neg hn])
    · have hn : lo.toNat + 256 * hi.toNat < 2 ^ 13 := by omega
      have howner : ownerOf .eventEnable p [lo, hi] s = (s.setPort p { s.port p with
          mask := BitVec.ofNat 13 (lo.toNat + 256 * hi.toNat) }, .ok [lo, hi]) := by
        simp only [ownerOf, eventEnableOwner, hfield, if_pos hn, leBytes_pair]
      exact exec_ok h tag howner
  · rw [exec_unknownKind hruns hkind, unknownKind_refused hroom]

/-! ### The tests of the port engine (R177) -/

section
variable {s : State} {k : ReqKind} {p : Port} {payload : List Byte}

theorem exec_portRefusal (hruns : s.heldLow = false) (hroom : (s.port p).replies.length < 4) {st : Status}
    (h : s.portRefusal p k payload.length = some st) (tag : Byte) :
    exec (requestCommand k p tag payload) s = .next (s.withReply p (refusalReply k.code tag st 0 0)) := by
  rw [exec_requestCommand, whileRunning_of_runs hruns, takeRequest_of_portRefusal hroom h]

theorem exec_overflow (hruns : s.heldLow = false) (hfull : 4 ≤ (s.port p).replies.length) (tag : Byte) :
    exec (requestCommand k p tag payload) s = .next (s.linkError p .overflow) := by
  have hf : s.replyListFull p = true := by simpa [State.replyListFull] using hfull
  rw [exec_requestCommand, whileRunning_of_runs hruns]
  simp only [State.takeRequest, hf, if_true]

end

theorem otherPort_ne (p : Port) : otherPort p ≠ p := by cases p <;> exact Port.noConfusion

theorem eq_or_eq_otherPort (p q : Port) : q = p ∨ q = otherPort p := by cases p <;> cases q <;> simp [otherPort]

/-- A link error counts once, raises LINK_ERROR on both ports and touches nothing else (R176). -/
theorem linkError_port (s : State) (p q : Port) (e : LinkError) : (s.linkError p e).port q =
    (if q = p then { s.port p with links := (s.port p).links.count e } else s.port q).raise .linkError (portBit p) := by
  rw [State.linkError, raise_port]
  split
  · next h => rw [h, State.port_setPort]
  · next h => rw [State.port_setPort_ne _ h]

theorem linkError_replies (s : State) (p q : Port) (e : LinkError) :
    ((s.linkError p e).port q).replies = (s.port q).replies := by
  rw [linkError_port]
  split
  · next h => rw [h]; rfl
  · rfl

theorem linkError_raises (s : State) (p q : Port) (e : LinkError) :
    RaisedOnce .linkError (portBit p) (s.port q).events ((s.linkError p e).port q).events := by
  rw [linkError_port]
  split
  · next h => rw [h]; exact raisedOnce_raise _ _ { s.port p with links := (s.port p).links.count e }
  · exact raisedOnce_raise _ _ _

theorem linkError_links (s : State) (p : Port) (e : LinkError) :
    ((s.linkError p e).port p).links = (s.port p).links.count e := by
  rw [linkError_port, if_pos rfl]
  rfl

theorem linkError_rx (s : State) (p q : Port) (e : LinkError) : ((s.linkError p e).port q).rx = (s.port q).rx := by
  rw [linkError_port]
  split
  · next h => rw [h]; rfl
  · rfl

theorem linkError_other (s : State) (p : Port) (e : LinkError) : (s.linkError p e).port (otherPort p) =
    { s.port (otherPort p) with events := ((s.linkError p e).port (otherPort p)).events } := by
  rw [linkError_port, if_neg (otherPort_ne p)]
  rfl

/-- Settles O52: the port engine's tests, each reached when those before it pass. -/
theorem portRefusals : Obligations.PortRefusals := by
  intro s k p tag payload hruns
  refine ⟨fun hfull => ?_, fun hroom => ⟨fun hinit hk => ?_, fun hinit => ⟨fun hd hi hs => ?_, fun hfree => ⟨fun hp hk => ?_,
    fun hport hfits => ?_⟩⟩⟩⟩
  · exact ⟨_, exec_overflow hruns hfull tag, linkError_links s p .overflow, fun q => linkError_replies s p q _,
      linkError_other s p _, fun q => linkError_raises s p q _, keepsAllBut_linkError s p _⟩
  · exact exec_portRefusal hruns hroom (if_pos ⟨hinit, hk⟩) tag
  · obtain ⟨d, hd⟩ := Option.ne_none_iff_exists'.mp hd
    exact exec_portRefusal hruns hroom (portRefusal_of_deferred hinit hd hi hs _) tag
  · have h3 : ¬ (s.site.state = .init ∧ k ≠ .ident) := fun h => hinit h.1
    have h4 : ¬ ((s.port p).deferred.isSome = true ∧ k ≠ .ident ∧ k ≠ .status) := by
      rintro ⟨hd, hi, hs⟩
      rcases hfree with h | h | h
      · simp [h] at hd
      · exact hi h
      · exact hs h
    exact exec_portRefusal hruns hroom (by rw [State.portRefusal, if_neg h3, if_neg h4, if_pos ⟨hp, hk⟩]) tag
  · have h3 : ¬ (s.site.state = .init ∧ k ≠ .ident) := fun h => hinit h.1
    have h4 : ¬ ((s.port p).deferred.isSome = true ∧ k ≠ .ident ∧ k ≠ .status) := by
      rintro ⟨hd, hi, hs⟩
      rcases hfree with h | h | h
      · simp [h] at hd
      · exact hi h
      · exact hs h
    have h5 : ¬ (p = .svc ∧ (k = .take ∨ k = .stream)) := by
      rintro ⟨rfl, hk⟩
      rcases hport with h | ⟨h1, h2⟩
      · cases h
      · exact hk.elim h1 h2
    have h6 : (!k.lengthFits payload.length) = true := by rw [hfits]; rfl
    exact exec_portRefusal hruns hroom (by rw [State.portRefusal, if_neg h3, if_neg h4, if_neg h5, if_pos h6]) tag

end Sys2Proof.Machine
end

section
/-! Chapter 8: chunked transfers, READ_SECTION, the judgement of COMMIT, and the writes of the image (R156 to R162, R165 to
R170). -/

namespace Sys2Proof.Machine

open Sys2Proof

/-! ### READ_SECTION (R160) -/

theorem readAnswer_of_section {prof : Profile} {k : Sect} {code offset : Nat} (generation : Nat)
    (hk : sectOfCode code = some k) (h : offset ≤ (sectionBytes prof k).length) :
    readAnswer prof generation code offset = .ok (leBytes 2 (sectionBytes prof k).length ++ leBytes 4 generation
      ++ ((sectionBytes prof k).drop offset).take 960) := by
  simp only [readAnswer, hk, if_neg (Nat.not_lt.mpr h)]

section
variable (p : Port) (s : State) (code lo hi : Byte)

theorem readSectionOwner_active : readSectionOwner p [0, code, lo, hi] s =
    (s, readAnswer s.prof.active s.prof.generation code.toNat (lo.toNat + 256 * hi.toNat)) := by
  have hoffset : fieldAt [0, code, lo, hi] 2 2 = lo.toNat + 256 * hi.toNat := leNat_pair lo hi
  have hcode : byte1 [0, code, lo, hi] = code.toNat := leNat_singleton code
  have hchoice : byte0 [0, code, lo, hi] = 0 := rfl
  simp only [readSectionOwner, hoffset, hcode, hchoice]

theorem readSectionOwner_other (h : s.claimOf p = none) :
    readSectionOwner p [1, code, lo, hi] s = (s, .refused .notOwner 0 0) := by
  have hchoice : byte0 [1, code, lo, hi] = 1 := rfl
  simp only [readSectionOwner, hchoice, h]

theorem readSectionOwner_staged {c : Claim} (h : s.claimOf p = some c) : readSectionOwner p [1, code, lo, hi] s =
    s.onClaim c (s.setClaim (some (c.touch s.now)), readAnswer c.staged 0 code.toNat (lo.toNat + 256 * hi.toNat)) := by
  have hoffset : fieldAt [1, code, lo, hi] 2 2 = lo.toNat + 256 * hi.toNat := leNat_pair lo hi
  have hcode : byte1 [1, code, lo, hi] = code.toNat := leNat_singleton code
  have hchoice : byte0 [1, code, lo, hi] = 1 := rfl
  simp only [readSectionOwner, hoffset, hcode, hchoice, h]

end

/-- Settles O41: the active section is read by either port, the staged one by the owner. -/
theorem readSectionReads : Obligations.ReadSectionReads := by
  rintro s p tag code lo hi k offset hk rfl
  refine ⟨fun h hle => ?_, fun c h hc ho ht => ?_, fun c h hc ho ht hle => ?_, fun h hother => ?_⟩
  · exact exec_ok h tag ((readSectionOwner_active p s code lo hi).trans (by rw [readAnswer_of_section _ hk hle]))
  · exact exec_refused h tag ((readSectionOwner_staged p s code lo hi (claimOf_owner hc ho)).trans (onClaim_inFlight ht _ _))
  · exact exec_ok h tag ((readSectionOwner_staged p s code lo hi (claimOf_owner hc ho)).trans
      ((onClaim_running ht _ _).trans (by rw [readAnswer_of_section _ hk hle]; rfl)))
  · exact exec_refused h tag (readSectionOwner_other p s code lo hi (claimOf_other hother))

/-! ### EDIT_PUT (R157, R158) -/

section
variable (code lo hi marks : Byte) (chunk : List Byte)

theorem putFields_sect : (putFields (code :: lo :: hi :: marks :: chunk)).sect = code.toNat := leNat_singleton code

theorem putFields_offset : (putFields (code :: lo :: hi :: marks :: chunk)).offset = lo.toNat + 256 * hi.toNat :=
  leNat_pair lo hi

theorem putFields_begins : (putFields (code :: lo :: hi :: marks :: chunk)).begins = decide (marks.toNat % 2 = 1) := by
  have hmarks : fieldAt (code :: lo :: hi :: marks :: chunk) 3 1 = marks.toNat := leNat_singleton marks
  simp only [putFields, hmarks]

theorem putFields_ends : (putFields (code :: lo :: hi :: marks :: chunk)).ends = decide (marks.toNat / 2 % 2 = 1) := by
  have hmarks : fieldAt (code :: lo :: hi :: marks :: chunk) 3 1 = marks.toNat := leNat_singleton marks
  simp only [putFields, hmarks]

end

theorem sectOfCode_outside {n : Nat} (h : n = 0 ∨ 8 < n) : sectOfCode n = none := by
  unfold sectOfCode
  split
  · rfl
  · exact List.getElem?_eq_none (by simp only [allSections, List.length_cons, List.length_nil]; omega)

section
variable {s : State} {p : Port} {payload : List Byte} {c : Claim}

theorem editPutOwner_other (h : ∀ c, s.prof.claim = some c → c.owner ≠ p) :
    editPutOwner p payload s = (s, .refused .notOwner 0 0) := by
  simp only [editPutOwner, claimOf_other h]

theorem editPutOwner_inFlight (hc : s.prof.claim = some c) (ho : c.owner = p) (ht : c.timer = none) :
    editPutOwner p payload s = (s, .refused .busy 0 0) := by
  simp only [editPutOwner, claimOf_owner hc ho, onClaim_inFlight ht]

/-- The owner's EDIT_PUT does what the claim makes of its fields. -/
theorem editPutOwner_owner (hc : s.prof.claim = some c) (ho : c.owner = p) (ht : c.timer ≠ none) {c' : Claim} {a : Answer}
    (h : (c.touch s.now).put s.prof.locked (putFields payload) = (c', a)) :
    editPutOwner p payload s = (s.setClaim (some c'), a) := by
  simp only [editPutOwner, claimOf_owner hc ho, onClaim_running ht, h]

end

section
variable {c : Claim} {locked : Bool} {f : PutFields} {k : Sect}

theorem put_unknown (h : sectOfCode f.sect = none) : c.put locked f = (c, .refused .badValue 0 0) := by
  simp only [Claim.put, h]

theorem put_locked (hk : sectOfCode f.sect = some k) (h : (k.metrological && locked) = true) :
    c.put locked f = (c.dropIf k, .refused .locked 0 0) := by
  simp only [Claim.put, hk, h, if_true]

theorem put_begin (hk : sectOfCode f.sect = some k) (h : (k.metrological && locked) = false) (hb : f.begins = true) :
    c.put locked f = c.putBegin k f := by
  simp only [Claim.put, hk, h, hb, Bool.false_eq_true, if_false, if_true]

theorem put_continue (hk : sectOfCode f.sect = some k) (h : (k.metrological && locked) = false) (hb : f.begins = false) :
    c.put locked f = c.putContinue k f := by
  simp only [Claim.put, hk, h, hb, Bool.false_eq_true, if_false]

theorem received_open (bytes : List Byte) :
    c.received k bytes false = ({ c with transfer := some { sect := k, bytes := bytes } }, .ok (leBytes 2 bytes.length)) := rfl

theorem received_ends (bytes : List Byte) : c.received k bytes true = c.finish k bytes := rfl

theorem putBegin_offset (h : f.offset ≠ 0) : c.putBegin k f = (c.drop, .refused .badSequence 0 0) := by
  rw [Claim.putBegin, if_pos h]

theorem putBegin_long (h0 : f.offset = 0) (h : k.size < f.chunk.length) :
    c.putBegin k f = (c.drop, .refused .badLength k.code 0) := by
  rw [Claim.putBegin, if_neg (not_not.mpr h0), if_pos h]

theorem putBegin_taken (h0 : f.offset = 0) (h : f.chunk.length ≤ k.size) :
    c.putBegin k f = c.drop.received k f.chunk f.ends := by
  rw [Claim.putBegin, if_neg (not_not.mpr h0), if_neg (Nat.not_lt.mpr h)]

theorem putContinue_none (h : c.transfer = none ∨ ∃ x, c.transfer = some x ∧ x.sect ≠ k) :
    c.putContinue k f = (c, .refused .badSequence 0 0) := by
  rcases h with h | ⟨x, h, hx⟩
  · simp only [Claim.putContinue, h]
  · simp only [Claim.putContinue, h, ne_eq, hx, not_false_iff, if_true]

section
variable {bytes : List Byte} (h : c.transfer = some { sect := k, bytes := bytes })
include h

theorem putContinue_offset (ho : f.offset ≠ bytes.length) : c.putContinue k f = (c.drop, .refused .badSequence 0 0) := by
  simp only [Claim.putContinue, h, ne_eq, not_true_eq_false, if_false, ho.symm, not_false_iff, if_true]

theorem putContinue_long (ho : f.offset = bytes.length) (hl : k.size < bytes.length + f.chunk.length) :
    c.putContinue k f = (c.drop, .refused .badLength k.code 0) := by
  simp only [Claim.putContinue, h, ne_eq, ho, not_true_eq_false, if_false, hl, if_true]

theorem putContinue_taken (ho : f.offset = bytes.length) (hl : bytes.length + f.chunk.length ≤ k.size) :
    c.putContinue k f = c.received k (bytes ++ f.chunk) f.ends := by
  simp only [Claim.putContinue, h, ne_eq, ho, not_true_eq_false, if_false, Nat.not_lt.mpr hl]

end
end

/-- A section that the lock does not close (R157). -/
theorem open_of {k : Sect} {locked : Bool} (h : k.metrological = false ∨ locked = false) :
    (k.metrological && locked) = false := by
  rcases h with h | h <;> simp [h]

section
variable {s : State} {p : Port} {code lo hi marks : Byte} {chunk : List Byte} {c c' : Claim} {k : Sect} {a : Answer}

/-- An EDIT_PUT of the owner with BEGIN, of a section the lock leaves open. -/
theorem editPutOwner_begin (hc : s.prof.claim = some c) (ho : c.owner = p) (ht : c.timer ≠ none)
    (hk : sectOfCode code.toNat = some k) (hopen : k.metrological = false ∨ s.prof.locked = false)
    (hbegin : marks.toNat % 2 = 1)
    (h : (c.touch s.now).putBegin k (putFields (code :: lo :: hi :: marks :: chunk)) = (c', a)) :
    editPutOwner p (code :: lo :: hi :: marks :: chunk) s = (s.setClaim (some c'), a) :=
  editPutOwner_owner hc ho ht ((put_begin (by rw [putFields_sect, hk]) (open_of hopen)
    (by rw [putFields_begins, hbegin]; rfl)).trans h)

/-- An EDIT_PUT of the owner without BEGIN, of a section the lock leaves open. -/
theorem editPutOwner_continue (hc : s.prof.claim = some c) (ho : c.owner = p) (ht : c.timer ≠ none)
    (hk : sectOfCode code.toNat = some k) (hopen : k.metrological = false ∨ s.prof.locked = false)
    (hbegin : marks.toNat % 2 = 0)
    (h : (c.touch s.now).putContinue k (putFields (code :: lo :: hi :: marks :: chunk)) = (c', a)) :
    editPutOwner p (code :: lo :: hi :: marks :: chunk) s = (s.setClaim (some c'), a) :=
  editPutOwner_owner hc ho ht ((put_continue (by rw [putFields_sect, hk]) (open_of hopen)
    (by rw [putFields_begins, hbegin]; rfl)).trans h)

end

theorem ends_clear {marks : Byte} (h : marks.toNat / 2 % 2 = 0) : decide (marks.toNat / 2 % 2 = 1) = false :=
  decide_eq_false (by omega)

/-- Settles O39: the claim's owner is told by the first case of R157 that fits. -/
theorem editPutTransfers : Obligations.EditPutTransfers := by
  refine ⟨fun s p tag code lo hi marks chunk h => ⟨fun hother => ?_, fun c hc ho ht => ?_, fun c hc ho ht hcode => ?_⟩, ?_,
    rfl, fun k => by cases k <;> rfl, rfl, fun k => by cases k <;> simp [Sect.metrological]⟩
  · exact exec_refused h tag (editPutOwner_other hother)
  · exact exec_refused h tag (editPutOwner_inFlight hc ho ht)
  · exact exec_refused h tag (editPutOwner_owner hc ho ht (put_unknown (by rw [putFields_sect, sectOfCode_outside hcode])))
  intro s p tag code lo hi marks chunk k c offset h hk hc ho ht hoffset
  have hat : (putFields (code :: lo :: hi :: marks :: chunk)).offset = offset := by rw [putFields_offset, hoffset]
  refine ⟨fun hmetro hlock => ?_, fun hopen hbegin => ⟨fun hne => ?_, fun h0 hlong => ?_, fun h0 hfits hend => ?_⟩,
    fun hopen hbegin => ⟨fun hnone => ?_, fun bytes hx => ⟨fun hne => ?_, fun heq hlong => ?_, fun heq hfits hend => ?_⟩⟩⟩
  · exact exec_refused h tag (editPutOwner_owner hc ho ht (put_locked (by rw [putFields_sect, hk]) (by rw [hmetro, hlock]; rfl)))
  · exact exec_refused h tag (editPutOwner_begin hc ho ht hk hopen hbegin (putBegin_offset (hat ▸ hne)))
  · exact exec_refused h tag (editPutOwner_begin hc ho ht hk hopen hbegin (putBegin_long (hat.trans h0) hlong))
  · exact exec_ok h tag (editPutOwner_begin hc ho ht hk hopen hbegin ((putBegin_taken (hat.trans h0) hfits).trans
      (by rw [putFields_ends, ends_clear hend, received_open]; rfl)))
  · exact exec_refused h tag (editPutOwner_continue hc ho ht hk hopen hbegin (putContinue_none hnone))
  · exact exec_refused h tag (editPutOwner_continue hc ho ht hk hopen hbegin (putContinue_offset hx (hat ▸ hne)))
  · exact exec_refused h tag (editPutOwner_continue hc ho ht hk hopen hbegin (putContinue_long hx (hat.trans heq) hlong))
  · exact exec_ok h tag (editPutOwner_continue hc ho ht hk hopen hbegin ((putContinue_taken (c := c.touch s.now) hx (hat.trans heq) hfits).trans
      (by rw [putFields_ends, ends_clear hend, received_open, List.length_append]; rfl)))

/-! ### COMMIT (R152, R161) -/

theorem firstFailing_eq_some {checks : List Bool} {i : Nat} (hi : i < checks.length) (h : checks[i] = false)
    (hb : ∀ j, (hj : j < i) → checks[j] = true) : firstFailing checks = some i :=
  List.findIdx?_eq_some_iff_getElem.mpr ⟨hi, by simp [h], fun j hj => by simp [hb j hj]⟩

theorem firstFailing_eq_none_iff {checks : List Bool} : firstFailing checks = none ↔ ∀ b ∈ checks, b = true := by
  simp [firstFailing, List.findIdx?_eq_none_iff]

/-- The first entry of a vector that fails a check. -/
theorem firstFailing_vector {α : Type} {n : Nat} {v : Vector α n} {f : α → Bool} (i : Fin n) (h : f v[i] = false)
    (hb : ∀ j : Fin n, j < i → f v[j] = true) : firstFailing (v.toList.map f) = some i.val := by
  refine firstFailing_eq_some (by simp) (by simpa using h) fun j hj => ?_
  simpa using hb ⟨j, by omega⟩ hj

theorem firstFailing_lanes {f : LaneIx → Bool} (l : LaneIx) (h : f l = false) (hb : ∀ k : LaneIx, k < l → f k = true) :
    firstFailing (allLanes.map f) = some l.val := by
  have hall (j : Nat) (hj : j < (allLanes.map f).length) : (allLanes.map f)[j] = f ⟨j, by simpa [allLanes] using hj⟩ := by
    have hlanes : allLanes = List.finRange 6 := by decide
    simp [hlanes]
  refine firstFailing_eq_some (by simp [allLanes]) ((hall _ _).trans h) fun j hj => (hall _ _).trans (hb _ hj)

theorem channelInCount_iff (p : Profile) (c : ChanIx) : channelInCount p p.strips[c] = true ↔ ¬ ChannelAboveCount p c := by
  unfold channelInCount ChannelAboveCount
  cases h : p.strips[c].lane with
  | none => simp [laneNumber]
  | some l => simp [laneNumber]

theorem laneCounts_iff (p : Profile) (l : LaneIx) : laneCounts p l = true ↔ LaneCounts p l := by
  simp [laneCounts, LaneCounts]

theorem rowComplete_iff (p : Profile) (l : LaneIx) (r : StripRow) : rowComplete p l r = true ↔
    ∀ side : StripSide, ∃ c : ChanIx, p.strips[c].lane = some l ∧ p.strips[c].row = r ∧ p.strips[c].side = side := by
  have hany (side : StripSide) : p.strips.toList.any (fun e =>
      decide (e.lane = some l) && decide (e.row = r) && decide (e.side = side)) = true
      ↔ ∃ c : ChanIx, p.strips[c].lane = some l ∧ p.strips[c].row = r ∧ p.strips[c].side = side := by
    rw [List.any_eq_true]
    constructor
    · rintro ⟨e, he, h⟩
      obtain ⟨i, hi, rfl⟩ := List.mem_iff_getElem.mp he
      exact ⟨⟨i, by simpa using hi⟩, by simpa [and_assoc] using h⟩
    · rintro ⟨c, h⟩
      exact ⟨p.strips[c], by simp [Fin.getElem_fin], by simpa [and_assoc] using h⟩
  simp only [rowComplete, Bool.and_eq_true, hany]
  exact ⟨fun h side => by cases side; exacts [h.1, h.2], fun h => ⟨h _, h _⟩⟩

theorem countingLaneHasRow_iff (p : Profile) (l : LaneIx) :
    (!laneCounts p l || rowComplete p l .rowA || rowComplete p l .rowB) = true ↔ ¬ LaneWithoutRow p l := by
  have hrows : (∃ r : StripRow, rowComplete p l r = true) ↔ rowComplete p l .rowA = true ∨ rowComplete p l .rowB = true :=
    ⟨fun ⟨r, hr⟩ => by cases r; exacts [.inl hr, .inr hr], fun h => h.elim (⟨_, ·⟩) (⟨_, ·⟩)⟩
  simp only [LaneWithoutRow, ← laneCounts_iff, ← rowComplete_iff, hrows]
  cases laneCounts p l <;> cases rowComplete p l .rowA <;> simp

theorem countingLaneHasProbe_iff (p : Profile) (l : LaneIx) :
    (!laneCounts p l || p.probes.entries[p.lanes[l].primary].enabled) = true ↔ ¬ LaneWithoutProbe p l := by
  simp only [LaneWithoutProbe, ← laneCounts_iff]
  cases laneCounts p l <;> simp

theorem channelsInCount {p : Profile} (h : ∀ c, ¬ ChannelAboveCount p c) :
    firstFailing (p.strips.toList.map (channelInCount p)) = none := by
  refine firstFailing_eq_none_iff.mpr fun b hb => ?_
  obtain ⟨e, he, rfl⟩ := List.mem_map.mp hb
  obtain ⟨i, hi, rfl⟩ := List.mem_iff_getElem.mp he
  exact (channelInCount_iff p ⟨i, by simpa using hi⟩).mpr (h _)

theorem firstFailing_allLanes_none {f : LaneIx → Bool} (h : ∀ l, f l = true) : firstFailing (allLanes.map f) = none := by
  refine firstFailing_eq_none_iff.mpr fun b hb => ?_
  obtain ⟨l, -, rfl⟩ := List.mem_map.mp hb
  exact h l

/-- The cross-checks of COMMIT say what R161 says. -/
theorem crossChecked (p : Profile) : CrossChecked p where
  channel c hc hb := by
    have hfirst := firstFailing_vector (v := p.strips) (f := channelInCount p) c
      (Bool.eq_false_iff.mpr fun h => (channelInCount_iff p c).mp h hc) fun k hk => (channelInCount_iff p k).mpr (hb k hk)
    simp only [inconsistency, hfirst]
  row l hch hl hb := by
    have hfirst := firstFailing_lanes l (Bool.eq_false_iff.mpr fun h => (countingLaneHasRow_iff p l).mp h hl)
      fun k hk => (countingLaneHasRow_iff p k).mpr (hb k hk)
    simp only [inconsistency, channelsInCount hch, hfirst]
  probe l hch hrow hl hb := by
    have hfirst := firstFailing_lanes l (Bool.eq_false_iff.mpr fun h => (countingLaneHasProbe_iff p l).mp h hl)
      fun k hk => (countingLaneHasProbe_iff p k).mpr (hb k hk)
    have hrows := firstFailing_allLanes_none fun l => (countingLaneHasRow_iff p l).mpr (hrow l)
    simp only [inconsistency, channelsInCount hch, hrows, hfirst]
  passes hch hrow hprobe := by
    have hrows := firstFailing_allLanes_none fun l => (countingLaneHasRow_iff p l).mpr (hrow l)
    have hprobes := firstFailing_allLanes_none fun l => (countingLaneHasProbe_iff p l).mpr (hprobe l)
    simp only [inconsistency, channelsInCount hch, hrows, hprobes]

section
variable {s : State} {p : Port} {c : Claim}

theorem commitOwner_other (h : ∀ c, s.prof.claim = some c → c.owner ≠ p) :
    commitOwner p s = (s, .refused .notOwner 0 0) := by
  simp only [commitOwner, claimOf_other h]

theorem commitOwner_inFlight (hc : s.prof.claim = some c) (ho : c.owner = p) (ht : c.timer = none) :
    commitOwner p s = (s, .refused .busy 0 0) := by
  simp only [commitOwner, claimOf_owner hc ho, onClaim_inFlight ht]

theorem editDiscardOwner_inFlight (hc : s.prof.claim = some c) (ho : c.owner = p) (ht : c.timer = none) :
    editDiscardOwner p s = (s, .refused .busy 0 0) := by
  simp only [editDiscardOwner, claimOf_owner hc ho, onClaim_inFlight ht]

theorem commitOwner_fails (hc : s.prof.claim = some c) (ho : c.owner = p) (ht : c.timer ≠ none) {a : Answer}
    (h : s.commitFailure c = some a) : commitOwner p s = (s.setClaim (some (c.touch s.now)), a) := by
  simp only [commitOwner, claimOf_owner hc ho, onClaim_running ht, h]

theorem commitOwner_passes (hc : s.prof.claim = some c) (ho : c.owner = p) (ht : c.timer ≠ none)
    (h : s.commitFailure c = none) :
    commitOwner p s = ((s.setClaim (some { c with timer := none })).placeReason .commit, .deferred .commit) := by
  simp only [commitOwner, claimOf_owner hc ho, onClaim_running ht, h]

theorem commitFailure_transfer (h : c.transfer ≠ none) : s.commitFailure c = some (.refused .badSequence 0 0) := by
  rw [State.commitFailure, if_pos (Option.isSome_iff_ne_none.mpr h)]

theorem commitFailure_sealed (h : c.transfer = none) (hs : s.prof.locked = true ∨ s.prof.lockPending = true)
    (hm : metroDiffer c.staged s.prof.active = true) : s.commitFailure c = some (.refused .locked 0 0) := by
  have hsealed : s.prof.sealed = true := by simpa only [ProfileStore.sealed, Bool.or_eq_true] using hs
  simp [State.commitFailure, h, hsealed, hm]

theorem commitFailure_judged (h : c.transfer = none)
    (hs : (s.prof.locked = false ∧ s.prof.lockPending = false) ∨ metroDiffer c.staged s.prof.active = false) :
    s.commitFailure c = (inconsistency c.staged).map (fun x => .refused .inconsistent x.1.code x.2) := by
  have hopen : (s.prof.sealed && metroDiffer c.staged s.prof.active) = false := by
    rcases hs with ⟨h1, h2⟩ | h
    · simp [ProfileStore.sealed, h1, h2]
    · simp [h]
  simp only [State.commitFailure, h, Option.isSome_none, hopen, Bool.false_eq_true, if_false]
  cases inconsistency c.staged <;> rfl

end

theorem metroDiffer_iff (a b : Profile) : metroDiffer a b = true ↔ a.strips ≠ b.strips ∨ a.lanes ≠ b.lanes
    ∨ a.tempcomp ≠ b.tempcomp ∨ a.speedcomp ≠ b.speedcomp ∨ a.probes ≠ b.probes ∨ a.autocal ≠ b.autocal := by
  simp only [metroDiffer, Bool.or_eq_true, decide_eq_true_eq, or_assoc]

/-- Settles O42: the claim, then the transfer, the lock and the cross-checks, in R161's order. -/
theorem commitIsJudged : Obligations.CommitIsJudged := by
  refine ⟨metroDiffer_iff, crossChecked, fun s p tag h => ⟨fun hother => ?_, fun c hc ho ht => ⟨?_, fun hd => ?_⟩,
    fun c hc ho ht => ⟨fun hx => ?_, fun hx hs hm => ?_, fun hx hs => ⟨fun k i hi => ?_, fun hi => ?_⟩⟩⟩⟩
  · exact exec_refused h tag (commitOwner_other hother)
  · exact exec_refused h tag (commitOwner_inFlight hc ho ht)
  · exact exec_refused hd tag (editDiscardOwner_inFlight hc ho ht)
  · exact exec_refused h tag (commitOwner_fails hc ho ht (commitFailure_transfer hx))
  · exact exec_refused h tag (commitOwner_fails hc ho ht (commitFailure_sealed hx hs hm))
  · exact exec_refused h tag (commitOwner_fails hc ho ht (by rw [commitFailure_judged hx hs, hi]; rfl))
  · have howner := commitOwner_passes hc ho ht (by rw [commitFailure_judged hx hs, hi]; rfl)
    refine (exec_requestCommand_admitted h tag).trans ?_
    rw [ownerOf, howner, answer_deferred, State.port_placeReason, State.setClaim, State.port_setProf]
    rfl

/-! ### The ownership timeout and the start of a write (R156, R165) -/

section
variable {s : State}

theorem exec_imageWriteStart {k : Reason} (hruns : s.heldLow = false) (hw : s.prof.write = none)
    (h : s.prof.reasons.first = some k) : exec .imageWriteStart s = .next (s.startWrite k) := by
  refine (whileRunning_of_runs hruns _).trans ?_
  simp only [State.dueWrite, hw, h]

/-- The first reason in the order COMMIT, LOCK, BOOT, LEARNED (R165). -/
theorem first_eq {r : ReasonSet} {k : Reason} (h : r.has k = true) (hcommit : r.commit = true → k = .commit)
    (hlock : r.lock = true → k = .commit ∨ k = .lock) (hboot : r.boot = true → k ≠ .learned) : r.first = some k := by
  obtain ⟨commit, lock, boot, learned⟩ := r
  cases k <;> cases commit <;> cases lock <;> cases boot <;> simp_all [ReasonSet.has, ReasonSet.first]

theorem workingCal_lane (l : LaneIx) :
    s.workingCal[l] = { fA := s.cal[l].fA, updates := s.cal[l].updates, limit := s.cal[l].limit } := by
  simp [State.workingCal]

/-- The image a COMMIT write carries, once the set is claimed (R165). -/
theorem commitImage_of_claim {c : Claim} (hc : s.prof.claim = some c) :
    s.commitImage.profile = c.staged ∧ s.commitImage.locked = s.prof.locked
      ∧ s.commitImage.audit = (if metroDiffer c.staged s.prof.active = true then min (s.prof.audit + 1) 4294967295
          else s.prof.audit)
      ∧ ∀ l : LaneIx, s.commitImage.cal[l].fA =
          if metroDiffer c.staged s.prof.active = true then c.staged.lanes[l].fA else s.cal[l].fA := by
  have hstaged : s.stagedSet = c.staged := by simp only [State.stagedSet, hc]
  refine ⟨hstaged, rfl, ?_, fun l => ?_⟩
  · simp only [State.commitImage, hstaged]
    rfl
  · simp only [State.commitImage, hstaged]
    split
    · simp [committedCal]
    · rw [workingCal_lane]

theorem writeContent_boot (k : Reason) : (s.writeContent k).boot = s.prof.boot := by cases k <;> rfl

end

/-- Settles O43: the claim is released at its timeout, and a write carries what its reason says. -/
theorem timeoutAndWriteStart : Obligations.TimeoutAndWriteStart := by
  refine ⟨fun s c t0 hruns hc ht hpassed => ?_, fun s k hruns hw hhas hcommit hlock hboot => ?_⟩
  · exact whenDue_of_due hruns (by simp only [State.ownershipDue, State.ownershipStart, hc, Option.bind_some, ht, hpassed]) _
  · refine ⟨{ reason := k, content := s.writeContent k, start := s.now },
      exec_imageWriteStart hruns hw (first_eq hhas hcommit hlock hboot), rfl, rfl, ?_, ?_, ?_, writeContent_boot k, ?_⟩
    · rintro rfl
      exact ⟨rfl, rfl, rfl⟩
    · rintro (rfl | rfl) <;> exact ⟨rfl, rfl, rfl⟩
    · rintro rfl c hc
      exact commitImage_of_claim hc
    · intro hk l
      cases k with
      | commit => exact absurd rfl hk
      | lock => exact workingCal_lane l
      | boot => exact workingCal_lane l
      | learned => exact workingCal_lane l

/-! ### The end of a write (R162, R166, R167, R170) -/

section
variable {s : State} {p : Port} {k : DeferredKind} {tag : Byte} (payload : List Byte)

theorem endDeferred_held (h : (s.port p).deferred = some { kind := k, tag := tag }) :
    s.endDeferred p k payload = s.setPort p { s.port p with
      deferred := none, replies := (s.port p).replies ++ [plainReply k.request.code tag payload] } := by
  simp only [State.endDeferred, h, if_true, State.placeReply, State.port_setPort, State.setPort_setPort]

theorem endDeferred_none (h : (s.port p).deferred = none) : s.endDeferred p k payload = s := by
  simp only [State.endDeferred, h]

theorem endDeferred_other {d : Deferred} (h : (s.port p).deferred = some d) (hd : d.kind ≠ k) :
    s.endDeferred p k payload = s := by
  simp only [State.endDeferred, h, if_neg hd]

end

theorem exec_imageWriteComplete {s : State} {w : ImageWrite} (agrees : Bool) (hruns : s.heldLow = false)
    (hw : s.prof.write = some w) (hpassed : hasPassed w.start 1 s.now = true) :
    exec (.imageWriteComplete agrees) s = .next ((s.readBack w agrees).serveReason w agrees) := by
  have hending : s.writeEnding = some w := by simp [State.writeEnding, hw, Option.filter, hpassed]
  refine (whileRunning_of_runs hruns _).trans ?_
  simp only [hending]

/-- Settles O45: after the readback the owner of the write's reason takes the outcome. -/
theorem writeServesItsReason : Obligations.WriteServesItsReason := by
  rintro s w agrees prof hruns hw hpassed rfl
  rw [exec_imageWriteComplete agrees hruns hw hpassed]
  refine ⟨fun hr => ?_, fun hr hinit => ?_, fun hr => ?_, fun c tag hr hfailed hc hd => ?_⟩
  · simp only [State.serveReason, hr]
    rfl
  · have hinit' : (s.readBack w agrees).site.state = .init := hinit
    simp only [State.serveReason, hr, State.bootDone, if_pos hinit']
    rfl
  · simp only [State.serveReason, hr, State.lockDone]
    cases agrees <;> rfl
  · subst hfailed
    have hclaim : (s.readBack w false).prof.claim = some c := hc
    simp only [State.serveReason, hr, State.commitFailed, State.replyToCommit, hclaim, Option.map_some,
      Bool.false_eq_true, if_false]
    have hport : ((s.readBack w false).setClaim (some (c.touch (s.readBack w false).now))).port c.owner = s.port c.owner := by
      simp only [State.setClaim, State.readBack, State.port_setProf]
    exact congrArg Host.Outcome.next ((endDeferred_held _ (hport ▸ hd)).trans (by rw [hport]; rfl))

end Sys2Proof.Machine
end

section
/-! Chapter 9: the receiver (R174 to R176), the taking of a frame (R177), and the transmitter (R183 to R186). -/

namespace Sys2Proof.Machine

open Sys2Proof

/-! ### One byte (R175) -/

/-- The state with a port's receiver moved by a byte received now. -/
def State.receiving (s : State) (p : Port) (rx : RxState) : State :=
  s.setPort p { s.port p with rx := rx, gapStart := s.now }

section
variable {s : State} {p : Port} {b : Byte} {rx rx' : RxState}

theorem receiveByte_none (h : (s.port p).rx = rx) (ht : rx.take b = (rx', .none)) :
    s.receiveByte p b = s.receiving p rx' := by
  simp only [State.receiveByte, PortState.received, h, ht]
  rfl

theorem receiveByte_error {e : LinkError} (h : (s.port p).rx = rx) (ht : rx.take b = (rx', .error e)) :
    s.receiveByte p b = (s.receiving p rx').linkError p e := by
  simp only [State.receiveByte, PortState.received, h, ht]
  rfl

theorem receiveByte_frame {kind tag : Byte} {payload : List Byte} (h : (s.port p).rx = rx)
    (ht : rx.take b = (rx', .frame kind tag payload)) :
    s.receiveByte p b = (s.receiving p rx').takeFrame p kind tag payload := by
  simp only [State.receiveByte, PortState.received, h, ht]
  rfl

theorem exec_rxByte (hruns : s.heldLow = false) (p : Port) (b : Byte) : exec (.rxByte p b) s = .next (s.receiveByte p b) :=
  whileRunning_of_runs hruns _

theorem receiving_receiveByte (ht : rx.take b = (rx', .none)) :
    (s.receiving p rx).receiveByte p b = s.receiving p rx' := by
  rw [receiveByte_none (rx := rx) (by rw [State.receiving, State.port_setPort]) ht]
  simp only [State.receiving, State.port_setPort, State.setPort_setPort, State.setPort_now]

end

/-! ### A whole frame (R174, R175) -/

theorem receiveAll_cons (s : State) (p : Port) (b : Byte) (bs : List Byte) :
    s.receiveAll p (b :: bs) = (s.receiveByte p b).receiveAll p bs := rfl

theorem receiveAll_append (s : State) (p : Port) (bs cs : List Byte) :
    s.receiveAll p (bs ++ cs) = (s.receiveAll p bs).receiveAll p cs := List.foldl_append

section
variable (s : State) (p : Port) {len : Nat} (kind tag : Byte)

/-- The payload's bytes are gathered until LEN of them have come (R175). -/
theorem receiveAll_payload : ∀ (rest got : List Byte), rest ≠ [] → got.length + rest.length = len →
    (s.receiving p (.payload len kind tag got)).receiveAll p rest = s.receiving p (.check len kind tag (got ++ rest) none)
  | [], _, h, _ => absurd rfl h
  | [b], got, _, hlen => by
    have htake : (RxState.payload len kind tag got).take b = (.check len kind tag (got ++ [b]) none, .none) := by
      simp only [RxState.take]
      exact if_pos (by simpa using hlen.ge)
    exact receiving_receiveByte htake
  | b :: c :: rest, got, _, hlen => by
    have htake : (RxState.payload len kind tag got).take b = (.payload len kind tag (got ++ [b]), .none) := by
      simp only [RxState.take]
      exact if_neg (by simp at hlen ⊢; omega)
    rw [receiveAll_cons, receiving_receiveByte htake,
      receiveAll_payload (c :: rest) (got ++ [b]) (List.cons_ne_nil _ _) (by simp at hlen ⊢; omega), List.append_assoc]
    rfl

/-- LEN, KIND, TAG and the payload bring the receiver to the check (R174, R175). -/
theorem receiveAll_body {payload : List Byte} (hlen : payload.length ≤ 1024) :
    (s.receiving p (.length none)).receiveAll p (leBytes 2 payload.length ++ [kind, tag] ++ payload)
      = s.receiving p (.check payload.length kind tag payload none) := by
  have hle : leBytes 2 payload.length = [BitVec.ofNat 8 payload.length, BitVec.ofNat 8 (payload.length / 256)] := rfl
  have hread : (BitVec.ofNat 8 payload.length).toNat + 256 * (BitVec.ofNat 8 (payload.length / 256)).toNat = payload.length :=
    ((leBytes_two_eq_iff (by omega) _ _).mp hle).symm
  have hhigh : (RxState.length (some (BitVec.ofNat 8 payload.length))).take (BitVec.ofNat 8 (payload.length / 256))
      = (.header payload.length none, .none) := by
    simp only [RxState.take, hread, if_pos hlen]
  rw [receiveAll_append, hle]
  simp only [List.cons_append, List.nil_append, receiveAll_cons]
  rw [receiving_receiveByte (rx' := .length (some (BitVec.ofNat 8 payload.length))) rfl, receiving_receiveByte hhigh,
    receiving_receiveByte (rx' := .header payload.length (some kind)) rfl]
  cases payload with
  | nil => exact congrArg (State.receiveAll · p []) (receiving_receiveByte rfl)
  | cons b rest =>
    have htag : (RxState.header (b :: rest).length (some kind)).take tag = (.payload (b :: rest).length kind tag [], .none) := by
      simp only [RxState.take]
      exact if_pos (Nat.succ_pos rest.length)
    rw [receiving_receiveByte htag]
    exact receiveAll_payload s p kind tag (b :: rest) [] (List.cons_ne_nil _ _) (by simp)

end

theorem take_goodCheck {len : Nat} {kind tag lo b : Byte} {got : List Byte}
    (h : (crc16 (leBytes 2 len ++ [kind, tag] ++ got)).toNat = lo.toNat + 256 * b.toNat) :
    (RxState.check len kind tag got (some lo)).take b = (.hunt, .frame kind tag got) := by
  simp only [RxState.take]
  exact if_pos ((frameCheck_eq_iff _ _ _ _ _ _).mpr h)

theorem take_badCheck {len : Nat} {kind tag lo b : Byte} {got : List Byte}
    (h : (crc16 (leBytes 2 len ++ [kind, tag] ++ got)).toNat ≠ lo.toNat + 256 * b.toNat) :
    (RxState.check len kind tag got (some lo)).take b = (.hunt, .error .check) := by
  simp only [RxState.take]
  exact if_neg fun hc => h ((frameCheck_eq_iff _ _ _ _ _ _).mp hc)

/-- The bytes of a frame, received from HUNT, are taken as that frame (R174, R175). -/
theorem receiveAll_frameBytes {s : State} {p : Port} (h : (s.port p).rx = .hunt) (kind tag : Byte) {payload : List Byte}
    (hlen : payload.length ≤ 1024) :
    s.receiveAll p (frameBytes kind tag payload) = (s.receiving p .hunt).takeFrame p kind tag payload := by
  obtain ⟨lo, hi, hcheck⟩ : ∃ lo hi, leBytes 2 (crc16 (leBytes 2 payload.length ++ [kind, tag] ++ payload)).toNat = [lo, hi] :=
    ⟨_, _, rfl⟩
  have hcrc := (leBytes_two_eq_iff (BitVec.isLt _) lo hi).mp hcheck
  have hframe : frameBytes kind tag payload =
      0x5A :: (leBytes 2 payload.length ++ [kind, tag] ++ payload) ++ [lo, hi] := by
    simp only [frameBytes, hcheck, List.cons_append, List.nil_append]
  rw [hframe, receiveAll_append, receiveAll_cons s, receiveByte_none h (rx' := .length none) rfl,
    receiveAll_body s p kind tag hlen, receiveAll_cons,
    receiving_receiveByte (rx' := .check payload.length kind tag payload (some lo)) rfl, receiveAll_cons,
    receiveByte_frame (rx := .check payload.length kind tag payload (some lo)) (by rw [State.receiving, State.port_setPort])
      (take_goodCheck hcrc)]
  simp only [State.receiving, State.port_setPort, State.setPort_setPort, State.setPort_now]
  rfl

/-! ### The request of a frame (R177) -/

theorem requestOfKind_code (k : ReqKind) : requestOfKind k.code = some k := by cases k <;> rfl

theorem takeFrame_code (s : State) (p : Port) (k : ReqKind) (tag : Byte) (payload : List Byte) :
    s.takeFrame p k.code tag payload = s.takeRequest k p tag payload (ownerOf k p payload) := by
  simp only [State.takeFrame, requestOfKind_code]

theorem takeFrame_outside {kind : Byte} (h : kind.toNat = 0 ∨ 18 < kind.toNat) (s : State) (p : Port) (tag : Byte)
    (payload : List Byte) : s.takeFrame p kind tag payload = s.unknownKind p kind tag := by
  simp only [State.takeFrame, requestOfKind_outside h]

section
variable {s : State} (hruns : s.heldLow = false) (p : Port) (tag : Byte) (payload : List Byte)
include hruns

theorem exec_requestCommand_takeFrame (k : ReqKind) :
    exec (requestCommand k p tag payload) s = .next (s.takeFrame p k.code tag payload) := by
  rw [exec_requestCommand, whileRunning_of_runs hruns, takeFrame_code]

theorem exec_unknownKind_takeFrame {kind : Byte} (h : kind.toNat = 0 ∨ 18 < kind.toNat) :
    exec (.unknownKindRequest p kind tag payload) s = .next (s.takeFrame p kind tag payload) := by
  rw [exec_unknownKind hruns h, takeFrame_outside h]

end

/-- Settles O53: the receiver takes a frame's bytes in turn, and the frame's last byte runs its request. -/
theorem wellFormedFrameIsTaken : Obligations.WellFormedFrameIsTaken := by
  refine ⟨fun s p kind tag payload h hlen => receiveAll_frameBytes h kind tag hlen,
    fun s p kind tag payload hruns => ⟨?_, exec_unknownKind_takeFrame hruns p tag payload⟩,
    fun s p b lo kind tag len got hruns hrx hcrc => ?_⟩
  · rintro k rfl
    exact exec_requestCommand_takeFrame hruns p tag payload k
  · have hlast := (exec_rxByte hruns p b).trans (congrArg Host.Outcome.next (receiveByte_frame hrx (take_goodCheck hcrc)))
    have hruns' : (s.receiving p .hunt).heldLow = false := (State.setPort_heldLow _ _ _).trans hruns
    refine ⟨?_, fun h => hlast.trans (exec_unknownKind_takeFrame hruns' p tag got h).symm⟩
    rintro k rfl
    exact hlast.trans (exec_requestCommand_takeFrame hruns' p tag got k).symm

/-! ### Link errors (R175, R176) -/

section
variable {s : State} {p : Port} {x : PortState}

theorem setPort_replies (h : x.replies = (s.port p).replies) (q : Port) : ((s.setPort p x).port q).replies = (s.port q).replies := by
  rcases eq_or_eq_otherPort p q with rfl | rfl
  · rw [State.port_setPort, h]
  · rw [State.port_setPort_ne _ (otherPort_ne p)]

theorem setPort_events (h : x.events = (s.port p).events) (q : Port) : ((s.setPort p x).port q).events = (s.port q).events := by
  rcases eq_or_eq_otherPort p q with rfl | rfl
  · rw [State.port_setPort, h]
  · rw [State.port_setPort_ne _ (otherPort_ne p)]

end

/-- A byte has been lost or a frame refused: the receiver is in HUNT, the error is counted and LINK_ERROR raised, and nothing
but the ports has moved (R175, R176). -/
structure FrameLost (s : State) (p : Port) (e : LinkError) (t : State) : Prop where
  hunts : (t.port p).rx = .hunt
  links : (t.port p).links = (s.port p).links.count e
  replies : ∀ q, (t.port q).replies = (s.port q).replies
  event : ∀ q, RaisedOnce .linkError (portBit p) (s.port q).events (t.port q).events
  keeps : KeepsAllBut [.ports] s t

theorem frameLost {s : State} {p : Port} {x : PortState} (hrx : x.rx = .hunt) (hlinks : x.links = (s.port p).links)
    (hreplies : x.replies = (s.port p).replies) (hevents : x.events = (s.port p).events) (e : LinkError) :
    FrameLost s p e ((s.setPort p x).linkError p e) where
  hunts := by rw [linkError_rx, State.port_setPort, hrx]
  links := by rw [linkError_links, State.port_setPort, hlinks]
  replies q := by rw [linkError_replies, setPort_replies hreplies]
  event q := by
    have h := linkError_raises (s.setPort p x) p q e
    rwa [setPort_events hevents] at h
  keeps := (KeepsAllBut.setPort s p x).trans (keepsAllBut_linkError _ p e)

theorem exec_rxByte_lost {s : State} {p : Port} {b : Byte} {rx : RxState} {e : LinkError} (hruns : s.heldLow = false)
    (h : (s.port p).rx = rx) (ht : rx.take b = (.hunt, .error e)) :
    ∃ t, exec (.rxByte p b) s = .next t ∧ FrameLost s p e t :=
  ⟨_, exec_rxByte hruns p b, receiveByte_error h ht ▸
    frameLost (x := { s.port p with rx := .hunt, gapStart := s.now }) rfl rfl rfl rfl e⟩

theorem inFrame_of_not_hunt {x : RxState} (h : x ≠ .hunt) : x.inFrame = true := by
  cases x with
  | hunt => exact absurd rfl h
  | length | header | payload | check => rfl

/-- Settles O54: each state of the receiver takes its byte, and every loss is counted and reported. -/
theorem receiverAndLinkErrors : Obligations.ReceiverAndLinkErrors := by
  refine ⟨fun s p b hruns => ⟨fun hrx => ?_, fun lo hrx => ⟨fun hle => ?_, fun hgt => ?_⟩, fun len kind tag got lo hrx hcrc => ?_⟩,
    fun s p hruns => ⟨fun e => ?_, fun hrx hpassed => ?_⟩⟩
  · rw [exec_rxByte hruns]
    by_cases hb : b = 0x5A
    · rw [if_pos hb, receiveByte_none hrx (rx' := .length none) (if_pos hb)]
      rfl
    · rw [if_neg hb, receiveByte_none hrx (rx' := .hunt) (if_neg hb)]
      rfl
  · rw [exec_rxByte hruns, receiveByte_none hrx (rx' := .header (lo.toNat + 256 * b.toNat) none) (if_pos hle)]
    rfl
  · obtain ⟨t, ht, hl⟩ := exec_rxByte_lost (b := b) hruns hrx (if_neg (Nat.not_le.mpr hgt))
    exact ⟨t, ht, hl.hunts, hl.links, hl.replies p, hl.event, hl.keeps⟩
  · obtain ⟨t, ht, hl⟩ := exec_rxByte_lost (b := b) hruns hrx (take_badCheck hcrc)
    exact ⟨t, ht, hl.hunts, hl.links, hl.replies p, hl.event, hl.keeps⟩
  · have hl : FrameLost s p (RxFault.error e) ((s.abandonFrame p).linkError p (RxFault.error e)) := frameLost (x := (s.port p).abandoned) rfl rfl rfl rfl _
    refine ⟨_, whileRunning_of_runs hruns _, hl.hunts, hl.links.trans ?_, hl.event, hl.replies, hl.keeps⟩
    cases e <;> rfl
  · have hl : FrameLost s p .gap ((s.abandonFrame p).linkError p .gap) := frameLost (x := (s.port p).abandoned) rfl rfl rfl rfl _
    have hdue : s.gapDue p = true := by
      rw [State.gapDue, PortState.gapDue, inFrame_of_not_hunt hrx, Bool.true_and]
      exact hpassed
    exact ⟨_, whenDue_of_due hruns hdue _, hl.hunts, hl.links, hl.event, hl.replies, hl.keeps⟩

/-! ### The transmitter (R183, R184, R186) -/

theorem exec_transmitComplete {s : State} {p : Port} {f : Sending} (hruns : s.heldLow = false) (h : (s.port p).tx = some f) :
    exec (.transmitComplete p) s = .next (s.frameSent p f) := by
  refine (whileRunning_of_runs hruns _).trans ?_
  simp only [h]

theorem eventEntry_eq (x : PortState) (j : Fin 13) : x.eventEntry j =
    BitVec.ofNat 8 (j.val + 1) :: BitVec.ofNat 8 x.events[j].count :: leBytes 4 x.events[j].list.toNat := rfl

theorem eventPayload_length (x : PortState) : x.eventPayload.length = 1 + 6 * x.dueClasses.length := by
  have hentries : ∀ js : List (Fin 13), (js.flatMap x.eventEntry).length = 6 * js.length := by
    intro js
    induction js with
    | nil => rfl
    | cons j js ih => rw [List.flatMap_cons, List.length_append, ih, List.length_cons, eventEntry_eq]; simp [leBytes]; omega
  rw [PortState.eventPayload, leBytes_one, List.length_append, hentries]
  rfl

theorem mem_dueClasses (x : PortState) (i : Fin 13) :
    i ∈ x.dueClasses ↔ x.mask.getLsbD i.val = true ∧ 0 < x.events[i].count := by
  simp [PortState.dueClasses, PortState.classDue]

theorem clearDue_events (x : PortState) : x.clearDue.events =
    Vector.ofFn (fun j => if j ∈ x.dueClasses then { count := 0, list := 0 } else x.events[j]) := by
  simp only [PortState.clearDue, mem_dueClasses, PortState.classDue, Bool.and_eq_true, decide_eq_true_eq]
  rfl

theorem setPassedPort_port (s : State) (p : Port) : (s.setPassedPort p).port p = startPort p := by cases p <;> rfl

theorem setPassedPort_other (s : State) (p : Port) : (s.setPassedPort p).port (otherPort p) = s.port (otherPort p) := by
  cases p <;> rfl

theorem setPassedPort_stream (s : State) (p : Port) : (s.setPassedPort p).ports.stream = match p with
    | .cab => false
    | .svc => s.ports.stream := by cases p <;> rfl

theorem setPassedPort_temp (s : State) (p : Port) : (s.setPassedPort p).temp = s.temp.withoutRequestOf p := by
  cases p <;> rfl

theorem setPassedPort_site (s : State) (p : Port) : (s.setPassedPort p).site =
    if (s.port p).replies.any (fun r => r.endsRestart) then s.site.replySent else s.site := by cases p <;> rfl

theorem withoutRequestOf_eq (x : TempUnit) (p : Port) : x.withoutRequestOf p =
    { x with slot := if ∃ r, x.slot = some r ∧ r.port = p then none else x.slot } := by
  cases h : x.slot with
  | none => simp [TempUnit.withoutRequestOf, h]
  | some r => by_cases hr : r.port = p <;> simp [TempUnit.withoutRequestOf, h, hr, Option.filter]

/-- The end of a frame on a port over which a restart has passed (R171, R186). -/
theorem frameSent_passed {s : State} {p : Port} (h : (s.port p).setAfterFrame = true) (f : Sending) : s.frameSent p f =
    (s.setPassedPort p).setSite (if f.endsRestart then (s.setPassedPort p).site.replySent else (s.setPassedPort p).site) := by
  rw [frameSent_eq]
  simp only [h, if_true]
  split <;> rfl

theorem replySent_replySent (x : SiteCtl) : x.replySent.replySent = x.replySent := by
  simp [SiteCtl.replySent, Function.comp_def]

/-- Settles O55: the head of the reply list, an EVENT frame, and the end of a frame with the setting of a passed port. -/
theorem transmitterSends : Obligations.TransmitterSends := by
  refine ⟨fun s p r rest hruns htx hr => ?_, fun s p i due hruns htx hr hmask hcount hdue => ?_,
    fun s p f hruns htx hset => ⟨fun he => ?_, fun he => ?_⟩, fun s p f hruns htx hset => ?_⟩
  · have hnext : (s.port p).nextReply = some r := by simp [PortState.nextReply, htx, hr]
    refine (whileRunning_of_runs hruns _).trans ?_
    simp only [hnext, State.sendReply, PortState.send, hr, List.tail_cons]
  · have hdue' : due = (s.port p).dueClasses := hdue
    have hmem : i ∈ (s.port p).dueClasses := (mem_dueClasses _ i).mpr ⟨hmask, hcount⟩
    have hnext : (s.port p).eventNext = true := by
      simp [PortState.eventNext, htx, hr, List.ne_nil_of_mem hmem]
    subst hdue'
    refine ⟨(whenDue_of_due hruns hnext _).trans ?_, rfl, fun j => rfl, eventPayload_length _⟩
    rw [← clearDue_events]
    rfl
  · rw [exec_transmitComplete hruns htx, frameSent_eq]
    simp [hset, he]
  · rw [exec_transmitComplete hruns htx, frameSent_eq]
    simp [hset, he, SiteCtl.replySent]
  · rw [exec_transmitComplete hruns htx, frameSent_passed hset]
    have hport := setPassedPort_port s p
    refine ⟨_, rfl, ?_, ?_, ?_, setPassedPort_stream s p, ?_, ?_, ?_,
      (setPassedPort_keeps s p).trans ((KeepsAllBut.setSite _ _).mono (by decide))⟩
    · rw [State.port_setSite, hport]
      exact portAtStart_startPort p
    · rw [State.port_setSite, hport]
      rfl
    · rw [State.port_setSite, setPassedPort_other]
    · exact (setPassedPort_temp s p).trans (withoutRequestOf_eq _ p)
    · rintro ⟨r, hr, he⟩
      have hany : (s.port p).replies.any (fun r => r.endsRestart) = true := List.any_eq_true.mpr ⟨r, hr, he⟩
      simp only [State.setSite_site, setPassedPort_site, hany, if_true, replySent_replySent, ite_self]
      rfl
    · intro hnone
      have hany : (s.port p).replies.any (fun r => r.endsRestart) = false := List.any_eq_false.mpr fun r hr => by simp [hnone r hr]
      simp only [State.setSite_site, setPassedPort_site, hany, Bool.false_eq_true, if_false]
      cases f.endsRestart <;> rfl

end Sys2Proof.Machine
end

section
/-! Chapter 6: the record store (R126 to R130) and the layout of a record (chapter 9, Vehicle record). -/

namespace Sys2Proof.Machine

open Sys2Proof

/-! ### The offer to the store (R126, R127) -/

theorem storeHasRoom_iff (rs : List VehicleRec) (r : VehicleRec) :
    storeHasRoom rs r = true ↔ rs.length < 48 ∧ slotsUsed rs + r.axles.length ≤ 256 := by
  simp [storeHasRoom]

theorem offerToStore_room {s : State} {r : VehicleRec} (h : storeHasRoom s.store r = true) : s.offerToStore r =
    if s.store.length < s.prof.active.site.highWater ∧ s.prof.active.site.highWater ≤ s.store.length + 1 then
      (s.setStore (s.store ++ [r])).raise .storeHigh 0
    else s.setStore (s.store ++ [r]) := by
  simp only [State.offerToStore, h, if_true, Bool.and_eq_true, decide_eq_true_eq]

theorem offerToStore_full {s : State} {r : VehicleRec} (h : ¬ storeHasRoom s.store r = true) :
    s.offerToStore r = s.raiseAt .recordDropped r.lane.val := by
  simp only [State.offerToStore, h, if_false, Bool.false_eq_true]

/-- Settles O33: a record that fits joins at the young end, and one that does not is dropped. -/
theorem storeTakesOrDrops : Obligations.StoreTakesOrDrops := by
  refine fun s r => ⟨fun h => ?_, fun h => ?_, keepsAllBut_offerToStore s r⟩
  · rw [offerToStore_room ((storeHasRoom_iff _ _).mpr h)]
    refine ⟨by split <;> rfl, fun h1 h2 => ?_, fun hno => by rw [if_neg hno]; rfl⟩
    rw [if_pos ⟨h1, h2⟩]
    exact oneEvent_raise _ _ rfl
  · rw [offerToStore_full fun hr => h ((storeHasRoom_iff _ _).mp hr)]
    exact ⟨rfl, oneEvent_raise _ _ rfl⟩

/-! ### The layout of a record -/

@[simp] theorem leBytes_length (size : Nat) : ∀ n : Nat, (leBytes size n).length = size := by
  induction size with
  | zero => exact fun _ => rfl
  | succ size ih => exact fun n => congrArg Nat.succ (ih _)

@[simp] theorem leSigned_length (size : Nat) (x : Int) : (leSigned size x).length = size := leBytes_length _ _

theorem axleEntryBytes_length (a : AxleEntry) : (axleEntryBytes a).length = 17 := rfl

theorem entryLaidOut_self (a : AxleEntry) : EntryLaidOut (axleEntryBytes a) 0 a where
  presence := rfl
  speed := rfl
  load := rfl
  left := rfl
  right := rfl
  spacing := rfl
  temperature := rfl
  flags := rfl

/-- What stands in a part of a payload stands in the payload, the part's offset on. -/
theorem HoldsAt.of_part {x part bytes : List Byte} {o width k : Nat} (hpart : (x.drop o).take width = part)
    (h : HoldsAt part k bytes) (hk : k + bytes.length ≤ width) : HoldsAt x (o + k) bytes := by
  unfold HoldsAt at *
  rw [← hpart, List.drop_take, List.take_take, List.drop_drop, Nat.min_eq_left (by omega)] at h
  exact h

/-- An axle entry that stands in a payload is laid out there. -/
theorem entryLaidOut_of_part {x : List Byte} {o : Nat} {a : AxleEntry} (h : (x.drop o).take 17 = axleEntryBytes a) :
    EntryLaidOut x o a where
  presence := .of_part h (entryLaidOut_self a).presence (by simp)
  speed := .of_part h (entryLaidOut_self a).speed (by simp)
  load := .of_part h (entryLaidOut_self a).load (by simp)
  left := .of_part h (entryLaidOut_self a).left (by simp)
  right := .of_part h (entryLaidOut_self a).right (by simp)
  spacing := .of_part h (entryLaidOut_self a).spacing (by simp)
  temperature := .of_part h (entryLaidOut_self a).temperature (by simp)
  flags := .of_part h (entryLaidOut_self a).flags (by simp)

/-- Of fields written one after another each stands where those before it end. -/
theorem holdsAt_flatten : ∀ (fields : List (List Byte)) (i : Nat) {bytes : List Byte}, fields[i]? = some bytes →
    HoldsAt fields.flatten ((fields.take i).map List.length).sum bytes
  | [], i, _, h => by simp at h
  | f :: fields, 0, bytes, h => by
    obtain rfl : f = bytes := by simpa using h
    simp [HoldsAt]
  | f :: fields, i + 1, bytes, h => by
    have ih := holdsAt_flatten fields i (bytes := bytes) (by simpa using h)
    unfold HoldsAt at *
    rw [List.take_succ_cons, List.map_cons, List.sum_cons, List.flatten_cons, List.drop_append,
      List.drop_eq_nil_of_le (Nat.le_add_right ..), List.nil_append, Nat.add_sub_cancel_left, ih]

theorem HoldsAt.append {x bytes : List Byte} {o : Nat} (h : HoldsAt x o bytes) (y : List Byte) : HoldsAt (x ++ y) o bytes := by
  unfold HoldsAt at *
  have hlen : bytes.length ≤ (x.drop o).length := by
    have := congrArg List.length h
    rw [List.length_take] at this
    omega
  rw [List.drop_append, List.take_append_of_le_length hlen, h]

/-- The fields of a record before its axle entries. -/
def recordFields (r : VehicleRec) : List (List Byte) :=
  [leBytes 4 r.boot, leBytes 4 r.seq.toNat, leBytes 1 (r.lane.val + 1), leBytes 1 r.axles.length, leBytes 1 r.classCode,
    leBytes 1 (bitIf r.meanSpeed.isSome 0 + bitIf r.length.isSome 1 + bitIf r.gross.isSome 2), leBytes 6 r.openSite.toNat,
    leBytes 6 r.closeSite.toNat, leBytes 2 (orZero r.meanSpeed), leBytes 2 (orZero r.length), leBytes 4 (orZero r.gross),
    leSigned 2 r.tempUsed, leBytes 1 r.tempStatus.code, leBytes 4 r.generation, leBytes 4 r.flags.toNat]

theorem recordBytes_eq (r : VehicleRec) : recordBytes r = (recordFields r).flatten ++ r.axles.flatMap axleEntryBytes := by
  simp [recordBytes, recordFields]

theorem recordFields_length (r : VehicleRec) : (recordFields r).flatten.length = 43 := by simp [recordFields]

theorem holdsAt_recordField (r : VehicleRec) (i : Nat) {o : Nat} {bytes : List Byte} (h : (recordFields r)[i]? = some bytes)
    (ho : (((recordFields r).take i).map List.length).sum = o) : HoldsAt (recordBytes r) o bytes := by
  rw [recordBytes_eq, ← ho]
  exact (holdsAt_flatten _ i h).append _

theorem recordBytes_length (r : VehicleRec) : (recordBytes r).length = 43 + 17 * r.axles.length := by
  rw [recordBytes_eq, List.length_append, recordFields_length, List.length_flatMap]
  simp [axleEntryBytes_length, Nat.mul_comm]

/-- A record's bytes are laid out as chapter 9 says. -/
theorem recordLaidOut (r : VehicleRec) : RecordLaidOut (recordBytes r) r where
  size := recordBytes_length r
  boot := holdsAt_recordField r 0 rfl rfl
  sequence := holdsAt_recordField r 1 rfl (by simp [recordFields])
  lane := holdsAt_recordField r 2 rfl (by simp [recordFields])
  axleCount := holdsAt_recordField r 3 rfl (by simp [recordFields])
  classCode := holdsAt_recordField r 4 rfl (by simp [recordFields])
  presence := holdsAt_recordField r 5 rfl (by simp [recordFields])
  openSite := holdsAt_recordField r 6 rfl (by simp [recordFields])
  closeSite := holdsAt_recordField r 7 rfl (by simp [recordFields])
  meanSpeed := holdsAt_recordField r 8 rfl (by simp [recordFields])
  length := holdsAt_recordField r 9 rfl (by simp [recordFields])
  gross := holdsAt_recordField r 10 rfl (by simp [recordFields])
  temperature := holdsAt_recordField r 11 rfl (by simp [recordFields])
  tempStatus := by
    have hcode : (match r.tempStatus with | .none => 0 | .live => 1 | .held => 2 | .stale => 3) = r.tempStatus.code := by
      cases r.tempStatus <;> rfl
    exact (congrArg (fun n => HoldsAt (recordBytes r) 34 (leBytes 1 n)) hcode).mpr
      (holdsAt_recordField r 12 rfl (by simp [recordFields]))
  generation := holdsAt_recordField r 13 rfl (by simp [recordFields])
  flags := holdsAt_recordField r 14 rfl (by simp [recordFields])
  entries i a ha := by
    obtain ⟨hi, rfl⟩ := List.getElem?_eq_some_iff.mp ha
    refine entryLaidOut_of_part ?_
    rw [recordBytes_eq, ← List.drop_drop, List.drop_left' (recordFields_length r)]
    exact take_drop_flatMap 17 axleEntryBytes r.axles (fun a _ => axleEntryBytes_length a) i hi

/-! ### TAKE and PEEK (R128, R130) -/

/-- What a reply carries is an initial part of the list, as long as `Carries` allows. -/
theorem carried_carries : ∀ (rs : List VehicleRec) (budget n : Nat),
    carried budget n rs = rs.take (carried budget n rs).length ∧ Carries budget n (carried budget n rs).length rs
  | [], budget, n => by
    have hnil : carried budget n [] = [] := by simp only [carried]
    rw [hnil]
    exact ⟨rfl, Nat.zero_le _, Nat.le_refl _, Nat.zero_le _, .inr (.inl rfl)⟩
  | r :: rest, budget, 0 => ⟨rfl, Nat.le_refl _, Nat.zero_le _, Nat.zero_le _, .inl rfl⟩
  | r :: rest, budget, n + 1 => by
    by_cases hfits : r.size ≤ budget
    · obtain ⟨htake, hn, hlen, hsum, hmax⟩ := carried_carries rest (budget - r.size) n
      simp only [carried, hfits, if_true, List.length_cons, List.take_succ_cons, ← htake, true_and]
      refine ⟨Nat.succ_le_succ hn, Nat.succ_le_succ hlen, ?_, ?_⟩
      · simp only [List.take_succ_cons, List.map_cons, List.sum_cons]
        omega
      · simp only [List.take_succ_cons, List.map_cons, List.sum_cons, List.length_cons, Nat.add_right_cancel_iff]
        omega
    · simp only [carried, hfits, if_false, List.length_nil, List.take_zero, true_and]
      refine ⟨Nat.zero_le _, Nat.zero_le _, Nat.zero_le _, .inr (.inr ?_)⟩
      simp
      omega

theorem byte0_pair (a b : Byte) : byte0 [a, b] = a.toNat := leNat_singleton a

theorem byte1_pair (a b : Byte) : byte1 [a, b] = b.toNat := leNat_singleton b

section
variable {s : State} {b pos : Byte}

theorem takeOwner_out (h : b.toNat = 0 ∨ 48 < b.toNat) : takeOwner [b] s = (s, .refused .badValue 0 0) := by
  have hn : ¬ (1 ≤ b.toNat ∧ b.toNat ≤ 48) := by omega
  rw [takeOwner, byte0_singleton, if_neg hn]

theorem takeOwner_in (h1 : 1 ≤ b.toNat) (h48 : b.toNat ≤ 48) : ∃ k, Carries 1021 b.toNat k s.store ∧ takeOwner [b] s =
    (s.setStore (s.store.drop k),
      .ok ([BitVec.ofNat 8 k, BitVec.ofNat 8 (s.store.length - k)] ++ recordsBytes (s.store.take k))) := by
  obtain ⟨htake, hcarries⟩ := carried_carries s.store 1021 b.toNat
  refine ⟨_, hcarries, ?_⟩
  rw [← htake, ← List.length_drop]
  rw [takeOwner, byte0_singleton, if_pos (And.intro h1 h48)]
  rfl

theorem peekOwner_out (h : 47 < pos.toNat ∨ b.toNat = 0 ∨ 48 < b.toNat) :
    peekOwner [pos, b] s = (s, .refused .badValue 0 0) := by
  have hn : ¬ (pos.toNat ≤ 47 ∧ 1 ≤ b.toNat ∧ b.toNat ≤ 48) := by omega
  simp only [peekOwner, byte0_pair, byte1_pair, if_neg hn]

theorem oldestSeq_eq (rs : List VehicleRec) : oldestSeq rs = (rs.head?.map (fun r => r.seq.toNat)).getD 0 := by
  cases rs <;> rfl

theorem peekOwner_in (hpos : pos.toNat ≤ 47) (h1 : 1 ≤ b.toNat) (h48 : b.toNat ≤ 48) :
    ∃ k, Carries 1017 b.toNat k (s.store.drop pos.toNat) ∧ peekOwner [pos, b] s = (s,
      .ok ([BitVec.ofNat 8 s.store.length] ++ leBytes 4 ((s.store.head?.map (fun r => r.seq.toNat)).getD 0)
        ++ [BitVec.ofNat 8 k] ++ recordsBytes ((s.store.drop pos.toNat).take k))) := by
  obtain ⟨htake, hcarries⟩ := carried_carries (s.store.drop pos.toNat) 1017 b.toNat
  refine ⟨_, hcarries, ?_⟩
  rw [← htake, ← oldestSeq_eq]
  simp only [peekOwner, byte0_pair, byte1_pair, if_pos (And.intro hpos (And.intro h1 h48))]
  rfl

end

theorem leBytes_eq_map (size : Nat) : ∀ n : Nat,
    leBytes size n = (List.range size).map (fun i => BitVec.ofNat 8 (n / 256 ^ i)) := by
  induction size with
  | zero => exact fun _ => rfl
  | succ size ih =>
    intro n
    rw [leBytes, ih, List.range_succ_eq_map, List.map_cons, List.map_map, Nat.pow_zero, Nat.div_one]
    refine congrArg _ (List.map_congr_left fun i _ => ?_)
    rw [Function.comp_apply, Nat.div_div_eq_div_mul, Nat.pow_succ']

theorem leSigned_two (x : Int) : leSigned 2 x = leBytes 2 (x % 65536).toNat := by
  rw [leSigned, BitVec.toNat_ofInt]
  rfl

/-- Settles O34: the oldest records that fit, in chapter 9's layout. -/
theorem takeAndPeek : Obligations.TakeAndPeek := by
  refine ⟨fun s tag b h => ⟨fun hout => exec_refused h tag (takeOwner_out hout), fun h1 h48 => ?_⟩,
    fun s p tag pos b h => ⟨fun hout => exec_refused h tag (peekOwner_out hout), fun hpos h1 h48 => ?_⟩,
    recordLaidOut, fun rs => by rw [recordsBytes, List.flatMap_def], leBytes_eq_map, leSigned_two, by decide⟩
  · obtain ⟨k, hk, howner⟩ := takeOwner_in (s := s) h1 h48
    exact ⟨k, hk, exec_ok h tag howner⟩
  · obtain ⟨k, hk, howner⟩ := peekOwner_in (s := s) hpos h1 h48
    exact ⟨k, hk, exec_ok h tag howner⟩

/-! ### STREAM and the VEHICLE frame (R129, R184, R185) -/

theorem parseBool_out {n : Nat} (h : 1 < n) : parseBool n = none := by
  rw [parseBool, if_neg (by omega), if_neg (by omega)]

/-- Settles O35: the flag as asked, and the oldest record where nothing goes before it. -/
theorem streamAndVehicleFrame : Obligations.StreamAndVehicleFrame := by
  refine ⟨fun s tag b h => ⟨fun hout => ?_, ?_⟩, fun s r rest hruns htx hreplies hevents hstream hinit hstore =>
    ⟨?_, recordLaidOut r⟩⟩
  · exact exec_refused h tag (t := s) (by simp only [ownerOf, streamOwner, byte0_singleton, parseBool_out hout])
  · rintro on rfl
    cases on <;> exact exec_ok h tag (t := s.setPorts _) rfl
  · have hdue : s.ports.cab.dueClasses = [] := List.eq_nil_iff_forall_not_mem.mpr fun i hi => by
      obtain ⟨hmask, hcount⟩ := (mem_dueClasses _ i).mp hi
      exact absurd (hevents i hmask) (by omega)
    have hnext : s.vehicleNext = some r := by
      simp [State.vehicleNext, htx, hreplies, hdue, hstream, hinit, hstore]
    refine (whileRunning_of_runs hruns _).trans ?_
    simp only [hnext, hstore, List.tail_cons]
    rfl

end Sys2Proof.Machine
end

section
/-! Chapter 7: offers to the reference window and the update of fA (R136 to R142). -/

namespace Sys2Proof.Machine

open Sys2Proof

/-! ### The trimmed mean (R140) -/

theorem foldl_min_eq : ∀ {loads : List Nat} {a least : Nat}, least ≤ a → (∀ x ∈ loads, least ≤ x) →
    a = least ∨ least ∈ loads → loads.foldl min a = least
  | [], a, least, _, _, h => by simpa using h
  | x :: loads, a, least, ha, hall, h => by
    have hx : least ≤ x := hall x (List.mem_cons_self ..)
    refine foldl_min_eq (loads := loads) (a := min a x) (le_min ha hx) (fun y hy => hall y (List.mem_cons_of_mem _ hy)) ?_
    rcases h with rfl | h
    · exact .inl (min_eq_left hx)
    · rcases List.mem_cons.mp h with rfl | h
      · exact .inl (min_eq_right ha)
      · exact .inr h

theorem foldl_max_eq : ∀ {loads : List Nat} {a greatest : Nat}, a ≤ greatest → (∀ x ∈ loads, x ≤ greatest) →
    a = greatest ∨ greatest ∈ loads → loads.foldl max a = greatest
  | [], a, greatest, _, _, h => by simpa using h
  | x :: loads, a, greatest, ha, hall, h => by
    have hx : x ≤ greatest := hall x (List.mem_cons_self ..)
    refine foldl_max_eq (loads := loads) (a := max a x) (max_le ha hx) (fun y hy => hall y (List.mem_cons_of_mem _ hy)) ?_
    rcases h with rfl | h
    · exact .inl (max_eq_left hx)
    · rcases List.mem_cons.mp h with rfl | h
      · exact .inl (max_eq_right ha)
      · exact .inr h

theorem trimmedMean_eq {loads : List Nat} {least greatest : Nat} (hl : least ∈ loads) (hg : greatest ∈ loads)
    (hall : ∀ x ∈ loads, least ≤ x ∧ x ≤ greatest) : trimmedMean loads = (loads.sum - least - greatest + 7) / 14 := by
  have hhead : least ≤ loads.headD 0 := by
    cases loads with
    | nil => simp at hl
    | cons x rest => exact (hall x (List.mem_cons_self ..)).1
  have hmin : loads.foldl min (loads.headD 0) = least := foldl_min_eq hhead (fun x hx => (hall x hx).1) (.inr hl)
  have hmax : loads.foldl max 0 = greatest := foldl_max_eq (Nat.zero_le _) (fun x hx => (hall x hx).2) (.inr hg)
  simp only [trimmedMean, hmin, hmax]

/-! ### The update (R141, R142) -/

theorem clampFactor_moves (f : Nat) : clampFactor f ≠ f ↔ f < 3686 ∨ 4506 < f := by
  unfold clampFactor
  omega

section
variable {c : LaneCal} {target step : Nat}

/-- The factor of an update before the limit in range (R140, R141). -/
theorem stepped_eq {least greatest m p : Nat} (hl : least ∈ c.window.map (fun e => e.load))
    (hg : greatest ∈ c.window.map (fun e => e.load))
    (hall : ∀ x ∈ c.window.map (fun e => e.load), least ≤ x ∧ x ≤ greatest)
    (hm : m = ((c.window.map (fun e => e.load)).sum - least - greatest + 7) / 14) (hp : p = (c.fA * target + m / 2) / m)
    (hstep : step = max (c.fA - 20) (min (c.fA + 20) p)) :
    steppedFactor c.fA (proposedFactor c.fA target (trimmedMean (c.window.map (·.load)))) = step := by
  rw [trimmedMean_eq hl hg hall, ← hm, proposedFactor, ← hp, steppedFactor, hstep]

theorem update_eq (h : steppedFactor c.fA (proposedFactor c.fA target (trimmedMean (c.window.map (·.load)))) = step) :
    c.update target =
      { window := [], anchor := none, fA := max 3686 (min 4506 step), updates := min (c.updates + 1) 65535,
        limit := if step < 3686 ∨ 4506 < step then true else if step = 3686 ∨ step = 4506 then c.limit else false,
        outcome := some .updated } := by
  simp only [LaneCal.update, h, clampFactor_moves]
  congr 1
  split
  · rfl
  · next hin => rw [not_not.mp fun hmoves => hin ((clampFactor_moves step).mp hmoves)]

theorem clampBinds_iff (h : steppedFactor c.fA (proposedFactor c.fA target (trimmedMean (c.window.map (·.load)))) = step) :
    c.clampBinds target = true ↔ step < 3686 ∨ 4506 < step := by
  simp only [LaneCal.clampBinds, h, decide_eq_true_eq, clampFactor_moves]

end

/-! ### The events of an update (R142) -/

theorem updateFactor_port (s : State) (l : LaneIx) (c : LaneCal) (p : Port) : (s.updateFactor l c).port p =
    if c.clampBinds s.prof.active.autocal.target = true
    then ((s.port p).raise .calUpdate (itemBit l.val)).raise .calLimit (itemBit l.val)
    else (s.port p).raise .calUpdate (itemBit l.val) := by
  unfold State.updateFactor
  dsimp only
  rw [State.port_placeReason]
  split
  · rw [State.raiseAt, raise_port, State.raiseAt, raise_port, State.port_setLaneCal]
  · rw [State.raiseAt, raise_port, State.port_setLaneCal]

theorem raise_events (x : PortState) (k : EventClass) (item : BitVec 32) (i : Fin 13) :
    (x.raise k item).events[i] = if i = k.index then cellRaised item x.events[i] else x.events[i] := by
  obtain ⟨hself, hother⟩ := raisedOnce_raise k item x
  split
  · next h => rw [h, hself]
  · next h => rw [hother i h]

theorem keepsAllBut_updateFactor (s : State) (l : LaneIx) (c : LaneCal) :
    KeepsAllBut [.cal, .ports, .prof] s (s.updateFactor l c) := by
  unfold State.updateFactor
  dsimp only
  have h1 : KeepsAllBut [.cal, .ports, .prof] s (s.setLaneCal l (c.update s.prof.active.autocal.target)) :=
    (KeepsAllBut.setCal s _).mono (by decide)
  have hraise : ∀ (u : State) (k : EventClass), KeepsAllBut [.cal, .ports, .prof] u (u.raiseAt k l.val) :=
    fun u k => (KeepsAllBut.raiseAt u k l.val).mono (by decide)
  have hplace : ∀ u : State, KeepsAllBut [.cal, .ports, .prof] u (u.placeReason .learned) :=
    fun u => (KeepsAllBut.placeReason u _).mono (by decide)
  split
  · exact ((h1.trans (hraise _ _)).trans (hraise _ _)).trans (hplace _)
  · exact (h1.trans (hraise _ _)).trans (hplace _)

/-! ### The seven tests (R136) -/

theorem presentWithin_iff (lo hi : Nat) (o : Option Nat) :
    presentWithin lo hi o = true ↔ ∃ x, o = some x ∧ lo ≤ x ∧ x ≤ hi := by
  cases o <;> simp [presentWithin]

theorem hasAnyFlag_eq_false (flags : BitVec 32) (fs : List Flag) :
    hasAnyFlag flags fs = false ↔ ∀ f ∈ fs, hasFlag flags f = false := by
  simp [hasAnyFlag]

theorem steerLoad_iff (r : VehicleRec) : presentWithin 1 loadLimit r.steerLoad = true
    ↔ ∃ a rest x, r.axles = a :: rest ∧ a.load = some x ∧ 1 ≤ x ∧ x ≤ 65535 := by
  rw [presentWithin_iff, VehicleRec.steerLoad]
  cases r.axles with
  | nil => simp
  | cons a rest => simp [loadLimit]

/-- The outcome of the first of seven tests in turn that fails. -/
def firstFailed (enabled sameClass speed gross flags live load : Bool) : Option OfferOutcome :=
  if !enabled then some .disabled
  else if !sameClass then some .classTest
  else if !speed then some .speedTest
  else if !gross then some .grossTest
  else if !flags then some .flagsTest
  else if !live then some .temperatureTest
  else if !load then some .loadTest
  else none

theorem offerFailure_eq (s : State) (r : VehicleRec) : s.offerFailure r =
    firstFailed s.prof.active.autocal.enable (decide (r.classCode = s.prof.active.autocal.refClass))
      (presentWithin s.prof.active.autocal.speedMin s.prof.active.autocal.speedMax r.meanSpeed)
      (presentWithin s.prof.active.autocal.grossMin s.prof.active.autocal.grossMax r.gross)
      (!hasAnyFlag r.flags barredFlags)
      (!(hasAnyFlag r.flags [.tempHeld, .tempStale, .tempNone] || decide (s.tempStatus r.lane ≠ .live)))
      (presentWithin 1 loadLimit r.steerLoad) := by
  simp only [State.offerFailure, firstFailed, Bool.not_not, Bool.not_eq_true', decide_eq_false_iff_not, ne_eq]

theorem firstFailed_iff (enabled sameClass speed gross flags live load : Bool) :
    (firstFailed enabled sameClass speed gross flags live load = some .disabled ↔ ¬ enabled = true)
      ∧ (firstFailed enabled sameClass speed gross flags live load = some .classTest ↔ enabled ∧ ¬ sameClass = true)
      ∧ (firstFailed enabled sameClass speed gross flags live load = some .speedTest ↔ enabled ∧ sameClass ∧ ¬ speed = true)
      ∧ (firstFailed enabled sameClass speed gross flags live load = some .grossTest
          ↔ enabled ∧ sameClass ∧ speed ∧ ¬ gross = true)
      ∧ (firstFailed enabled sameClass speed gross flags live load = some .flagsTest
          ↔ enabled ∧ sameClass ∧ speed ∧ gross ∧ ¬ flags = true)
      ∧ (firstFailed enabled sameClass speed gross flags live load = some .temperatureTest
          ↔ enabled ∧ sameClass ∧ speed ∧ gross ∧ flags ∧ ¬ live = true)
      ∧ (firstFailed enabled sameClass speed gross flags live load = some .loadTest
          ↔ enabled ∧ sameClass ∧ speed ∧ gross ∧ flags ∧ live ∧ ¬ load = true)
      ∧ (firstFailed enabled sameClass speed gross flags live load = none
          ↔ enabled ∧ sameClass ∧ speed ∧ gross ∧ flags ∧ live ∧ load) := by
  unfold firstFailed
  split_ifs <;> simp_all

/-! ### An offer (R137 to R139) -/

section
variable {s : State} {r : VehicleRec}

theorem offerToCal_fails {o : OfferOutcome} (h : s.offerFailure r = some o) :
    s.offerToCal r = s.setLaneCal r.lane { s.cal[r.lane] with outcome := some o } := by
  simp only [State.offerToCal, h]

theorem offerToCal_placed (h : s.offerFailure r = none) (hlen : (s.cal[r.lane].place r.calEntry).window.length < 16) :
    s.offerToCal r = s.setLaneCal r.lane (s.cal[r.lane].place r.calEntry) := by
  simp only [State.offerToCal, h, if_neg (Nat.not_le.mpr hlen)]

theorem offerToCal_updates (h : s.offerFailure r = none) (hlen : 16 ≤ (s.cal[r.lane].place r.calEntry).window.length) :
    s.offerToCal r = s.updateFactor r.lane (s.cal[r.lane].place r.calEntry) := by
  simp only [State.offerToCal, h, if_pos hlen]

end

section
variable {c : LaneCal} {e : CalEntry}

theorem place_first (h : c.window = []) : c.place e =
    { c with window := [e], anchor := some e.temp, outcome := some .admitted } := by
  rw [LaneCal.place, if_pos h]

theorem place_restarts {anchor : Int} (h : c.window ≠ []) (ha : c.anchor = some anchor) (hfar : 50 < (e.temp - anchor).natAbs) :
    c.place e = { c with window := [e], anchor := some e.temp, outcome := some .restarted } := by
  rw [LaneCal.place, if_neg h, ha, Option.getD_some, if_neg (by omega)]

theorem place_extends {anchor : Int} (h : c.window ≠ []) (ha : c.anchor = some anchor)
    (hnear : (e.temp - anchor).natAbs ≤ 50) :
    c.place e = { c with window := c.window ++ [e], outcome := some .admitted } := by
  rw [LaneCal.place, if_neg h, ha, Option.getD_some, if_pos hnear]

end

/-- Settles O36: an update in figures and events, and an offer by the first test that fails. -/
theorem factorUpdatesAndOffers : Obligations.FactorUpdatesAndOffers := by
  refine ⟨fun c target least greatest m p step hl hg hall hm hp hstep => ?_, ?_, ?_⟩
  · have hs := stepped_eq hl hg hall hm hp hstep
    refine ⟨update_eq hs, clampBinds_iff hs, fun h1 h2 => ?_⟩
    rw [update_eq hs]
    dsimp only
    omega
  · rintro s l c x y port rfl rfl
    rw [updateFactor_port]
    refine ⟨?_, ?_, ?_, fun i => ?_, keepsAllBut_updateFactor s l c⟩
    · unfold State.updateFactor
      dsimp only
      split <;> rfl
    · unfold State.updateFactor
      dsimp only
      split <;> rfl
    · split <;> rfl
    · have hne : EventClass.calUpdate.index ≠ EventClass.calLimit.index := by decide
      by_cases hbinds : c.clampBinds s.prof.active.autocal.target = true
      · simp only [hbinds, if_true, raise_events, and_true]
        by_cases h1 : i = EventClass.calUpdate.index
        · simp [h1, hne]
        · simp [h1]
      · simp only [hbinds, if_false, raise_events, and_false, or_false, Bool.false_eq_true]
  · rintro s r c e rfl rfl
    refine ⟨fun o h => offerToCal_fails h, fun h => ?_, ?_, fun hadmitted => ⟨fun hempty => ?_, fun anchor hne hanchor =>
      ⟨fun hfar => ?_, fun hnear hlen => ?_, fun hnear hlen => ?_⟩⟩⟩
    · rw [offerFailure_eq, h]
      rfl
    · intro enabled sameClass speed gross flags live load henabled hclass hspeed hgross hflags hlive hload
      have hbarred : (!hasAnyFlag r.flags barredFlags) = true ↔ flags := by
        rw [hflags, Bool.not_eq_true', hasAnyFlag_eq_false]
        rfl
      have htemp : (!(hasAnyFlag r.flags [.tempHeld, .tempStale, .tempNone] || decide (s.tempStatus r.lane ≠ .live))) = true
          ↔ live := by
        rw [hlive, Bool.not_eq_true', Bool.or_eq_false_iff, hasAnyFlag_eq_false, decide_eq_false_iff_not, not_not]
        simp [State.tempStatus, and_assoc]
      have hsteer := (steerLoad_iff r).trans hload.symm
      have hfirst := firstFailed_iff s.prof.active.autocal.enable (decide (r.classCode = s.prof.active.autocal.refClass))
        (presentWithin s.prof.active.autocal.speedMin s.prof.active.autocal.speedMax r.meanSpeed)
        (presentWithin s.prof.active.autocal.grossMin s.prof.active.autocal.grossMax r.gross)
        (!hasAnyFlag r.flags barredFlags)
        (!(hasAnyFlag r.flags [.tempHeld, .tempStale, .tempNone] || decide (s.tempStatus r.lane ≠ .live)))
        (presentWithin 1 loadLimit r.steerLoad)
      rw [← offerFailure_eq] at hfirst
      simpa only [← henabled, decide_eq_true_eq, ← hclass, presentWithin_iff _ _ r.meanSpeed, ← hspeed,
        presentWithin_iff _ _ r.gross, ← hgross, hbarred, htemp, hsteer] using hfirst
    · have hplace := place_first (e := r.calEntry) hempty
      rw [offerToCal_placed hadmitted (by rw [hplace]; exact Nat.one_lt_succ_succ 14), hplace]
      rfl
    · have hplace := place_restarts (e := r.calEntry) hne hanchor hfar
      rw [offerToCal_placed hadmitted (by rw [hplace]; exact Nat.one_lt_succ_succ 14), hplace]
      rfl
    · have hplace := place_extends (e := r.calEntry) hne hanchor hnear
      rw [offerToCal_placed hadmitted (by rw [hplace]; exact List.length_append.trans_lt (Nat.succ_lt_succ hlen)), hplace]
      rfl
    · have hplace := place_extends (e := r.calEntry) hne hanchor hnear
      rw [offerToCal_updates hadmitted (by rw [hplace]; exact (List.length_append.trans (congrArg (· + 1) hlen)).ge), hplace]
      rfl

end Sys2Proof.Machine
end

section
/-! The sections of the profile as bytes (R151, chapter 9, Profile sections): numbers and codes, read back from what is
written and written as they were read. -/

namespace Sys2Proof.Machine

open Sys2Proof

/-! ### Numbers -/

theorem leNat_lt : ∀ bs : List Byte, leNat bs < 256 ^ bs.length
  | [] => by simp [leNat]
  | b :: bs => by
    have ih := leNat_lt bs
    have hb := b.isLt
    simp only [leNat, List.length_cons, Nat.pow_succ]
    omega

theorem leBytes_leNat : ∀ bs : List Byte, leBytes bs.length (leNat bs) = bs
  | [] => rfl
  | b :: bs => by
    have hb := b.isLt
    have hhead : BitVec.ofNat 8 (leNat (b :: bs)) = b := by
      apply BitVec.eq_of_toNat_eq
      simp only [leNat, BitVec.toNat_ofNat]
      omega
    have htail : leNat (b :: bs) / 256 = leNat bs := by simp only [leNat]; omega
    rw [List.length_cons, leBytes, hhead, htail, leBytes_leNat bs]

theorem leNat_leBytes : ∀ {size n : Nat}, n < 256 ^ size → leNat (leBytes size n) = n
  | 0, n, h => by simp at h; simp [leBytes, leNat, h]
  | size + 1, n, h => by
    have ih : leNat (leBytes size (n / 256)) = n / 256 := leNat_leBytes (by rw [Nat.pow_succ] at h; omega)
    simp only [leBytes, leNat, ih, BitVec.toNat_ofNat]
    omega

section
variable {x : List Byte} {o size : Nat}

/-- A field written as it was read. -/
theorem leBytes_fieldAt (h : o + size ≤ x.length) : leBytes size (fieldAt x o size) = (x.drop o).take size := by
  have hlen : ((x.drop o).take size).length = size := by rw [List.length_take, List.length_drop]; omega
  have := leBytes_leNat ((x.drop o).take size)
  rwa [hlen] at this

/-- A field read from where it is written. -/
theorem fieldAt_of_holdsAt {n : Nat} (h : HoldsAt x o (leBytes size n)) (hn : n < 256 ^ size) : fieldAt x o size = n := by
  unfold HoldsAt at h
  rw [leBytes_length] at h
  rw [fieldAt, h, leNat_leBytes hn]

theorem fieldAt_lt (x : List Byte) (o size : Nat) : fieldAt x o size < 256 ^ size :=
  (leNat_lt _).trans_le (Nat.pow_le_pow_right (by decide) (List.length_take_le ..))

theorem pow256_eq (size : Nat) : 256 ^ size = 2 ^ (8 * size) := by rw [Nat.pow_mul]

/-- A signed field written as it was read. -/
theorem leSigned_signedAt (h : o + size ≤ x.length) : leSigned size (signedAt x o size) = (x.drop o).take size := by
  have hlt := fieldAt_lt x o size
  rw [pow256_eq] at hlt
  rw [leSigned, signedAt, BitVec.ofInt_toInt, BitVec.toNat_ofNat, Nat.mod_eq_of_lt hlt, leBytes_fieldAt h]

/-- A signed field read from where it is written. -/
theorem signedAt_of_holdsAt {v : Int} (h : HoldsAt x o (leSigned size v)) (hsize : 0 < size)
    (hlo : -(2 ^ (8 * size - 1) : Int) ≤ v) (hhi : v < 2 ^ (8 * size - 1)) : signedAt x o size = v := by
  have hn : fieldAt x o size = (BitVec.ofInt (8 * size) v).toNat :=
    fieldAt_of_holdsAt h (by rw [pow256_eq]; exact BitVec.isLt _)
  rw [signedAt, hn, BitVec.ofNat_toNat, BitVec.setWidth_eq]
  exact BitVec.toInt_ofInt_eq_self (by omega) hlo hhi

/-- A field of a part of a payload. -/
theorem fieldAt_part {w k : Nat} (h : k + size ≤ w) : fieldAt ((x.drop o).take w) k size = fieldAt x (o + k) size := by
  rw [fieldAt, fieldAt, List.drop_take, List.take_take, List.drop_drop, Nat.min_eq_left (by omega)]

theorem signedAt_part {w k : Nat} (h : k + size ≤ w) : signedAt ((x.drop o).take w) k size = signedAt x (o + k) size := by
  rw [signedAt, signedAt, fieldAt_part h]

end

/-! ### Codes -/

theorem parseBool_eq_some (n : Nat) (b : Bool) : parseBool n = some b ↔ n = if b then 1 else 0 := by
  unfold parseBool
  split_ifs <;> cases b <;> simp_all

theorem parseLane_eq_some (n : Nat) (l : Option LaneIx) : parseLane n = some l ↔ n = laneNumber l := by
  unfold parseLane
  split_ifs with h h0
  · cases l <;> simp_all [laneNumber]
  · cases l with
    | none => simpa [laneNumber] using h0
    | some l => simp [laneNumber, Fin.ext_iff]; omega
  · cases l with
    | none => simp [laneNumber]; omega
    | some l => simp [laneNumber]; omega

theorem parseRow_eq_some (n : Nat) (r : StripRow) : parseRow n = some r ↔ n = rowCode r := by
  unfold parseRow
  split_ifs <;> cases r <;> simp_all [rowCode]

theorem parseSide_eq_some (n : Nat) (r : StripSide) : parseSide n = some r ↔ n = sideCode r := by
  unfold parseSide
  split_ifs <;> cases r <;> simp_all [sideCode]

theorem parseProbe_eq_some (n : Nat) (q : ProbeIx) : parseProbe n = some q ↔ n = q.val := by
  unfold parseProbe
  split_ifs with h
  · simp [Fin.ext_iff]
  · simp; omega

theorem parseAlternate_eq_some (n : Nat) (a : Option ProbeIx) : parseAlternate n = some a ↔ n = alternateCode a := by
  unfold parseAlternate
  split_ifs with h
  · cases a with
    | none => simp [alternateCode, h]
    | some q => simp [alternateCode, h]; omega
  · cases a with
    | none => simpa [alternateCode] using h
    | some q => simp [alternateCode, parseProbe_eq_some]

theorem parseTrack_eq_some (n : Nat) (t : TrackTest) : parseTrack n = some t ↔ n = t.code := by
  unfold parseTrack
  split_ifs <;> cases t <;> simp_all [TrackTest.code]

/-! ### Entries -/

/-- A STRIPMAP entry is read exactly where its fields stand. -/
theorem parseStrip_eq_some (x : List Byte) (o : Nat) (e : StripEntry) : parseStrip x o = some e ↔
    fieldAt x o 1 = laneNumber e.lane ∧ fieldAt x (o + 1) 1 = rowCode e.row ∧ fieldAt x (o + 2) 1 = sideCode e.side
      ∧ fieldAt x (o + 4) 2 = e.trigger ∧ fieldAt x (o + 6) 2 = e.width ∧ fieldAt x (o + 8) 2 = e.k
      ∧ fieldAt x (o + 10) 2 = e.clipLimit := by
  obtain ⟨lane, row, side, trigger, width, k, clipLimit⟩ := e
  simp only [← parseLane_eq_some, ← parseRow_eq_some, ← parseSide_eq_some]
  unfold parseStrip
  cases parseLane (fieldAt x o 1) <;> cases parseRow (fieldAt x (o + 1) 1) <;> cases parseSide (fieldAt x (o + 2) 1) <;> simp

theorem parseLaneEntry_eq_some (x : List Byte) (o : Nat) (e : LaneEntry) : parseLaneEntry x o = some e ↔
    fieldAt x o 1 = (if e.enabled then 1 else 0) ∧ fieldAt x (o + 9) 1 = e.primary.val
      ∧ fieldAt x (o + 10) 1 = alternateCode e.alternate ∧ fieldAt x (o + 1) 2 = e.rowSpacing
      ∧ fieldAt x (o + 3) 2 = e.loopSpacing ∧ fieldAt x (o + 5) 2 = e.loopLength ∧ fieldAt x (o + 7) 1 = e.rejectMs
      ∧ fieldAt x (o + 8) 1 = e.stallS ∧ fieldAt x (o + 11) 2 = e.fA := by
  obtain ⟨enabled, rowSpacing, loopSpacing, loopLength, rejectMs, stallS, primary, alternate, fA⟩ := e
  simp only [← parseBool_eq_some, ← parseProbe_eq_some, ← parseAlternate_eq_some]
  unfold parseLaneEntry
  cases parseBool (fieldAt x o 1) <;> cases parseProbe (fieldAt x (o + 9) 1) <;> cases parseAlternate (fieldAt x (o + 10) 1) <;>
    simp
  tauto

theorem parseProbeEntry_eq_some (x : List Byte) (o : Nat) (e : ProbeEntry) : parseProbeEntry x o = some e ↔
    fieldAt x o 1 = (if e.enabled then 1 else 0) ∧ signedAt x (o + 1) 1 = e.trim := by
  obtain ⟨enabled, trim⟩ := e
  rw [← parseBool_eq_some]
  unfold parseProbeEntry
  cases parseBool (fieldAt x o 1) <;> simp

end Sys2Proof.Machine
end

section
/-! The fixed-size sections of the profile (R1, R50, R90, R134, R151, R154): which bytes pass, and what they read back as. -/

namespace Sys2Proof.Machine

open Sys2Proof

/-! ### Parts of a payload, one after another -/

theorem parts_append (x : List Byte) {a b c a' : Nat} (h : a + b = a') :
    (x.drop a).take b ++ (x.drop a').take c = (x.drop a).take (b + c) := by
  rw [List.take_add, List.drop_drop, h]

theorem parts_append_tail (x t : List Byte) {a b c a' : Nat} (h : a + b = a') :
    (x.drop a).take b ++ ((x.drop a').take c ++ t) = (x.drop a).take (b + c) ++ t := by
  rw [← List.append_assoc, parts_append x h]

/-! ### The entries, as they are read back -/

theorem stripBytes_length (e : StripEntry) : (stripBytes e).length = 12 := rfl

theorem laneBytes_length (e : LaneEntry) : (laneBytes e).length = 18 := rfl

/-- The reserved byte of a STRIPMAP entry reads back as 0, the others as sent (R151). -/
theorem stripBytes_of_parse {x : List Byte} (hx : x.length = 12) {e : StripEntry} (h : parseStrip x 0 = some e) :
    stripBytes e = x.take 3 ++ ([0] ++ (x.drop 4).take 8) := by
  obtain ⟨h0, h1, h2, h4, h6, h8, h10⟩ := (parseStrip_eq_some x 0 e).mp h
  rw [stripBytes, ← h0, ← h1, ← h2, ← h4, ← h6, ← h8, ← h10]
  simp only [Nat.zero_add]
  repeat rw [leBytes_fieldAt (by omega)]
  simp only [List.append_assoc, parts_append]
  rw [List.drop_zero]
  rfl

theorem laneBytes_of_parse {x : List Byte} (hx : x.length = 18) {e : LaneEntry} (h : parseLaneEntry x 0 = some e) :
    laneBytes e = x.take 13 ++ reserved 5 := by
  obtain ⟨h0, h9, h10, h1, h3, h5, h7, h8, h11⟩ := (parseLaneEntry_eq_some x 0 e).mp h
  rw [laneBytes, boolByte, ← h0, ← h1, ← h3, ← h5, ← h7, ← h8, ← h9, ← h10, ← h11]
  simp only [Nat.zero_add]
  repeat rw [leBytes_fieldAt (by omega)]
  simp only [List.append_assoc, parts_append_tail]
  rw [List.drop_zero]

/-- A probe's entry in PROBES. -/
def probeBytes (e : ProbeEntry) : List Byte :=
  boolByte e.enabled ++ leSigned 1 e.trim

theorem probeBytes_of_parse {x : List Byte} (hx : x.length = 2) {e : ProbeEntry} (h : parseProbeEntry x 0 = some e) :
    probeBytes e = x := by
  obtain ⟨h0, h1⟩ := (parseProbeEntry_eq_some x 0 e).mp h
  rw [probeBytes, boolByte, ← h0, ← h1]
  simp only [Nat.zero_add]
  rw [leBytes_fieldAt (by omega), leSigned_signedAt (by omega)]
  simp only [parts_append, Nat.reduceAdd]
  rw [List.drop_zero]
  exact List.take_of_length_le hx.le

theorem siteBytes_parseSite {x : List Byte} (hx : x.length = 32) : siteBytes (parseSite x) = x.take 22 ++ reserved 10 := by
  rw [siteBytes, parseSite]
  repeat rw [leBytes_fieldAt (by omega)]
  simp only [List.append_assoc, parts_append_tail]
  rw [List.drop_zero]

theorem autocalBytes_parseAutocal {x : List Byte} (hx : x.length = 16) (h : (parseBool (fieldAt x 0 1)).isSome = true) :
    autocalBytes (parseAutocal x) = x := by
  obtain ⟨b, hb⟩ := Option.isSome_iff_exists.mp h
  have h0 : boolByte (decide (fieldAt x 0 1 = 1)) = leBytes 1 (fieldAt x 0 1) := by
    rw [(parseBool_eq_some _ _).mp hb]
    cases b <;> rfl
  rw [autocalBytes, parseAutocal, h0]
  repeat rw [leBytes_fieldAt (by omega)]
  simp only [parts_append]
  rw [List.drop_zero]
  exact List.take_of_length_le hx.le

/-! ### The entries, read from where they are written -/

theorem parseStrip_stripBytes {e : StripEntry} (h1 : e.trigger < 65536) (h2 : e.width < 65536) (h3 : e.k < 65536)
    (h4 : e.clipLimit < 65536) : parseStrip (stripBytes e) 0 = some e := by
  have hlane : laneNumber e.lane < 256 := by
    cases e.lane with
    | none => decide
    | some l => simp [laneNumber]; omega
  have hrow : rowCode e.row < 256 := by cases e.row <;> decide
  have hside : sideCode e.side < 256 := by cases e.side <;> decide
  exact (parseStrip_eq_some _ _ _).mpr ⟨fieldAt_of_holdsAt rfl hlane, fieldAt_of_holdsAt rfl hrow,
    fieldAt_of_holdsAt rfl hside, fieldAt_of_holdsAt rfl h1, fieldAt_of_holdsAt rfl h2, fieldAt_of_holdsAt rfl h3,
    fieldAt_of_holdsAt rfl h4⟩

theorem parseLaneEntry_laneBytes {e : LaneEntry} (h1 : e.rowSpacing < 65536) (h2 : e.loopSpacing < 65536)
    (h3 : e.loopLength < 65536) (h4 : e.rejectMs < 256) (h5 : e.stallS < 256) (h6 : e.fA < 65536) :
    parseLaneEntry (laneBytes e) 0 = some e := by
  have hen : (if e.enabled then 1 else 0) < 256 := by split <;> decide
  have hprimary : e.primary.val < 256 := by omega
  have halternate : alternateCode e.alternate < 256 := by
    cases e.alternate with
    | none => decide
    | some q => simp [alternateCode]; omega
  exact (parseLaneEntry_eq_some _ _ _).mpr ⟨fieldAt_of_holdsAt rfl hen, fieldAt_of_holdsAt rfl hprimary,
    fieldAt_of_holdsAt rfl halternate, fieldAt_of_holdsAt rfl h1, fieldAt_of_holdsAt rfl h2, fieldAt_of_holdsAt rfl h3,
    fieldAt_of_holdsAt rfl h4, fieldAt_of_holdsAt rfl h5, fieldAt_of_holdsAt rfl h6⟩

theorem parseProbeEntry_probeBytes {e : ProbeEntry} (h1 : -50 ≤ e.trim) (h2 : e.trim ≤ 50) :
    parseProbeEntry (probeBytes e) 0 = some e := by
  have hen : (if e.enabled then 1 else 0) < 256 := by split <;> decide
  exact (parseProbeEntry_eq_some _ _ _).mpr ⟨fieldAt_of_holdsAt rfl hen,
    signedAt_of_holdsAt rfl (by decide) (by norm_num; omega) (by norm_num; omega)⟩

/-- The fields of SITE. -/
def siteFields (x : SiteSec) : List (List Byte) :=
  [leBytes 1 x.laneCount, leBytes 4 x.siteNumber, leBytes 2 x.closeDelay, leBytes 2 x.maxSpacing, leBytes 2 x.window,
    leBytes 1 x.frameTimeout, leBytes 1 x.highWater, leBytes 1 x.rowTolerance, leBytes 2 x.axleLimit, leBytes 4 x.grossLimit,
    leBytes 1 x.margin, leBytes 1 x.scanPeriod, reserved 10]

theorem fieldAt_siteBytes (x : SiteSec) (i o : Nat) {size n : Nat} (h : (siteFields x)[i]? = some (leBytes size n))
    (ho : (((siteFields x).take i).map List.length).sum = o) (hn : n < 256 ^ size) : fieldAt (siteBytes x) o size = n := by
  have hflat : siteBytes x = (siteFields x).flatten := by simp [siteBytes, siteFields]
  rw [hflat, ← ho]
  exact fieldAt_of_holdsAt (holdsAt_flatten _ i h) hn

theorem sectionInRange_site (q : Profile) : firstFailing (siteChecks q.site) = none ↔ SectionInRange .site q := by
  simp [firstFailing_eq_none_iff, siteChecks, SectionInRange, within]

theorem parseSite_siteBytes {q : Profile} (h : SectionInRange .site q) : parseSite (siteBytes q.site) = q.site := by
  simp only [SectionInRange] at h
  have hfield := fieldAt_siteBytes q.site
  rw [parseSite, hfield 0 0 rfl rfl (by omega), hfield 1 1 rfl (by simp [siteFields]) (by omega),
    hfield 2 5 rfl (by simp [siteFields]) (by omega), hfield 3 7 rfl (by simp [siteFields]) (by omega),
    hfield 4 9 rfl (by simp [siteFields]) (by omega), hfield 5 11 rfl (by simp [siteFields]) (by omega),
    hfield 6 12 rfl (by simp [siteFields]) (by omega), hfield 7 13 rfl (by simp [siteFields]) (by omega),
    hfield 8 14 rfl (by simp [siteFields]) (by omega), hfield 9 16 rfl (by simp [siteFields]) (by omega),
    hfield 10 20 rfl (by simp [siteFields]) (by omega), hfield 11 21 rfl (by simp [siteFields]) (by omega)]

/-- The fields of AUTOCAL. -/
def autocalFields (x : AutocalSec) : List (List Byte) :=
  [boolByte x.enable, leBytes 1 x.refClass, leBytes 2 x.target, leBytes 2 x.speedMin, leBytes 2 x.speedMax,
    leBytes 4 x.grossMin, leBytes 4 x.grossMax]

theorem fieldAt_autocalBytes (x : AutocalSec) (i o : Nat) {size n : Nat} (h : (autocalFields x)[i]? = some (leBytes size n))
    (ho : (((autocalFields x).take i).map List.length).sum = o) (hn : n < 256 ^ size) :
    fieldAt (autocalBytes x) o size = n := by
  have hflat : autocalBytes x = (autocalFields x).flatten := by simp [autocalBytes, autocalFields]
  rw [hflat, ← ho]
  exact fieldAt_of_holdsAt (holdsAt_flatten _ i h) hn

theorem sectionInRange_autocal (q : Profile) : firstFailing (autocalChecks true q.autocal) = none ↔ SectionInRange .autocal q := by
  simp [firstFailing_eq_none_iff, autocalChecks, SectionInRange, within]
  omega

theorem parseAutocal_autocalBytes {q : Profile} (h : SectionInRange .autocal q) :
    parseAutocal (autocalBytes q.autocal) = q.autocal
      ∧ (parseBool (fieldAt (autocalBytes q.autocal) 0 1)).isSome = true := by
  simp only [SectionInRange] at h
  have hfield := fieldAt_autocalBytes q.autocal
  have h0 : fieldAt (autocalBytes q.autocal) 0 1 = if q.autocal.enable then 1 else 0 :=
    hfield 0 0 rfl rfl (by split <;> decide)
  refine ⟨?_, Option.isSome_iff_exists.mpr ⟨_, (parseBool_eq_some _ _).mpr h0⟩⟩
  have henable : decide ((if q.autocal.enable then 1 else 0) = 1) = q.autocal.enable := by cases q.autocal.enable <;> rfl
  rw [parseAutocal, h0, henable, hfield 1 1 rfl (by simp [autocalFields, boolByte]) (by omega),
    hfield 2 2 rfl (by simp [autocalFields, boolByte]) (by omega), hfield 3 4 rfl (by simp [autocalFields, boolByte]) (by omega),
    hfield 4 6 rfl (by simp [autocalFields, boolByte]) (by omega), hfield 5 8 rfl (by simp [autocalFields, boolByte]) (by omega),
    hfield 6 12 rfl (by simp [autocalFields, boolByte]) (by omega)]

end Sys2Proof.Machine
end

section
/-! The tables of the profile (STRIPMAP, LANES, TEMPCOMP, SPEEDCOMP, PROBES): entries of one width, one after another. -/

namespace Sys2Proof.Machine

open Sys2Proof

/-! ### Tables as bytes -/

section
variable {α : Type} {n w : Nat} {enc : α → List Byte} (hw : ∀ a, (enc a).length = w)
include hw

theorem table_length (v : Vector α n) : (v.toList.flatMap enc).length = w * n := by
  rw [List.length_flatMap]
  simp [hw, Nat.mul_comm]

/-- Entry `i` of a table stands at `w * i`. -/
theorem table_part (v : Vector α n) (i : Fin n) : ((v.toList.flatMap enc).drop (w * i.val)).take w = enc v[i] := by
  rw [take_drop_flatMap w enc v.toList (fun a _ => hw a) i.val (by simp)]
  simp

/-- A table agrees with the bytes sent if each entry does with its part of them. -/
theorem table_agrees (v : Vector α n) {x : List Byte} (hx : x.length = w * n) {kept : Nat → Prop}
    (h : ∀ (i : Fin n) (j : Nat), j < w → kept (w * i.val + j) → (enc v[i])[j]? = ((x.drop (w * i.val)).take w)[j]?)
    (b : Nat) (hb : kept b) : (v.toList.flatMap enc)[b]? = x[b]? := by
  by_cases hlt : b < w * n
  · have hwpos : 0 < w := Nat.pos_of_ne_zero (by rintro rfl; simp at hlt)
    have hi : b / w < n := Nat.div_lt_of_lt_mul hlt
    have hj : b % w < w := Nat.mod_lt _ hwpos
    have hbj : w * (b / w) + b % w = b := Nat.div_add_mod b w
    have hat (y : List Byte) : ((y.drop (w * (b / w))).take w)[b % w]? = y[b]? := by
      rw [List.getElem?_take_of_lt hj, List.getElem?_drop, hbj]
    rw [← hat, ← hat x, table_part hw v ⟨b / w, hi⟩]
    exact h ⟨b / w, hi⟩ (b % w) hj (by rwa [hbj])
  · rw [List.getElem?_eq_none (by rw [table_length hw]; omega), List.getElem?_eq_none (by omega)]

/-- A table whose every entry agrees is the bytes sent. -/
theorem table_eq (v : Vector α n) {x : List Byte} (hx : x.length = w * n)
    (h : ∀ i : Fin n, enc v[i] = (x.drop (w * i.val)).take w) : v.toList.flatMap enc = x :=
  List.ext_getElem? fun b => table_agrees hw v hx (kept := fun _ => True) (fun i _ _ _ => by rw [h i]) b trivial

end

/-! ### A table of entries each of which may have failed to be read -/

/-- The table in which every entry was read. -/
theorem exists_of_present {α : Type} {n : Nat} {es : Vector (Option α) n} (h : ∀ i : Fin n, es[i] ≠ none) :
    ∃ v : Vector α n, ∀ i : Fin n, es[i] = some v[i] :=
  ⟨Vector.ofFn fun i => es[i].get (Option.isSome_iff_ne_none.mpr (h i)), fun i => by simp⟩

theorem map_getD_of_present {α : Type} {n : Nat} {es : Vector (Option α) n} {v : Vector α n}
    (h : ∀ i : Fin n, es[i] = some v[i]) (d : α) : es.map (fun e => e.getD d) = v := by
  ext i hi
  have hat := h ⟨i, hi⟩
  simp only [Fin.getElem_fin] at hat
  rw [Vector.getElem_map, hat, Option.getD_some]

theorem present_checks {α : Type} {n : Nat} {f : α → Bool} {es : Vector (Option α) n} :
    firstFailing (es.toList.map (presentOk f)) = none ↔ ∃ v : Vector α n, ∀ i : Fin n, es[i] = some v[i] ∧ f v[i] = true := by
  rw [firstFailing_eq_none_iff]
  constructor
  · intro h
    have hat (i : Fin n) : presentOk f es[i] = true := h _ (List.mem_map_of_mem (by simp [Fin.getElem_fin]))
    obtain ⟨v, hv⟩ := exists_of_present (es := es) fun i hi => by
      have := hat i
      rw [hi] at this
      exact Bool.false_ne_true this
    exact ⟨v, fun i => ⟨hv i, by simpa [hv i, presentOk] using hat i⟩⟩
  · rintro ⟨v, hv⟩ b hb
    obtain ⟨e, he, rfl⟩ := List.mem_map.mp hb
    obtain ⟨i, hi, rfl⟩ := List.mem_iff_getElem.mp he
    obtain ⟨h1, h2⟩ := hv ⟨i, by simpa using hi⟩
    simp only [Fin.getElem_fin] at h1 h2
    rw [Vector.getElem_toList, h1]
    exact h2

end Sys2Proof.Machine
end

section
/-! Which bytes of a fixed-size section pass its checks, what they read back as, and that the bytes of a section in range
pass (R1, R50, R90, R134, R151, R154, R158). -/

namespace Sys2Proof.Machine

open Sys2Proof

/-! ### STRIPMAP -/

/-- An entry before this one names its segment (R1). -/
def segmentTaken (x : StripEntry) : Option StripEntry → Bool
  | none => false
  | some y => sameSegment y x

theorem stripChecks_none (before rest : List (Option StripEntry)) :
    stripChecks before (none :: rest) = false :: stripChecks (before ++ [none]) rest := rfl

theorem stripChecks_some (before rest : List (Option StripEntry)) (x : StripEntry) :
    stripChecks before (some x :: rest)
      = (stripOk x && !before.any (segmentTaken x)) :: stripChecks (before ++ [some x]) rest := by
  have hf : segmentTaken x = fun b => match b with
      | none => false
      | some y => sameSegment y x := by
    funext b
    cases b <;> rfl
  rw [hf]
  rfl

theorem any_segmentTaken (before : List (Option StripEntry)) (x : StripEntry) :
    before.any (segmentTaken x) = false ↔ ∀ y, some y ∈ before → sameSegment y x = false := by
  rw [List.any_eq_false]
  refine ⟨fun h y hy => by simpa [segmentTaken] using h _ hy, fun h b hb => ?_⟩
  cases b with
  | none => exact Bool.false_ne_true
  | some y => simpa [segmentTaken] using h y hb

/-- STRIPMAP's checks: every entry was read, is in range, and repeats no segment of those before it. -/
theorem stripChecks_all : ∀ (es before : List (Option StripEntry)), (∀ b ∈ stripChecks before es, b = true) ↔
    ∀ (i : Nat) (h : i < es.length), ∃ x, es[i] = some x ∧ stripOk x = true
      ∧ ∀ y, some y ∈ before ++ es.take i → sameSegment y x = false
  | [], before => by simp [stripChecks]
  | none :: rest, before => by
    rw [stripChecks_none, List.forall_mem_cons]
    refine ⟨fun h => absurd h.1 Bool.false_ne_true, fun h => ?_⟩
    obtain ⟨x, hx, -⟩ := h 0 (by simp)
    cases hx
  | some x :: rest, before => by
    rw [stripChecks_some, List.forall_mem_cons, stripChecks_all rest (before ++ [some x]), Bool.and_eq_true,
      Bool.not_eq_true', any_segmentTaken]
    constructor
    · rintro ⟨⟨hok, htaken⟩, hrest⟩ i hi
      cases i with
      | zero => exact ⟨x, rfl, hok, by simpa using htaken⟩
      | succ i => simpa using hrest i (by simpa using hi)
    · intro h
      refine ⟨?_, fun i hi => ?_⟩
      rotate_left
      · obtain ⟨y, hy, hok, htaken⟩ := h (i + 1) (Nat.succ_lt_succ hi)
        exact ⟨y, hy, hok, by simpa using htaken⟩
      obtain ⟨y, hy, hok, htaken⟩ := h 0 (by simp)
      obtain rfl : x = y := Option.some.inj hy
      exact ⟨hok, by simpa using htaken⟩

theorem sameSegment_eq_false (y x : StripEntry) : sameSegment y x = false ↔
    (y.lane ≠ none → ¬ (y.lane = x.lane ∧ y.row = x.row ∧ y.side = x.side)) := by
  unfold sameSegment
  cases y.lane <;> simp

/-- The checks on a table whose every entry was read say what R1 and R154 say. -/
theorem stripChecks_vector {es : Vector (Option StripEntry) 24} {q : Profile} (h : ∀ c : ChanIx, es[c] = some q.strips[c]) :
    firstFailing (stripChecks [] es.toList) = none ↔ SectionInRange .stripmap q := by
  have hget (i : Nat) (hi : i < es.toList.length) : es.toList[i] = some (q.strips[(⟨i, by simpa using hi⟩ : ChanIx)]) := by
    rw [Vector.getElem_toList]
    exact h ⟨i, by simpa using hi⟩
  have hbefore (i : Nat) (y : StripEntry) : some y ∈ [] ++ es.toList.take i
      ↔ ∃ j : ChanIx, j.val < i ∧ q.strips[j] = y := by
    rw [List.nil_append, List.mem_take_iff_getElem]
    constructor
    · rintro ⟨j, hj, he⟩
      rw [hget j (by omega)] at he
      exact ⟨⟨j, by simpa using (lt_min_iff.mp hj).2⟩, (lt_min_iff.mp hj).1, Option.some.inj he⟩
    · rintro ⟨j, hj, rfl⟩
      exact ⟨j.val, by simp [hj], hget j.val (by simp)⟩
  have hok (c : ChanIx) : stripOk q.strips[c] = true ↔ (20 ≤ q.strips[c].trigger ∧ q.strips[c].trigger ≤ 8000)
      ∧ (20 ≤ q.strips[c].width ∧ q.strips[c].width ≤ 200) ∧ (1 ≤ q.strips[c].k ∧ q.strips[c].k ≤ 65535)
      ∧ (16 ≤ q.strips[c].clipLimit ∧ q.strips[c].clipLimit ≤ 1000) := by
    simp [stripOk, within, and_assoc]
  rw [firstFailing_eq_none_iff, stripChecks_all]
  constructor
  · intro hall
    have hat (c : ChanIx) := hall c.val (by simp)
    have hrange (c : ChanIx) : stripOk q.strips[c] = true ∧ ∀ j : ChanIx, j < c → sameSegment q.strips[j] q.strips[c] = false := by
      obtain ⟨x, hx, hxok, hxb⟩ := hat c
      rw [hget] at hx
      obtain rfl := Option.some.inj hx
      exact ⟨hxok, fun j hj => hxb _ ((hbefore _ _).mpr ⟨j, hj, rfl⟩)⟩
    refine ⟨fun c => (hok c).mp (hrange c).1, fun a b hab hlane hsame => ?_⟩
    rcases lt_or_gt_of_ne hab with hlt | hgt
    · exact (sameSegment_eq_false _ _).mp ((hrange b).2 a hlt) hlane hsame
    · obtain ⟨h1, h2, h3⟩ := hsame
      exact (sameSegment_eq_false _ _).mp ((hrange a).2 b hgt) (h1 ▸ hlane) ⟨h1.symm, h2.symm, h3.symm⟩
  · rintro ⟨hrange, hdistinct⟩ i hi
    refine ⟨_, hget i hi, (hok _).mpr (hrange _), fun y hy => ?_⟩
    obtain ⟨j, hj, rfl⟩ := (hbefore i y).mp hy
    exact (sameSegment_eq_false _ _).mpr fun hlane => hdistinct j _ (Fin.ne_of_lt hj) hlane

theorem putStrips_eq_ok {p q : Profile} {bs : List Byte} : putStrips p bs = .ok q ↔
    (∀ c : ChanIx, parseStrip bs (12 * c.val) = some q.strips[c]) ∧ SectionInRange .stripmap q
      ∧ q = withSection .stripmap p q := by
  unfold putStrips
  dsimp only
  generalize hes : (Vector.ofFn fun c : ChanIx => parseStrip bs (12 * c.val)) = es
  have hat (c : ChanIx) : es[c] = parseStrip bs (12 * c.val) := by rw [← hes, Fin.getElem_fin, Vector.getElem_ofFn]
  clear hes
  constructor
  · intro h
    split at h
    · cases h
    next hnone =>
    obtain ⟨v, hv⟩ := exists_of_present (es := es) fun c hc => by
      obtain ⟨x, hx, -⟩ := (stripChecks_all _ []).mp (firstFailing_eq_none_iff.mp hnone) c.val (by simp)
      rw [Vector.getElem_toList] at hx
      exact Option.some_ne_none _ (hx.symm.trans hc)
    rw [map_getD_of_present hv] at h
    cases h
    exact ⟨fun c => (hat c).symm.trans (hv c), (stripChecks_vector (q := { p with strips := v }) hv).mp hnone, rfl⟩
  · rintro ⟨hread, hrange, hq⟩
    have hv (c : ChanIx) : es[c] = some q.strips[c] := (hat c).trans (hread c)
    rw [(stripChecks_vector hv).mpr hrange, map_getD_of_present hv]
    exact congrArg Except.ok hq.symm

theorem parseStrip_part (bs : List Byte) (o : Nat) : parseStrip ((bs.drop o).take 12) 0 = parseStrip bs o := by
  simp [parseStrip, fieldAt_part]

theorem readsBack_strips {q : Profile} {bs : List Byte} (hbs : bs.length = 288)
    (h : ∀ c : ChanIx, parseStrip bs (12 * c.val) = some q.strips[c]) : ReadsBack .stripmap bs q := by
  refine ⟨(table_length stripBytes_length q.strips).trans hbs.symm, fun b hb => ?_⟩
  refine table_agrees stripBytes_length q.strips hbs (kept := fun b => b % 12 ≠ 3) (fun c j hj hkept => ?_) b
    (of_decide_eq_false hb)
  have hlen : ((bs.drop (12 * c.val)).take 12).length = 12 := by rw [List.length_take, List.length_drop]; omega
  rw [stripBytes_of_parse hlen ((parseStrip_part bs _).trans (h c))]
  generalize (bs.drop (12 * c.val)).take 12 = x at hlen
  have hset : x.take 3 ++ ([0] ++ (x.drop 4).take 8) = x.set 3 0 := by
    have hdrop : (x.drop 4).take 8 = x.drop 4 := List.take_of_length_le (by rw [List.length_drop]; omega)
    rw [List.set_eq_take_append_cons_drop, if_pos (by omega), hdrop]
    rfl
  rw [hset, List.getElem?_set_ne (by omega)]

/-- The bytes of a table's entry stand at its part. -/
theorem parseStrip_sectionBytes {q : Profile} (h : SectionInRange .stripmap q) (c : ChanIx) :
    parseStrip (sectionBytes q .stripmap) (12 * c.val) = some q.strips[c] := by
  obtain ⟨hrange, -⟩ := h
  have hc := hrange c
  rw [← parseStrip_part, sectionBytes, table_part stripBytes_length]
  exact parseStrip_stripBytes (by omega) (by omega) (by omega) (by omega)

/-! ### LANES -/

theorem sectionInRange_lanes (q : Profile) : SectionInRange .lanes q ↔ ∀ l : LaneIx, laneOk q.lanes[l] = true := by
  simp [SectionInRange, laneOk, within, and_assoc]

theorem putLanes_eq_ok {p q : Profile} {bs : List Byte} : putLanes p bs = .ok q ↔
    (∀ l : LaneIx, parseLaneEntry bs (18 * l.val) = some q.lanes[l]) ∧ SectionInRange .lanes q
      ∧ q = withSection .lanes p q := by
  unfold putLanes
  dsimp only
  generalize hes : (Vector.ofFn fun l : LaneIx => parseLaneEntry bs (18 * l.val)) = es
  have hat (l : LaneIx) : es[l] = parseLaneEntry bs (18 * l.val) := by rw [← hes, Fin.getElem_fin, Vector.getElem_ofFn]
  clear hes
  have hget {v : Vector LaneEntry 6} (hv : ∀ l : LaneIx, es[l] = some v[l]) :
      (Vector.ofFn fun l : LaneIx => (es[l]).getD (defaultLane l)) = v := by
    ext i hi
    rw [Vector.getElem_ofFn, hv ⟨i, hi⟩]
    rfl
  constructor
  · intro h
    split at h
    · cases h
    next hnone =>
    obtain ⟨v, hv⟩ := present_checks.mp hnone
    rw [hget fun l => (hv l).1] at h
    cases h
    exact ⟨fun l => (hat l).symm.trans (hv l).1, (sectionInRange_lanes _).mpr fun l => (hv l).2, rfl⟩
  · rintro ⟨hread, hrange, hq⟩
    have hv (l : LaneIx) : es[l] = some q.lanes[l] := (hat l).trans (hread l)
    rw [present_checks.mpr ⟨q.lanes, fun l => ⟨hv l, (sectionInRange_lanes q).mp hrange l⟩⟩, hget hv]
    exact congrArg Except.ok hq.symm

theorem parseLaneEntry_part (bs : List Byte) (o : Nat) :
    parseLaneEntry ((bs.drop o).take 18) 0 = parseLaneEntry bs o := by
  simp [parseLaneEntry, fieldAt_part]

theorem readsBack_lanes {q : Profile} {bs : List Byte} (hbs : bs.length = 108)
    (h : ∀ l : LaneIx, parseLaneEntry bs (18 * l.val) = some q.lanes[l]) : ReadsBack .lanes bs q := by
  refine ⟨(table_length laneBytes_length q.lanes).trans hbs.symm, fun b hb => ?_⟩
  refine table_agrees laneBytes_length q.lanes hbs (kept := fun b => ¬ 13 ≤ b % 18) (fun l j hj hkept => ?_) b
    (of_decide_eq_false hb)
  have hlen : ((bs.drop (18 * l.val)).take 18).length = 18 := by rw [List.length_take, List.length_drop]; omega
  rw [laneBytes_of_parse hlen ((parseLaneEntry_part bs _).trans (h l))]
  generalize (bs.drop (18 * l.val)).take 18 = x at hlen
  rw [List.getElem?_append_left (by rw [List.length_take]; omega), List.getElem?_take_of_lt (by omega)]

theorem parseLaneEntry_sectionBytes {q : Profile} (h : SectionInRange .lanes q) (l : LaneIx) :
    parseLaneEntry (sectionBytes q .lanes) (18 * l.val) = some q.lanes[l] := by
  have hl := h l
  rw [← parseLaneEntry_part, sectionBytes, table_part laneBytes_length]
  exact parseLaneEntry_laneBytes (by omega) (by omega) (by omega) (by omega) (by omega) (by omega)

/-! ### TEMPCOMP and SPEEDCOMP -/

/-- A table of factors passes where each lies in its range (R90). -/
theorem factorChecks {n : Nat} (v : Vector Nat n) : firstFailing (v.toList.map factorOk) = none
    ↔ ∀ i : Fin n, 512 ≤ v[i] ∧ v[i] ≤ 2047 := by
  have hok (f : Nat) : factorOk f = true ↔ 512 ≤ f ∧ f ≤ 2047 := by simp [factorOk, within]
  rw [firstFailing_eq_none_iff]
  constructor
  · exact fun h i => (hok _).mp (h _ (List.mem_map_of_mem (by simp [Fin.getElem_fin])))
  · intro h b hb
    obtain ⟨f, hf, rfl⟩ := List.mem_map.mp hb
    obtain ⟨i, hi, rfl⟩ := List.mem_iff_getElem.mp hf
    exact (hok _).mpr (h ⟨i, by simpa using hi⟩)

/-- The factors read from a table's bytes, written out, are those bytes. -/
theorem factors_written {n : Nat} {bs : List Byte} (hbs : bs.length = 2 * n) :
    (Vector.ofFn fun i : Fin n => fieldAt bs (2 * i.val) 2).toList.flatMap (leBytes 2) = bs :=
  table_eq (leBytes_length 2) _ hbs fun i => by
    rw [Fin.getElem_fin, Vector.getElem_ofFn, leBytes_fieldAt (by omega)]

/-- The factors written out, read from their bytes, are those factors. -/
theorem factors_read {n : Nat} {v : Vector Nat n} (h : ∀ i : Fin n, v[i] < 65536) :
    (Vector.ofFn fun i : Fin n => fieldAt (v.toList.flatMap (leBytes 2)) (2 * i.val) 2) = v := by
  ext i hi
  rw [Vector.getElem_ofFn]
  have hpart := table_part (leBytes_length 2) v ⟨i, hi⟩
  rw [fieldAt, hpart, leNat_leBytes (h ⟨i, hi⟩)]
  rfl

/-! ### PROBES -/

theorem probeBytes_length (e : ProbeEntry) : (probeBytes e).length = 2 := rfl

theorem probesBytes_eq (x : ProbesSec) : probesBytes x =
    x.entries.toList.flatMap probeBytes ++ x.curve.toList.flatMap (leSigned 2) := rfl

theorem withinInt_iff (lo hi x : Int) : withinInt lo hi x = true ↔ lo ≤ x ∧ x ≤ hi := by simp [withinInt]

theorem probesChecks_none_iff {es : Vector (Option ProbeEntry) 8} {curve : Vector Int 17} :
    firstFailing (probesChecks es.toList curve.toList) = none ↔
      (∃ v : Vector ProbeEntry 8, ∀ i : ProbeIx, es[i] = some v[i] ∧ -50 ≤ v[i].trim ∧ v[i].trim ≤ 50)
        ∧ ∀ i : Fin 17, -400 ≤ curve[i] ∧ curve[i] ≤ 850 := by
  have hcurve : (∀ b ∈ curve.toList.map (withinInt (-400) 850), b = true) ↔ ∀ i : Fin 17, -400 ≤ curve[i] ∧ curve[i] ≤ 850 := by
    constructor
    · exact fun h i => (withinInt_iff _ _ _).mp (h _ (List.mem_map_of_mem (by simp [Fin.getElem_fin])))
    · intro h b hb
      obtain ⟨y, hy, rfl⟩ := List.mem_map.mp hb
      obtain ⟨i, hi, rfl⟩ := List.mem_iff_getElem.mp hy
      exact (withinInt_iff _ _ _).mpr (h ⟨i, by simpa using hi⟩)
  rw [probesChecks, firstFailing_eq_none_iff]
  simp only [List.forall_mem_append, hcurve]
  rw [← firstFailing_eq_none_iff, present_checks]
  simp only [withinInt_iff]

theorem putProbes_eq_ok {p q : Profile} {bs : List Byte} : putProbes p bs = .ok q ↔
    (∀ i : ProbeIx, parseProbeEntry bs (2 * i.val) = some q.probes.entries[i])
      ∧ q.probes.curve = (Vector.ofFn fun i : Fin 17 => signedAt bs (16 + 2 * i.val) 2) ∧ SectionInRange .probes q
      ∧ q = withSection .probes p q := by
  unfold putProbes
  dsimp only
  generalize hes : (Vector.ofFn fun i : ProbeIx => parseProbeEntry bs (2 * i.val)) = es
  generalize (Vector.ofFn fun i : Fin 17 => signedAt bs (16 + 2 * i.val) 2) = curve
  have hat (i : ProbeIx) : es[i] = parseProbeEntry bs (2 * i.val) := by rw [← hes, Fin.getElem_fin, Vector.getElem_ofFn]
  clear hes
  constructor
  · intro h
    split at h
    · cases h
    next hnone =>
    obtain ⟨⟨v, hv⟩, hcurve⟩ := probesChecks_none_iff.mp hnone
    rw [map_getD_of_present fun i => (hv i).1] at h
    cases h
    exact ⟨fun i => (hat i).symm.trans (hv i).1, rfl, ⟨fun i => (hv i).2, hcurve⟩, rfl⟩
  · rintro ⟨hread, rfl, ⟨hrange, hcurve⟩, hq⟩
    have hv (i : ProbeIx) : es[i] = some q.probes.entries[i] := (hat i).trans (hread i)
    rw [probesChecks_none_iff.mpr ⟨⟨q.probes.entries, fun i => ⟨hv i, hrange i⟩⟩, hcurve⟩, map_getD_of_present hv]
    exact congrArg Except.ok hq.symm

theorem parseProbeEntry_part (bs : List Byte) (o : Nat) :
    parseProbeEntry ((bs.drop o).take 2) 0 = parseProbeEntry bs o := by
  simp [parseProbeEntry, fieldAt_part, signedAt_part]

theorem part_take {bs : List Byte} {o w n : Nat} (h : o + w ≤ n) : ((bs.take n).drop o).take w = (bs.drop o).take w := by
  rw [List.drop_take, List.take_take, Nat.min_eq_left (by omega)]

theorem probesBytes_of_read {x : ProbesSec} {bs : List Byte} (hbs : bs.length = 50)
    (h : ∀ i : ProbeIx, parseProbeEntry bs (2 * i.val) = some x.entries[i])
    (hcurve : x.curve = Vector.ofFn fun i : Fin 17 => signedAt bs (16 + 2 * i.val) 2) : probesBytes x = bs := by
  have hentries : x.entries.toList.flatMap probeBytes = bs.take 16 :=
    table_eq probeBytes_length _ (by rw [List.length_take]; omega) fun i => by
      rw [part_take (by omega)]
      refine probeBytes_of_parse ?_ ((parseProbeEntry_part bs _).trans (h i))
      rw [List.length_take, List.length_drop]
      omega
  have hpoints : x.curve.toList.flatMap (leSigned 2) = bs.drop 16 :=
    table_eq (leSigned_length 2) _ (by rw [List.length_drop]; omega) fun i => by
      rw [hcurve, Fin.getElem_fin, Vector.getElem_ofFn, leSigned_signedAt (by omega), List.drop_drop]
  rw [probesBytes_eq, hentries, hpoints, List.take_append_drop]

theorem parseProbeEntry_sectionBytes {q : Profile} (h : SectionInRange .probes q) (i : ProbeIx) :
    parseProbeEntry (sectionBytes q .probes) (2 * i.val) = some q.probes.entries[i] := by
  have hlen := table_length probeBytes_length q.probes.entries
  have hpart : (((sectionBytes q .probes).drop (2 * i.val)).take 2) = probeBytes q.probes.entries[i] := by
    rw [sectionBytes, probesBytes_eq, List.drop_append_of_le_length (by omega),
      List.take_append_of_le_length (by rw [List.length_drop]; omega), table_part probeBytes_length]
  obtain ⟨hrange, -⟩ := h
  rw [← parseProbeEntry_part, hpart]
  exact parseProbeEntry_probeBytes (hrange i).1 (hrange i).2

theorem curve_sectionBytes {q : Profile} (h : SectionInRange .probes q) :
    q.probes.curve = Vector.ofFn fun i : Fin 17 => signedAt (sectionBytes q .probes) (16 + 2 * i.val) 2 := by
  ext i hi
  have hlen := table_length probeBytes_length q.probes.entries
  have hpart : ((sectionBytes q .probes).drop (16 + 2 * i)).take 2 = leSigned 2 q.probes.curve[i] := by
    rw [sectionBytes, probesBytes_eq, ← List.drop_drop, List.drop_left' (by omega)]
    exact table_part (leSigned_length 2) q.probes.curve ⟨i, hi⟩
  obtain ⟨h1, h2⟩ : -400 ≤ q.probes.curve[i] ∧ q.probes.curve[i] ≤ 850 := h.2 ⟨i, hi⟩
  have hread : signedAt (sectionBytes q .probes) (16 + 2 * i) 2 = q.probes.curve[i] :=
    signedAt_of_holdsAt (by rw [HoldsAt, leSigned_length]; exact hpart) (by decide) (by norm_num; omega) (by norm_num; omega)
  rw [Vector.getElem_ofFn, hread]

end Sys2Proof.Machine
end

section
/-! The CLASSES section (R122, R151): its entries, of different lengths, written out and read in. -/

namespace Sys2Proof.Machine

open Sys2Proof

/-! ### Parts that hold several fields -/

theorem HoldsAt.left {x a b : List Byte} {o : Nat} (h : HoldsAt x o (a ++ b)) : HoldsAt x o a := by
  unfold HoldsAt at *
  have := congrArg (List.take a.length) h
  rwa [List.take_take, List.take_left, List.length_append, Nat.min_eq_left (Nat.le_add_right ..)] at this

theorem HoldsAt.right {x a b : List Byte} {o : Nat} (h : HoldsAt x o (a ++ b)) : HoldsAt x (o + a.length) b := by
  unfold HoldsAt at *
  have := congrArg (List.drop a.length) h
  rwa [List.drop_left, List.length_append, List.drop_take, Nat.add_sub_cancel_left, List.drop_drop] at this

/-! ### Ranges -/

theorem rangeBytes_length (size : Nat) (r : Nat × Nat) : (rangeBytes size (some r)).length = size + size := by
  simp [rangeBytes]

theorem rangesBytes_length (rs : List (Nat × Nat)) :
    (rs.flatMap (fun r => rangeBytes 2 (some r))).length = 4 * rs.length := by
  rw [List.length_flatMap]
  simp [rangeBytes_length, Nat.mul_comm]

theorem parseRanges_length (x : List Byte) : ∀ n o : Nat, (parseRanges x n o).length = n
  | 0, _ => rfl
  | n + 1, o => congrArg Nat.succ (parseRanges_length x n (o + 4))

/-- A range written as it was read. -/
theorem rangeBytes_fieldAt {x : List Byte} {o size : Nat} (h : o + (size + size) ≤ x.length) :
    rangeBytes size (some (fieldAt x o size, fieldAt x (o + size) size)) = (x.drop o).take (size + size) := by
  rw [rangeBytes, leBytes_fieldAt (by omega), leBytes_fieldAt (by omega), parts_append x rfl]

/-- A range read from where it is written. -/
theorem fieldAt_rangeBytes {x : List Byte} {o size lo hi : Nat} (h : HoldsAt x o (rangeBytes size (some (lo, hi))))
    (hlo : lo < 256 ^ size) (hhi : hi < 256 ^ size) : fieldAt x o size = lo ∧ fieldAt x (o + size) size = hi := by
  have hright := h.right
  rw [leBytes_length] at hright
  exact ⟨fieldAt_of_holdsAt h.left hlo, fieldAt_of_holdsAt hright hhi⟩

theorem rangesBytes_parseRanges (x : List Byte) : ∀ {n o : Nat}, o + 4 * n ≤ x.length →
    (parseRanges x n o).flatMap (fun r => rangeBytes 2 (some r)) = (x.drop o).take (4 * n)
  | 0, _, _ => rfl
  | n + 1, o, h => by
    rw [parseRanges, List.flatMap_cons, rangeBytes_fieldAt (by omega), rangesBytes_parseRanges x (by omega),
      parts_append x rfl]
    congr 1
    omega

theorem parseRanges_rangesBytes (x : List Byte) : ∀ {rs : List (Nat × Nat)} {o : Nat}, (∀ r ∈ rs, r.1 ≤ r.2 ∧ r.2 ≤ 65535) →
    HoldsAt x o (rs.flatMap (fun r => rangeBytes 2 (some r))) → parseRanges x rs.length o = rs
  | [], _, _, _ => rfl
  | (lo, hi) :: rs, o, hrange, h => by
    rw [List.flatMap_cons] at h
    obtain ⟨h1, h2⟩ := hrange (lo, hi) (List.mem_cons_self ..)
    obtain ⟨hlo, hhi⟩ := fieldAt_rangeBytes h.left (by simp at h1 h2 ⊢; omega) (by simp at h1 h2 ⊢; omega)
    have hrest := h.right
    rw [rangeBytes_length] at hrest
    rw [List.length_cons, parseRanges, hlo, hhi,
      parseRanges_rangesBytes x (fun r hr => hrange r (List.mem_cons_of_mem _ hr)) hrest]

/-! ### The validity of an entry (R122) -/

theorem classOk_iff (e : ClassEntry) : classOk e = true ↔ ClassInRange e := by
  have hrange (limit : Nat) (r : Nat × Nat) : rangeOk limit r = true ↔ r.1 ≤ r.2 ∧ r.2 ≤ limit := by simp [rangeOk]
  simp only [classOk, ClassInRange, Bool.and_eq_true, within, decide_eq_true_eq, List.all_eq_true, hrange,
    Option.all_eq_true]
  constructor
  · rintro ⟨⟨⟨⟨⟨⟨⟨⟨hcode, hmin⟩, hmax⟩, hle⟩, h14⟩, hn⟩, hranges⟩, hgross⟩, hlength⟩
    exact ⟨hcode, ⟨hmin.1, hle, hmax.2⟩, h14, by omega, hranges, hgross, hlength⟩
  · rintro ⟨hcode, ⟨h1, hle, h15⟩, h14, hn, hranges, hgross, hlength⟩
    exact ⟨⟨⟨⟨⟨⟨⟨⟨hcode, h1, by omega⟩, by omega, h15⟩, hle⟩, h14⟩, by omega⟩, hranges⟩, hgross⟩, hlength⟩

/-! ### One entry -/

/-- Bytes of an optional range. -/
def optionalBytes (size : Nat) (r : Option (Nat × Nat)) : Nat :=
  if r.isSome then size + size else 0

theorem rangeBytes_optional_length (size : Nat) (r : Option (Nat × Nat)) :
    (rangeBytes size r).length = optionalBytes size r := by
  cases r with
  | none => rfl
  | some r => exact rangeBytes_length size r

/-- The parts of a class entry: six fields, the ranges, and the two optional windows. -/
def classParts (e : ClassEntry) : List (List Byte) :=
  [leBytes 1 e.code, leBytes 1 e.minAxles, leBytes 1 e.maxAxles, leBytes 1 e.track.code, leBytes 1 e.ranges.length,
    leBytes 1 (bitIf e.gross.isSome 0 + bitIf e.length.isSome 1), e.ranges.flatMap (fun r => rangeBytes 2 (some r)),
    rangeBytes 4 e.gross, rangeBytes 2 e.length]

theorem classBytes_eq (e : ClassEntry) : classBytes e = (classParts e).flatten := by simp [classBytes, classParts]

theorem classBytes_length (e : ClassEntry) :
    (classBytes e).length = 6 + 4 * e.ranges.length + optionalBytes 4 e.gross + optionalBytes 2 e.length := by
  rw [classBytes_eq]
  simp only [classParts, List.length_flatten, List.map_cons, List.map_nil, List.sum_cons, List.sum_nil, leBytes_length,
    rangesBytes_length, rangeBytes_optional_length]
  omega

theorem holdsAt_classPart (e : ClassEntry) (rest : List Byte) (i : Nat) {o : Nat} {bytes : List Byte}
    (h : (classParts e)[i]? = some bytes) (ho : (((classParts e).take i).map List.length).sum = o) :
    HoldsAt (classBytes e ++ rest) o bytes := by
  rw [classBytes_eq, ← ho]
  exact (holdsAt_flatten _ i h).append rest

/-- The marks byte of an entry tells which windows follow (R151). -/
theorem marks_gross (gross length : Bool) : decide ((bitIf gross 0 + bitIf length 1) % 2 = 1) = gross := by
  cases gross <;> cases length <;> rfl

theorem marks_length (gross length : Bool) : decide (2 ≤ bitIf gross 0 + bitIf length 1) = length := by
  cases gross <;> cases length <;> rfl

theorem marks_le (gross length : Bool) : bitIf gross 0 + bitIf length 1 ≤ 3 := by
  cases gross <;> cases length <;> decide

theorem marks_eq {m : Nat} (h : m ≤ 3) : bitIf (decide (m % 2 = 1)) 0 + bitIf (decide (2 ≤ m)) 1 = m := by
  interval_cases m <;> rfl

/-- An optional window, read where it is written. -/
theorem window_read {x : List Byte} {o size : Nat} {r : Option (Nat × Nat)} (h : HoldsAt x o (rangeBytes size r))
    (hr : ∀ p, r = some p → p.1 < 256 ^ size ∧ p.2 < 256 ^ size) :
    (if r.isSome = true then some (fieldAt x o size, fieldAt x (o + size) size) else none) = r := by
  cases r with
  | none => rfl
  | some p =>
    obtain ⟨h1, h2⟩ := hr p rfl
    obtain ⟨hlo, hhi⟩ := fieldAt_rangeBytes (lo := p.1) (hi := p.2) h h1 h2
    simp only [Option.isSome_some, if_true, hlo, hhi]

/-- An optional window, written as it was read. -/
theorem window_written {x : List Byte} {o size : Nat} {b : Bool} (h : o + (if b then size + size else 0) ≤ x.length) :
    rangeBytes size (if b = true then some (fieldAt x o size, fieldAt x (o + size) size) else none)
      = (x.drop o).take (if b = true then size + size else 0) := by
  cases b with
  | false => simp [rangeBytes]
  | true => exact rangeBytes_fieldAt h

/-- A valid entry is read from where it is written, and the rest follows. -/
theorem parseClass_classBytes {e : ClassEntry} (h : classOk e = true) (rest : List Byte) :
    parseClass (classBytes e ++ rest) = .good e rest := by
  obtain ⟨hcode, ⟨hmin, hle, hmax⟩, h14, hn, hranges, hgross, hlength⟩ := (classOk_iff e).mp h
  have hpart := holdsAt_classPart e rest
  have f0 : fieldAt (classBytes e ++ rest) 0 1 = e.code := fieldAt_of_holdsAt (hpart 0 rfl rfl) (by omega)
  have f1 : fieldAt (classBytes e ++ rest) 1 1 = e.minAxles := fieldAt_of_holdsAt (hpart 1 rfl (by simp [classParts])) (by omega)
  have f2 : fieldAt (classBytes e ++ rest) 2 1 = e.maxAxles := fieldAt_of_holdsAt (hpart 2 rfl (by simp [classParts])) (by omega)
  have f3 : fieldAt (classBytes e ++ rest) 3 1 = e.track.code :=
    fieldAt_of_holdsAt (hpart 3 rfl (by simp [classParts])) (by cases e.track <;> decide)
  have f4 : fieldAt (classBytes e ++ rest) 4 1 = e.ranges.length :=
    fieldAt_of_holdsAt (hpart 4 rfl (by simp [classParts])) (by omega)
  have hmarks := marks_le e.gross.isSome e.length.isSome
  have f5 : fieldAt (classBytes e ++ rest) 5 1 = bitIf e.gross.isSome 0 + bitIf e.length.isSome 1 :=
    fieldAt_of_holdsAt (hpart 5 rfl (by simp [classParts])) (by omega)
  have hread : parseRanges (classBytes e ++ rest) e.ranges.length 6 = e.ranges :=
    parseRanges_rangesBytes _ hranges (hpart 6 rfl (by simp [classParts]))
  have hog : (if e.gross.isSome = true then 8 else 0) = optionalBytes 4 e.gross := rfl
  have hol : (if e.length.isSome = true then 4 else 0) = optionalBytes 2 e.length := rfl
  have hg := window_read (hpart 7 (o := 6 + 4 * e.ranges.length) rfl
    (by simp [classParts, -List.length_flatMap, rangesBytes_length]; omega)) fun p hp => by have := hgross p hp; omega
  have hl := window_read (hpart 8 (o := 6 + 4 * e.ranges.length + optionalBytes 4 e.gross) rfl
    (by simp [classParts, -List.length_flatMap, rangesBytes_length, rangeBytes_optional_length]; omega))
    fun p hp => by have := hlength p hp; omega
  have hlen := classBytes_length e
  have hhead : ¬ (14 < e.ranges.length ∨ 3 < bitIf e.gross.isSome 0 + bitIf e.length.isSome 1
      ∨ e.maxAxles - 1 < e.ranges.length ∨ (!within 1 31 e.code) = true ∨ (!within 1 15 e.minAxles) = true
      ∨ (!within 1 15 e.maxAxles) = true ∨ e.maxAxles < e.minAxles) := by
    simp [within]
    omega
  unfold parseClass
  rw [if_neg (by rw [List.length_append]; omega)]
  simp only [f0, f1, f2, f3, f4, f5, (parseTrack_eq_some _ _).mpr rfl]
  rw [if_neg hhead]
  simp only [marks_gross, marks_length, hog, hol, hread, hg, hl]
  rw [if_neg (by rw [List.length_append]; omega), if_pos h, ← hlen, List.drop_left]

theorem of_ite_good {tooShort ok : Prop} [Decidable tooShort] [Decidable ok] {e e' : ClassEntry} {rest rest' : List Byte}
    (h : (if tooShort then ClassRead.short else if ok then .good e rest else .invalid) = .good e' rest') :
    ¬ tooShort ∧ ok ∧ e = e' ∧ rest = rest' := by
  split_ifs at h with h1 h2
  cases h
  exact ⟨h1, h2, rfl, rfl⟩

/-- What is read as an entry is valid and, written out, the bytes it was read from. -/
theorem classBytes_of_parse {x rest : List Byte} {e : ClassEntry} (h : parseClass x = .good e rest) :
    classOk e = true ∧ classBytes e ++ rest = x := by
  unfold parseClass at h
  split at h
  · cases h
  next h6 =>
  dsimp only at h
  split at h
  · cases h
  next track htrack =>
  split at h
  · cases h
  next hhead =>
  obtain ⟨hsize, hok, rfl, rfl⟩ := of_ite_good h
  refine ⟨hok, ?_⟩
  have hmarks : fieldAt x 5 1 ≤ 3 := by
    by_contra hno
    exact hhead (.inr (.inl (by omega)))
  have hisSome (b : Bool) (r : Nat × Nat) : (if b = true then some r else none).isSome = b := by cases b <;> rfl
  simp only [classBytes, parseRanges_length, hisSome, marks_eq hmarks, ← (parseTrack_eq_some _ _).mp htrack]
  rw [window_written (size := 4) (by split <;> simp_all <;> omega), window_written (size := 2) (by split <;> simp_all),
    rangesBytes_parseRanges x (by omega)]
  repeat rw [leBytes_fieldAt (by omega)]
  simp only [List.append_assoc, parts_append_tail, Nat.reduceAdd]
  rw [parts_append_tail x _ (Nat.zero_add _), List.drop_zero, ← Nat.add_assoc, List.take_append_drop]

/-! ### The section -/

theorem parseEntries_classBytes : ∀ {es : List ClassEntry} (_ : ∀ e ∈ es, classOk e = true) (i : Nat) (rest : List Byte),
    parseEntries es.length i (es.flatMap classBytes ++ rest) = .ok (es, rest)
  | [], _, _, _ => rfl
  | e :: es, h, i, rest => by
    have he := parseClass_classBytes (h e (List.mem_cons_self ..)) (es.flatMap classBytes ++ rest)
    have hes := parseEntries_classBytes (fun e he => h e (List.mem_cons_of_mem _ he)) (i + 1) rest
    rw [List.flatMap_cons, List.append_assoc, List.length_cons]
    simp only [parseEntries, he, hes]

theorem classBytes_of_parseEntries : ∀ {n i : Nat} {x rest : List Byte} {es : List ClassEntry},
    parseEntries n i x = .ok (es, rest) →
      es.length = n ∧ (∀ e ∈ es, classOk e = true) ∧ es.flatMap classBytes ++ rest = x
  | 0, _, _, _, _, h => by
    cases h
    exact ⟨rfl, by simp, rfl⟩
  | n + 1, i, x, rest, es, h => by
    simp only [parseEntries] at h
    split at h
    · cases h
    · cases h
    next e tail hparse =>
    split at h
    · next es' left hentries =>
      cases h
      obtain ⟨hlen, hok, heq⟩ := classBytes_of_parseEntries hentries
      obtain ⟨heok, hbytes⟩ := classBytes_of_parse hparse
      refine ⟨congrArg Nat.succ hlen, ?_, ?_⟩
      · simpa using ⟨heok, hok⟩
      · rw [List.flatMap_cons, List.append_assoc, heq, hbytes]
    · cases h

theorem parseClasses_sectionBytes {es : List ClassEntry} (hlen : es.length ≤ 32) (hok : ∀ e ∈ es, classOk e = true) :
    parseClasses (leBytes 1 es.length ++ es.flatMap classBytes) = .ok es := by
  have hcount : (BitVec.ofNat 8 es.length).toNat = es.length := by
    rw [BitVec.toNat_ofNat]
    omega
  have hread := parseEntries_classBytes hok 0 []
  rw [List.append_nil] at hread
  have hno : ¬ (32 < es.length ∨ ([] : List Byte) ≠ []) := by simp; omega
  rw [leBytes_one, List.singleton_append]
  simp only [parseClasses, hcount, Nat.min_eq_left hlen, hread, if_neg hno]

theorem sectionBytes_of_parseClasses {x : List Byte} {es : List ClassEntry} (h : parseClasses x = .ok es) :
    es.length ≤ 32 ∧ (∀ e ∈ es, classOk e = true) ∧ leBytes 1 es.length ++ es.flatMap classBytes = x := by
  unfold parseClasses at h
  split at h
  · cases h
  next b rest =>
  split at h
  · cases h
  next es' left hentries =>
  split at h
  · cases h
  next hno =>
  cases h
  obtain ⟨hcount, hleft⟩ := not_or.mp hno
  obtain rfl : left = [] := not_not.mp hleft
  obtain ⟨hlen, hok, heq⟩ := classBytes_of_parseEntries hentries
  have hb : es.length = b.toNat := by omega
  refine ⟨by omega, hok, ?_⟩
  rw [List.append_nil] at heq
  rw [leBytes_one, hb, heq, BitVec.ofNat_toNat, BitVec.setWidth_eq]
  rfl

/-- Settles O60: the entries are read from the bytes they are written to. -/
theorem classTableRoundTrip : Obligations.ClassTableRoundTrip := by
  intro p q hlen hok
  have hread := parseClasses_sectionBytes hlen hok
  simp only [validateSection, ne_eq, not_true_eq_false, false_and, if_false, putSection, sectionBytes, hread]

/-! ### Every section -/

/-- What passes a section's checks (R154, R158): the section alone has changed, lies in its ranges, and reads back as
sent. -/
theorem putSection_ok {p q : Profile} {k : Sect} {x : List Byte} (hx : k ≠ .classes → x.length = k.size)
    (h : putSection p k x = .ok q) : q = withSection k p q ∧ SectionInRange k q ∧ ReadsBack k x q := by
  have hsame {y : List Byte} (hy : y = x) : y.length = x.length ∧ ∀ i, reservedByte k i = false → y[i]? = x[i]? :=
    hy ▸ ⟨rfl, fun _ _ => rfl⟩
  cases k with
  | site =>
    have hlen : x.length = 32 := hx (by simp)
    simp only [putSection] at h
    split at h
    · cases h
    next hnone =>
    cases h
    refine ⟨rfl, (sectionInRange_site { p with site := parseSite x }).mp hnone, ?_, fun i hi => ?_⟩
    · simp [sectionBytes, siteBytes_parseSite hlen, reserved, hlen]
    · have hi22 : ¬ 22 ≤ i := of_decide_eq_false hi
      rw [sectionBytes, siteBytes_parseSite hlen, List.getElem?_append_left (by rw [List.length_take]; omega),
        List.getElem?_take_of_lt (by omega)]
  | stripmap =>
    have hlen : x.length = 288 := hx (by simp)
    simp only [putSection] at h
    obtain ⟨hread, hrange, hq⟩ := putStrips_eq_ok.mp h
    exact ⟨hq, hrange, readsBack_strips hlen hread⟩
  | lanes =>
    obtain ⟨hread, hrange, hq⟩ := putLanes_eq_ok.mp h
    exact ⟨hq, hrange, readsBack_lanes (hx (by simp)) hread⟩
  | tempcomp =>
    simp only [putSection] at h
    split at h
    · cases h
    next hnone =>
    cases h
    exact ⟨rfl, (factorChecks _).mp hnone, hsame (factors_written (n := 9) (hx (by simp)))⟩
  | speedcomp =>
    simp only [putSection] at h
    split at h
    · cases h
    next hnone =>
    cases h
    exact ⟨rfl, (factorChecks _).mp hnone, hsame (factors_written (n := 8) (hx (by simp)))⟩
  | probes =>
    obtain ⟨hread, hcurve, hrange, hq⟩ := putProbes_eq_ok.mp h
    exact ⟨hq, hrange, hsame (probesBytes_of_read (hx (by simp)) hread hcurve)⟩
  | classes =>
    simp only [putSection] at h
    split at h
    · cases h
    next es hparse =>
    cases h
    obtain ⟨hlen, hok, hbytes⟩ := sectionBytes_of_parseClasses hparse
    exact ⟨rfl, ⟨hlen, fun e he => (classOk_iff e).mp (hok e he)⟩, hsame hbytes⟩
  | autocal =>
    have hlen : x.length = 16 := hx (by simp)
    simp only [putSection] at h
    split at h
    · cases h
    next hnone =>
    cases h
    have henable : (parseBool (fieldAt x 0 1)).isSome = true :=
      firstFailing_eq_none_iff.mp hnone _ (List.mem_cons_self ..)
    rw [henable] at hnone
    exact ⟨rfl, (sectionInRange_autocal { p with autocal := parseAutocal x }).mp hnone,
      hsame (autocalBytes_parseAutocal hlen henable)⟩

theorem sectionBytes_length (q : Profile) {k : Sect} (h : k ≠ .classes) : (sectionBytes q k).length = k.size := by
  cases k with
  | site => simp [sectionBytes, siteBytes, reserved, Sect.size]
  | stripmap =>
    rw [sectionBytes, table_length stripBytes_length]
    rfl
  | lanes =>
    rw [sectionBytes, table_length laneBytes_length]
    rfl
  | tempcomp =>
    rw [sectionBytes, table_length (leBytes_length 2)]
    rfl
  | speedcomp =>
    rw [sectionBytes, table_length (leBytes_length 2)]
    rfl
  | probes =>
    rw [sectionBytes, probesBytes_eq, List.length_append, table_length probeBytes_length, table_length (leSigned_length 2)]
    rfl
  | classes => exact absurd rfl h
  | autocal => simp [sectionBytes, autocalBytes, boolByte, Sect.size]

/-- The bytes of a section in range pass its checks and give that section (R154, R158). -/
theorem putSection_sectionBytes {r : Profile} {k : Sect} (h : SectionInRange k r) (p : Profile) :
    putSection p k (sectionBytes r k) = .ok (withSection k p r) := by
  cases k with
  | site =>
    simp only [putSection, sectionBytes, parseSite_siteBytes h, (sectionInRange_site r).mpr h]
    rfl
  | stripmap =>
    simp only [putSection]
    exact putStrips_eq_ok.mpr ⟨parseStrip_sectionBytes h, h, rfl⟩
  | lanes => exact putLanes_eq_ok.mpr ⟨parseLaneEntry_sectionBytes h, h, rfl⟩
  | tempcomp =>
    have hread := factors_read (v := r.tempcomp) fun i => by have := h i; omega
    simp only [putSection, sectionBytes, hread, (factorChecks _).mpr h]
    rfl
  | speedcomp =>
    have hread := factors_read (v := r.speedcomp) fun i => by have := h i; omega
    simp only [putSection, sectionBytes, hread, (factorChecks _).mpr h]
    rfl
  | probes => exact putProbes_eq_ok.mpr ⟨parseProbeEntry_sectionBytes h, curve_sectionBytes h, h, rfl⟩
  | classes =>
    obtain ⟨hlen, hok⟩ := h
    simp only [putSection, sectionBytes, parseClasses_sectionBytes hlen fun e he => (classOk_iff e).mpr (hok e he)]
    rfl
  | autocal =>
    obtain ⟨hread, henable⟩ := parseAutocal_autocalBytes h
    simp only [putSection, sectionBytes, hread, henable, (sectionInRange_autocal r).mpr h]
    rfl

/-! ### A transfer at its END (R158) -/

theorem validateSection_short {p : Profile} {k : Sect} {x : List Byte} (hk : k ≠ .classes) (h : x.length < k.size) :
    validateSection p k x = .error (.badLength, 0) := by
  rw [validateSection, if_pos ⟨hk, by omega⟩]

theorem validateSection_eq_ok {p q : Profile} {k : Sect} {x : List Byte} : validateSection p k x = .ok q ↔
    (k ≠ .classes → x.length = k.size) ∧ putSection p k x = .ok q := by
  unfold validateSection
  by_cases hshort : k ≠ .classes ∧ x.length ≠ k.size
  · simp only [if_pos hshort]
    constructor
    · intro h
      cases h
    · intro h
      exact absurd (h.1 hshort.1) hshort.2
  · simp only [if_neg hshort]
    have hx : k ≠ .classes → x.length = k.size := fun hk => not_not.mp fun hne => hshort ⟨hk, hne⟩
    cases putSection p k x with
    | error => simp
    | ok r => simpa using fun _ => hx

theorem validateSection_error {p : Profile} {k : Sect} {x : List Byte} {st : Status} {i : Nat}
    (h : validateSection p k x = .error (st, i)) : st = .badValue ∨ st = .badLength := by
  unfold validateSection at h
  split at h
  · cases h
    exact .inr rfl
  · split at h
    · cases h
    · cases h
      exact .inl rfl

section
variable {c : Claim} {k : Sect} {x : List Byte}

theorem finish_ok {q : Profile} (h : validateSection c.staged k x = .ok q) :
    c.finish k x = ({ c with staged := q, transfer := none }, .ok (leBytes 2 x.length)) := by
  simp only [Claim.finish, h]

theorem finish_error {st : Status} {i : Nat} (h : validateSection c.staged k x = .error (st, i)) :
    c.finish k x = (c.drop, .refused st k.code i) := by
  simp only [Claim.finish, h]

/-- What END makes of the bytes does not depend on the transfer they end (R158). -/
theorem finish_drop (c : Claim) (k : Sect) (x : List Byte) : c.drop.finish k x = c.finish k x := by
  cases h : validateSection c.staged k x with
  | ok q => rw [finish_ok h, finish_ok (c := c.drop) h]; rfl
  | error e => rw [finish_error h, finish_error (c := c.drop) h]; rfl

end

/-- An EDIT_PUT with END whose chunk completes the bytes `before ++ chunk` of a section the lock leaves open. -/
theorem editPutOwner_ends {s : State} {p : Port} {code lo hi marks : Byte} {before chunk : List Byte} {c c' : Claim} {k : Sect}
    {a : Answer} (hc : s.prof.claim = some c) (ho : c.owner = p) (ht : c.timer ≠ none) (hk : sectOfCode code.toNat = some k)
    (hopen : k.metrological = false ∨ s.prof.locked = false) (hend : marks.toNat / 2 % 2 = 1)
    (hbefore : marks.toNat % 2 = 1 ∧ before = []
      ∨ marks.toNat % 2 = 0 ∧ c.transfer = some { sect := k, bytes := before })
    (hoffset : lo.toNat + 256 * hi.toNat = before.length) (hfits : (before ++ chunk).length ≤ k.size)
    (h : (c.touch s.now).finish k (before ++ chunk) = (c', a)) :
    editPutOwner p (code :: lo :: hi :: marks :: chunk) s = (s.setClaim (some c'), a) := by
  have hat : (putFields (code :: lo :: hi :: marks :: chunk)).offset = before.length := by rw [putFields_offset, hoffset]
  have hends : (putFields (code :: lo :: hi :: marks :: chunk)).ends = true := by rw [putFields_ends, hend]; rfl
  rcases hbefore with ⟨hbegin, rfl⟩ | ⟨hcontinue, hx⟩
  · refine editPutOwner_begin hc ho ht hk hopen hbegin ((putBegin_taken hat hfits).trans ?_)
    rw [hends, received_ends, finish_drop]
    exact h
  · rw [List.length_append] at hfits
    refine editPutOwner_continue hc ho ht hk hopen hcontinue ((putContinue_taken (c := c.touch s.now) hx hat hfits).trans ?_)
    rw [hends, received_ends]
    exact h

/-- Settles O40: the bytes of a transfer at its END are judged, and replace the section if they pass. -/
theorem sectionEndsTransfer : Obligations.SectionEndsTransfer := by
  rintro s p tag code lo hi marks before chunk sent k c h hk hc ho ht hopen hend hbefore hoffset rfl hfits
  refine ⟨fun q hq => ?_, fun r hr hsent => ?_, fun st i he => ⟨validateSection_error he, ?_⟩, validateSection_short⟩
  · obtain ⟨hx, hput⟩ := validateSection_eq_ok.mp hq
    exact ⟨exec_ok h tag (editPutOwner_ends hc ho ht hk hopen hend hbefore hoffset hfits (finish_ok (c := c.touch s.now) hq)),
      putSection_ok hx hput⟩
  · rw [hsent]
    exact validateSection_eq_ok.mpr ⟨sectionBytes_length r, putSection_sectionBytes hr c.staged⟩
  · exact exec_refused h tag
      (editPutOwner_ends hc ho ht hk hopen hend hbefore hoffset hfits (finish_error (c := c.touch s.now) he))

end Sys2Proof.Machine
end

section
/-! How a frame closes: the record's flags, its class and screening, and what the close leaves unchanged. -/

namespace Sys2Proof.Machine

open Sys2Proof

/-! ### Flags of a closing record -/

theorem hasFlag_tempFlag_eq_false {g : Flag} (h : g ∉ [Flag.tempHeld, .tempStale, .tempNone]) (st : TempStatus) :
    hasFlag (tempFlag st) g = false := by
  simp only [List.mem_cons, List.not_mem_nil, or_false, not_or] at h
  obtain ⟨hheld, hstale, hnone⟩ := h
  cases st
  · simpa [tempFlag] using Ne.symm hnone
  · exact hasFlag_zero g
  · simpa [tempFlag] using Ne.symm hheld
  · simpa [tempFlag] using Ne.symm hstale

theorem hasFlag_causeFlag_truncated (cause : CloseCause) :
    hasFlag cause.flag .truncated = decide (cause = .truncated) := by
  cases cause <;> simp [CloseCause.flag]

theorem hasFlag_causeFlag_aborted (cause : CloseCause) : hasFlag cause.flag .aborted = decide (cause = .aborted) := by
  cases cause <;> simp [CloseCause.flag]

theorem hasFlag_causeFlag_eq_false {g : Flag} (ht : g ≠ .truncated) (ha : g ≠ .aborted) (cause : CloseCause) :
    hasFlag cause.flag g = false := by
  cases cause
  · exact hasFlag_zero g
  · simpa [CloseCause.flag] using Ne.symm ht
  · simpa [CloseCause.flag] using Ne.symm ha

/-- The flags a close puts on a record by the state at that moment (R115, R117, R118, R120). -/
def momentFlags : List Flag :=
  [.mixed, .tempHeld, .tempStale, .tempNone, .calLimit, .timeUnset]

theorem hasFlag_closeFlags (s : State) (l : LaneIx) (f : Frame) (cause : CloseCause) {g : Flag} (h : g ∉ momentFlags) :
    hasFlag (s.closeFlags l f cause) g = (hasFlag f.flags g || hasFlag cause.flag g) := by
  have htemp : hasFlag (tempFlag (s.tempStatus l)) g = false :=
    hasFlag_tempFlag_eq_false (fun hg => h (by simp only [momentFlags, List.mem_cons] at hg ⊢; tauto)) _
  simp only [momentFlags, List.mem_cons, List.not_mem_nil, or_false, not_or] at h
  obtain ⟨hmixed, -, -, -, hlimit, hunset⟩ := h
  simp [State.closeFlags, htemp, Ne.symm hmixed, Ne.symm hlimit, Ne.symm hunset]

theorem hasFlag_overloadFlags_axle (site : SiteSec) (axles : List AxleEntry) (gross : Option Nat) :
    hasFlag (overloadFlags site axles gross) .overloadAxle = axles.any (fun a => overLimit site.axleLimit site.margin a.load) := by
  simp [overloadFlags]

theorem hasFlag_overloadFlags_gross (site : SiteSec) (axles : List AxleEntry) (gross : Option Nat) :
    hasFlag (overloadFlags site axles gross) .overloadGross = overLimit site.grossLimit site.margin gross := by
  simp [overloadFlags]

theorem hasFlag_overloadFlags_eq_false {g : Flag} (ha : g ≠ .overloadAxle) (hg : g ≠ .overloadGross) (site : SiteSec)
    (axles : List AxleEntry) (gross : Option Nat) : hasFlag (overloadFlags site axles gross) g = false := by
  simp [overloadFlags, Ne.symm ha, Ne.symm hg]

theorem overLimit_iff (limit margin : Nat) (load : Option Nat) :
    overLimit limit margin load = true ↔ Exceeds limit margin load := by
  cases load <;> simp [overLimit, Exceeds]

/-! ### The class table (R123, R124) -/

theorem trackPasses_iff (t : TrackTest) (axles : List AxleEntry) : t.passes axles = true ↔
    (t = .required → ∀ a ∈ axles, hasFlag a.flags .single = true)
      ∧ (t = .forbidden → ∃ a ∈ axles, hasFlag a.flags .single = false) := by
  cases t <;> simp [TrackTest.passes]

theorem optionalRange_iff (r : Option (Nat × Nat)) (x : Option Nat) :
    optionalRange r x = true ↔ ∀ q, r = some q → ∃ y, x = some y ∧ q.1 ≤ y ∧ y ≤ q.2 := by
  cases r with
  | none => simp [optionalRange]
  | some q => simp [optionalRange, presentWithin_iff]

theorem rangesPass_iff (rs : List (Nat × Nat)) (axles : List AxleEntry) : rangesPass rs axles = true ↔
    ∀ (g : Nat) r a, rs[g]? = some r → axles[g]? = some a → g + 1 < axles.length →
      ∃ x, a.spacing = some x ∧ r.1 ≤ x ∧ x ≤ r.2 := by
  induction rs generalizing axles with
  | nil => simp [rangesPass]
  | cons r rs ih =>
    match axles with
    | [] => simp [rangesPass]
    | [a] => simp [rangesPass]
    | a :: b :: rest =>
      simp only [rangesPass, Bool.and_eq_true, presentWithin_iff, ih]
      constructor
      · rintro ⟨hfirst, hrest⟩ (_ | g) r' a' hr ha hg
        · cases hr
          cases ha
          exact hfirst
        · exact hrest g r' a' hr ha (by simpa using hg)
      · intro h
        exact ⟨h 0 r a rfl rfl (by simp), fun g r' a' hr ha hg => h (g + 1) r' a' hr ha (by simpa using hg)⟩

theorem matchesRecord_iff (e : ClassEntry) (axles : List AxleEntry) (gross length : Option Nat) :
    e.matchesRecord axles gross length = true ↔ MatchesEntry e axles gross length := by
  simp only [ClassEntry.matchesRecord, Bool.and_eq_true, decide_eq_true_eq, trackPasses_iff, rangesPass_iff,
    optionalRange_iff, MatchesEntry, and_assoc]

section
variable {table : List ClassEntry} {flags : BitVec 32} {axles : List AxleEntry} {gross length : Option Nat}

theorem classify_notSearched (h : hasFlag flags .reverse = true ∨ hasFlag flags .aborted = true) :
    classify table flags axles gross length = (0, 0) := by
  have : hasAnyFlag flags [.reverse, .aborted] = true := by simpa [hasAnyFlag] using h
  rw [classify, if_pos this]

theorem classify_searched (hr : hasFlag flags .reverse = false) (ha : hasFlag flags .aborted = false) {o : Option ClassEntry}
    (ho : table.find? (fun e => e.matchesRecord axles gross length) = o) :
    classify table flags axles gross length = ((o.map (·.code)).getD 0, if o = none then Flag.unclassed.one else 0) := by
  have hany : hasAnyFlag flags [.reverse, .aborted] = false := by simp [hasAnyFlag, hr, ha]
  simp only [classify, hany, Bool.false_eq_true, if_false, ho]
  cases o <;> rfl

theorem hasFlag_classify_eq_false {g : Flag} (h : g ≠ .unclassed) :
    hasFlag (classify table flags axles gross length).2 g = false := by
  unfold classify
  split
  · exact hasFlag_zero g
  · split
    · exact hasFlag_zero g
    · simpa using Ne.symm h

end

/-! ### The record of a closing frame -/

section
variable (s : State) (l : LaneIx) (f : Frame) (cause : CloseCause)

theorem hasFlag_buildRecord {g : Flag} (hm : g ∉ momentFlags) (hu : g ≠ .unclassed) (ha : g ≠ .overloadAxle)
    (hg : g ≠ .overloadGross) :
    hasFlag (s.buildRecord l f cause).flags g = (hasFlag f.flags g || hasFlag cause.flag g) := by
  simp only [State.buildRecord, hasFlag_or, hasFlag_closeFlags _ _ _ _ hm, hasFlag_classify_eq_false hu,
    hasFlag_overloadFlags_eq_false ha hg, Bool.or_false]

theorem hasFlag_buildRecord_closeFlags {g : Flag} (hu : g ≠ .unclassed) (ha : g ≠ .overloadAxle)
    (hg : g ≠ .overloadGross) :
    hasFlag (s.buildRecord l f cause).flags g = hasFlag (s.closeFlags l f cause) g := by
  simp only [State.buildRecord, hasFlag_or, hasFlag_classify_eq_false hu, hasFlag_overloadFlags_eq_false ha hg, Bool.or_false]

theorem buildRecord_unclassed : hasFlag (s.buildRecord l f cause).flags .unclassed =
    (hasFlag f.flags .unclassed || hasFlag (classify s.prof.active.classes (s.closeFlags l f cause)
      (s.buildRecord l f cause).axles (s.buildRecord l f cause).gross (s.buildRecord l f cause).length).2 .unclassed) := by
  have hclose := hasFlag_closeFlags s l f cause (g := .unclassed) (by decide)
  have hcause := hasFlag_causeFlag_eq_false (g := .unclassed) (by decide) (by decide) cause
  simp only [State.buildRecord, hasFlag_or, hclose, hcause, Bool.or_false,
    hasFlag_overloadFlags_eq_false (g := .unclassed) (by decide) (by decide)]

theorem buildRecord_overloadAxle : hasFlag (s.buildRecord l f cause).flags .overloadAxle = true ↔
    hasFlag f.flags .overloadAxle = true
      ∨ ∃ a ∈ (s.buildRecord l f cause).axles, Exceeds s.prof.active.site.axleLimit s.prof.active.site.margin a.load := by
  have hclose := hasFlag_closeFlags s l f cause (g := .overloadAxle) (by decide)
  have hcause := hasFlag_causeFlag_eq_false (g := .overloadAxle) (by decide) (by decide) cause
  have hclass : ∀ x, hasFlag (classify s.prof.active.classes (s.closeFlags l f cause) x (grossOf x) f.length).2 .overloadAxle
      = false := fun x => hasFlag_classify_eq_false (by decide)
  simp only [State.buildRecord, hasFlag_or, hclose, hcause, hclass, hasFlag_overloadFlags_axle, Bool.or_false,
    Bool.or_eq_true, List.any_eq_true, overLimit_iff]

theorem buildRecord_overloadGross : hasFlag (s.buildRecord l f cause).flags .overloadGross = true ↔
    hasFlag f.flags .overloadGross = true
      ∨ Exceeds s.prof.active.site.grossLimit s.prof.active.site.margin (s.buildRecord l f cause).gross := by
  have hclose := hasFlag_closeFlags s l f cause (g := .overloadGross) (by decide)
  have hcause := hasFlag_causeFlag_eq_false (g := .overloadGross) (by decide) (by decide) cause
  have hclass : ∀ x, hasFlag (classify s.prof.active.classes (s.closeFlags l f cause) x (grossOf x) f.length).2 .overloadGross
      = false := fun x => hasFlag_classify_eq_false (by decide)
  simp only [State.buildRecord, hasFlag_or, hclose, hcause, hclass, hasFlag_overloadFlags_gross, Bool.or_false,
    Bool.or_eq_true, overLimit_iff]

theorem buildRecord_classCode : (s.buildRecord l f cause).classCode = (classify s.prof.active.classes
    (s.closeFlags l f cause) (s.buildRecord l f cause).axles (s.buildRecord l f cause).gross
    (s.buildRecord l f cause).length).1 := rfl

theorem buildRecord_classed :
    Classed s.prof.active.classes (hasFlag f.flags .unclassed) (s.buildRecord l f cause) := by
  have hreverse := hasFlag_buildRecord_closeFlags s l f cause (g := .reverse) (by decide) (by decide) (by decide)
  have haborted := hasFlag_buildRecord_closeFlags s l f cause (g := .aborted) (by decide) (by decide) (by decide)
  constructor
  · intro h
    rw [hreverse, haborted] at h
    rw [buildRecord_classCode, buildRecord_unclassed, classify_notSearched h]
    simp
  · intro above e below hr ha htable hmatch hbefore
    rw [hreverse] at hr
    rw [haborted] at ha
    have hfind : s.prof.active.classes.find? (fun x => x.matchesRecord (s.buildRecord l f cause).axles
        (s.buildRecord l f cause).gross (s.buildRecord l f cause).length) = some e := by
      have hpos := (matchesRecord_iff ..).mpr hmatch
      rw [htable, List.find?_append, List.find?_eq_none.mpr fun x hx => by
        simpa only [Bool.not_eq_true, matchesRecord_iff] using hbefore x hx, Option.none_or]
      simp only [List.find?_cons, hpos]
    rw [buildRecord_classCode, buildRecord_unclassed, classify_searched hr ha hfind]
    simp
  · intro hr ha hnone
    rw [hreverse] at hr
    rw [haborted] at ha
    have hfind : s.prof.active.classes.find? (fun x => x.matchesRecord (s.buildRecord l f cause).axles
        (s.buildRecord l f cause).gross (s.buildRecord l f cause).length) = none :=
      List.find?_eq_none.mpr fun x hx => by simpa only [matchesRecord_iff] using hnone x hx
    rw [buildRecord_classCode, buildRecord_unclassed, classify_searched hr ha hfind]
    simp

end

/-! ### The offers of a closed record -/

theorem offerToStore_store (s : State) (r : VehicleRec) : (s.offerToStore r).store =
    if s.store.length < 48 ∧ slotsUsed s.store + r.axles.length ≤ 256 then s.store ++ [r] else s.store := by
  by_cases h : storeHasRoom s.store r = true
  · rw [offerToStore_room h, if_pos ((storeHasRoom_iff _ _).mp h)]
    split <;> rfl
  · rw [offerToStore_full h, if_neg fun hroom => h ((storeHasRoom_iff _ _).mpr hroom)]
    rfl

theorem offerToStore_overload (s : State) (r : VehicleRec) (p : Port) :
    ((s.offerToStore r).port p).events[EventClass.overload.index] = (s.port p).events[EventClass.overload.index] := by
  have hset : ((s.setStore (s.store ++ [r])).port p) = s.port p := by cases p <;> rfl
  by_cases h : storeHasRoom s.store r = true
  · rw [offerToStore_room h]
    split
    · exact (congrArg (fun x : PortState => x.events[EventClass.overload.index]) (raise_port _ _ _ p)).trans
        ((raise_events ..).trans (by rw [if_neg (by decide), hset]))
    · exact congrArg (fun x : PortState => x.events[EventClass.overload.index]) hset
  · rw [offerToStore_full h, raisedAt_other _ (by decide)]

theorem offerToCal_overload (s : State) (r : VehicleRec) (p : Port) :
    ((s.offerToCal r).port p).events[EventClass.overload.index] = (s.port p).events[EventClass.overload.index] := by
  have hset : ∀ (x : LaneCal), (s.setLaneCal r.lane x).port p = s.port p := fun x => by cases p <;> rfl
  cases hfail : s.offerFailure r with
  | some o => rw [offerToCal_fails hfail, hset]
  | none =>
    by_cases hlen : 16 ≤ (s.cal[r.lane].place r.calEntry).window.length
    · rw [offerToCal_updates hfail hlen, updateFactor_port]
      split <;> simp only [raise_events] <;> rfl
    · rw [offerToCal_placed hfail (by omega), hset]

theorem updateFactor_cal (s : State) (l : LaneIx) (c : LaneCal) :
    (s.updateFactor l c).cal = s.cal.set l (c.update s.prof.active.autocal.target) := by
  unfold State.updateFactor
  dsimp only
  split <;> rfl

theorem offerToCal_cal_ne (s : State) (r : VehicleRec) {k : LaneIx} (h : k ≠ r.lane) : (s.offerToCal r).cal[k] = s.cal[k] := by
  have hset : ∀ x : LaneCal, (s.cal.set r.lane x)[k] = s.cal[k] := fun x => by
    simp only [Fin.getElem_fin, Vector.getElem_set_ne _ _ (fun hk => h (Fin.ext hk.symm))]
  cases hfail : s.offerFailure r with
  | some o =>
    rw [offerToCal_fails hfail]
    exact hset _
  | none =>
    by_cases hlen : 16 ≤ (s.cal[r.lane].place r.calEntry).window.length
    · rw [offerToCal_updates hfail hlen, updateFactor_cal]
      exact hset _
    · rw [offerToCal_placed hfail (by omega)]
      exact hset _

/-! ### The close -/

/-- The assembler after a frame of lane `l` has closed with the record `r` (R121). -/
def State.asmClosed (s : State) (l : LaneIx) (r : VehicleRec) : Assembler :=
  { frames := s.asm.frames.set l none, lastMean := s.asm.lastMean.set l r.meanSpeed, seq := nextSeq s.asm.seq }

/-- A closed record leaves the assembler and raises OVERLOAD if it carries a flag of the screening (R125). -/
def State.screened (s : State) (l : LaneIx) (r : VehicleRec) : State :=
  if hasAnyFlag r.flags [.overloadAxle, .overloadGross] then (s.setAsm (s.asmClosed l r)).raiseAt .overload l.val
  else s.setAsm (s.asmClosed l r)

theorem closeFrame_eq {s : State} {l : LaneIx} {f : Frame} (h : s.asm.frames[l] = some f) (cause : CloseCause) :
    s.closeFrame l cause =
      ((s.screened l (s.buildRecord l f cause)).offerToStore (s.buildRecord l f cause)).offerToCal
        (s.buildRecord l f cause) := by
  simp only [State.closeFrame, h]
  rfl

theorem nextSeq_eq (n : BitVec 32) : nextSeq n = if n = BitVec.allOnes 32 then 1 else n + 1 := by
  have : n + 1 = 0 ↔ n = BitVec.allOnes 32 := by
    constructor
    · intro h
      have : BitVec.allOnes 32 = 0 - 1 := rfl
      rw [this]
      exact BitVec.eq_sub_iff_add_eq.mpr h
    · rintro rfl
      rfl
  simp only [nextSeq, this]

theorem keepsAllBut_screened (s : State) (l : LaneIx) (r : VehicleRec) : KeepsAllBut [.asm, .ports] s (s.screened l r) :=
  .ite (((KeepsAllBut.setAsm s _).mono (by simp)).trans ((KeepsAllBut.raiseAt _ _ _).mono (by simp)))
    ((KeepsAllBut.setAsm s _).mono (by simp))

theorem screened_asm (s : State) (l : LaneIx) (r : VehicleRec) : (s.screened l r).asm = s.asmClosed l r := by
  unfold State.screened
  split <;> rfl

theorem screened_overload (s : State) (l : LaneIx) (r : VehicleRec) (p : Port) :
    ((s.screened l r).port p).events[EventClass.overload.index] =
      if hasFlag r.flags .overloadAxle = true ∨ hasFlag r.flags .overloadGross = true
      then cellRaised (itemBit l.val) (s.port p).events[EventClass.overload.index]
      else (s.port p).events[EventClass.overload.index] := by
  have hany : hasAnyFlag r.flags [.overloadAxle, .overloadGross] = true ↔
      hasFlag r.flags .overloadAxle = true ∨ hasFlag r.flags .overloadGross = true := by simp [hasAnyFlag]
  have hset : (s.setAsm (s.asmClosed l r)).port p = s.port p := by cases p <;> rfl
  rw [← hset]
  by_cases h : hasAnyFlag r.flags [.overloadAxle, .overloadGross] = true
  · rw [if_pos (hany.mp h), ← raisedAt_self, State.screened, if_pos h]
  · rw [if_neg (mt hany.mpr h), State.screened, if_neg h]

/-- A close is what the manual says of it. -/
theorem closedFrame_closeFrame {s : State} {l : LaneIx} {f : Frame} (h : s.asm.frames[l] = some f) (cause : CloseCause) :
    ClosedFrame s l f cause (s.closeFrame l cause) := by
  have hprof := (Measures.closeFrame s l cause).prof
  rw [closeFrame_eq h cause] at hprof ⊢
  have hlane : (s.buildRecord l f cause).lane = l := rfl
  have hscreen := keepsAllBut_screened s l (s.buildRecord l f cause)
  have htrunc := hasFlag_buildRecord s l f cause (g := .truncated) (by decide) (by decide) (by decide) (by decide)
  have habort := hasFlag_buildRecord s l f cause (g := .aborted) (by decide) (by decide) (by decide) (by decide)
  have haxle := buildRecord_overloadAxle s l f cause
  have hgross := buildRecord_overloadGross s l f cause
  have hclassed := buildRecord_classed s l f cause
  have hfields : (s.buildRecord l f cause).axles = f.axles.map FrameAxle.entry := rfl
  have hcase : (s.buildRecord l f cause).seq = s.asm.seq ∧ (s.buildRecord l f cause).boot = s.prof.boot
      ∧ (s.buildRecord l f cause).generation = s.prof.generation ∧ (s.buildRecord l f cause).closeSite = s.site.time
      ∧ (s.buildRecord l f cause).openSite = f.openSite ∧ (s.buildRecord l f cause).length = f.length
      ∧ (s.buildRecord l f cause).gross = grossOf (s.buildRecord l f cause).axles
      ∧ (s.buildRecord l f cause).meanSpeed = meanSpeed f.axles := ⟨rfl, rfl, rfl, rfl, rfl, rfl, rfl, rfl⟩
  obtain ⟨hseq, hboot, hgen, hclose, hopen, hlength, hgrossOf, hmean⟩ := hcase
  generalize s.buildRecord l f cause = r at *
  have hstore := keepsAllBut_offerToStore (s.screened l r) r
  have hcal := keepsAllBut_offerToCal ((s.screened l r).offerToStore r) r
  refine ⟨r, by rw [htrunc, hasFlag_causeFlag_truncated], by rw [habort, hasFlag_causeFlag_aborted], hseq, hlane, hboot,
    hgen, hclose, hopen, hfields, hlength, hgrossOf, hmean, hclassed, ⟨haxle, hgross, fun p => ?_⟩, ?_, ?_, ?_, hprof,
    fun k hk => ?_⟩
  · rw [offerToCal_overload, offerToStore_overload, screened_overload]
  · rw [hcal .asm (by simp), hstore .asm (by simp), screened_asm, State.asmClosed, nextSeq_eq]
  · rw [hcal .store (by simp), offerToStore_store, hscreen .store (by simp), hfields, List.length_map]
  · exact ((hscreen.mono (by simp)).trans (hstore.mono (by simp))).trans (hcal.mono (by simp))
  · rw [offerToCal_cal_ne _ _ (hlane ▸ hk), hstore .cal (by simp), hscreen .cal (by simp)]

theorem keepsAllBut_closed (s : State) (l : LaneIx) (cause : CloseCause) :
    KeepsAllBut [.asm, .store, .ports, .cal, .prof] s (s.closeFrame l cause) := by
  cases h : s.asm.frames[l] with
  | none =>
    rw [State.closeFrame, h]
    exact .refl _ _
  | some f =>
    obtain ⟨_, -, -, -, -, -, -, -, -, -, -, -, -, -, -, -, -, hkeep, -, -⟩ := closedFrame_closeFrame h cause
    exact hkeep

/-! ### The closes of the clock (R110, R111) -/

section
variable {s : State} {l : LaneIx} {f : Frame} {a : FrameAxle}

theorem whenDue_of_not_due (s : State) {due : Bool} (h : due = false) (t : State) : whenDue s due t = .next s := by
  subst h
  unfold whenDue whileRunning
  split <;> rfl

theorem presenceCloseDue_eq {t0 : Tick} (h : s.asm.frames[l] = some f) (hlast : f.axles.getLast? = some a)
    (hidle : s.loops[l].idleSince = some t0) : s.presenceCloseDue l =
      (s.spanPassed (laterOf a.axle.time t0) (fun p => 8 * p.site.closeDelay) && s.former.candidates[l].isEmpty) := by
  simp only [State.presenceCloseDue, h, hidle, Frame.last, hlast, Option.map_some]
  rfl

theorem frameTimeoutDue_eq (h : s.asm.frames[l] = some f) (hlast : f.axles.getLast? = some a) :
    s.frameTimeoutDue l = s.spanPassed a.axle.time (fun p => 8000 * p.site.frameTimeout) := by
  simp only [State.frameTimeoutDue, h, Option.bind_some, Frame.last, hlast, Option.map_some]
  rfl

theorem meanSpeed_eq (axles : List FrameAxle) {vs : List Nat} (h : vs = axles.filterMap (fun x => x.axle.speed)) :
    meanSpeed axles = if vs = [] then none else some ((2 * vs.sum + vs.length) / (2 * vs.length)) := by
  subst h
  simp only [meanSpeed, List.length_eq_zero_iff]

end

/-- Settles O32: a close is due exactly where the span has passed by the set of the tick's beginning too, and its record
is the frame's. -/
theorem frameCloses : Obligations.FrameCloses := by
  intro s l f a hheld hframe hlast
  have hclosed := closedFrame_closeFrame hframe .plain
  refine ⟨fun t0 hidle hempty hspan => ⟨_, ?_, hclosed⟩, fun t0 hidle hbrought => ?_, fun hspan => ⟨_, ?_, hclosed⟩,
    fun hbrought => ?_, fun vs hvs => meanSpeed_eq _ hvs⟩
  · refine whenDue_of_due hheld ?_ _
    rw [presenceCloseDue_eq hframe hlast hidle, (spanPassed_iff _ _ _).mpr hspan, hempty]
    rfl
  · refine whenDue_of_not_due s ?_ _
    rw [presenceCloseDue_eq hframe hlast hidle, not_spanPassed_of_broughtForward hbrought, Bool.false_and]
  · refine whenDue_of_due hheld ?_ _
    rw [frameTimeoutDue_eq hframe hlast, (spanPassed_iff _ _ _).mpr hspan]
  · refine whenDue_of_not_due s ?_ _
    rw [frameTimeoutDue_eq hframe hlast, not_spanPassed_of_broughtForward hbrought]

/-! ### An axle meets a frame (R106 to R108) -/

theorem axleOverdue_iff (s : State) (a : AxleRec) :
    s.axleOverdue a = true ↔ SpanPassed s a.time (fun p => 8000 * p.site.frameTimeout) :=
  spanPassed_iff s a.time fun p => 8000 * p.site.frameTimeout

/-- The frame an axle opens (R106). -/
def State.frameOf (s : State) (a : AxleRec) : Frame :=
  { openTick := a.time, openSite := s.siteTimeOf a.time, axles := [{ axle := a, spacing := none }],
    flags := a.flags ||| flagIf s.loops[a.lane].congested .congested ||| s.reverseFlag a.lane
      ||| flagIf (!s.site.epochSet) .timeUnset,
    generation := a.generation, length := none, shared := false, overdue := s.axleOverdue a }

theorem openFrame_asm (s : State) (a : AxleRec) : (s.openFrame a).asm = (s.setFrame a.lane (some (s.frameOf a))).asm := rfl

theorem openFrame_frame (s : State) (a : AxleRec) : (s.openFrame a).asm.frames[a.lane] = some (s.frameOf a) := by
  rw [openFrame_asm, setFrame_frames, if_pos rfl]

theorem openFrame_frame_ne (s : State) (a : AxleRec) {k : LaneIx} (h : k ≠ a.lane) :
    (s.openFrame a).asm.frames[k] = s.asm.frames[k] := by
  rw [openFrame_asm]
  exact setFrame_frames_ne s h _

theorem opensAfter_openFrame (u : State) (a : AxleRec) : OpensAfter u a (u.openFrame a) :=
  ⟨u.frameOf a, openFrame_frame u a, rfl, rfl, rfl, axleOverdue_iff u a, fun _ hk => openFrame_frame_ne u a hk, rfl,
    keepsAllBut_openFrame u a⟩

theorem appendAxle_append_singleton (init : List FrameAxle) (p : FrameAxle) (a : AxleRec) :
    appendAxle (init ++ [p]) a = init ++ [{ p with spacing := axleSpacing p.axle a }, { axle := a, spacing := none }] := by
  induction init with
  | nil => rfl
  | cons x rest ih =>
    cases rest with
    | nil => rfl
    | cons y ys => exact congrArg (x :: ·) ih

section
variable {s : State} {a : AxleRec} {f : Frame} {init : List FrameAxle} {p : FrameAxle}

theorem timeoutGone_iff (hlast : f.axles = init ++ [p]) :
    s.timeoutGone f a = true ↔ JoinTimedOut s f p.axle.time a.time := by
  simp only [State.timeoutGone, Frame.last, hlast, List.getLast?_concat, Option.map_some, Bool.and_eq_true, JoinTimedOut]
  rfl

theorem handOn_open (h : s.asm.frames[a.lane] = some f) : s.handOn a =
    if s.gapTooFar f a = true ∨ s.timeoutGone f a = true then (s.closeFrame a.lane .plain).openFrame a
    else if 15 ≤ f.axles.length then (s.closeFrame a.lane .truncated).openFrame a
    else s.joinFrame f a := by
  simp only [State.handOn, h, Bool.or_eq_true]

end

/-- Settles O31, by the three branches of an axle's handing on to an open frame. -/
theorem axleJoinsFrame : Obligations.AxleJoinsFrame := by
  rintro s a f init p _ hframe hlast rfl
  have hstep := handOn_open hframe
  have hcloses : s.gapTooFar f a = true ∨ s.timeoutGone f a = true ↔
      TooFar s (elapsed p.axle.time a.time) p.axle.speed a.speed ∨ JoinTimedOut s f p.axle.time a.time :=
    or_congr (gapTooFar_iff hlast) (timeoutGone_iff hlast)
  refine ⟨fun hnear hheld hcount => ?_, axleOverdue_iff s a, fun hapart => ?_, fun hnear hheld hcount => ?_⟩
  · rw [hstep, if_neg (mt hcloses.mp (not_or.mpr ⟨hnear, hheld⟩)), if_neg (by omega), State.joinFrame, hlast, appendAxle_append_singleton,
      axleSpacing_eq]
    simp only [State.reverseFlag, flagIf, decide_eq_true_eq]
    rfl
  · rw [hstep, if_pos (hcloses.mpr hapart)]
    exact ⟨_, closedFrame_closeFrame hframe .plain, opensAfter_openFrame _ a⟩
  · rw [hstep, if_neg (mt hcloses.mp (not_or.mpr ⟨hnear, hheld⟩)), if_pos hcount]
    exact ⟨_, closedFrame_closeFrame hframe .truncated, opensAfter_openFrame _ a⟩

end Sys2Proof.Machine
end

section
/-! Lane activation (R37 to R39): SITE_RUN and LANE_SET. -/

namespace Sys2Proof.Machine

open Sys2Proof

/-! ### Withdrawals that touch no candidate (R72) -/

section
variable {s : State} {p : HitRec → Bool}

/-- A candidate none of whose waiting hits is withdrawn is as before. -/
theorem without_eq_self {c : Candidate} (h : ∀ x, Side.waiting x ∈ c.sides → p x = false) : c.without p = c := by
  have hsides : c.sides.filter (fun x => match x with
      | .waiting y => !p y
      | .formed _ => true) = c.sides := List.filter_eq_self.mpr fun x hx => by
    cases x with
    | waiting y => simp [h y hx]
    | formed w => rfl
  exact congrArg (fun xs => { c with sides := xs }) hsides

theorem overdueAfterWithdrawal_eq_nil (h : ∀ (l : LaneIx), ∀ c ∈ s.former.candidates[l], c.without p = c ∨ (c.without p).sides = []) :
    s.overdueAfterWithdrawal p = [] := by
  refine List.map_eq_nil_iff.mpr (List.filter_eq_nil_iff.mpr fun lc hlc => ?_)
  obtain ⟨l, c⟩ := lc
  rcases h l c (mem_openCandidates.mp hlc) with e | e <;> simp [e]

theorem withdrawHits_candidates (l : LaneIx) (h : ∀ c ∈ s.former.candidates[l], c.without p = c ∧ c.sides ≠ []) :
    (s.withdrawHits p).former.candidates[l] = s.former.candidates[l] := by
  have hmap : s.former.candidates[l].map (Candidate.without p) = s.former.candidates[l] :=
    (List.map_congr_left fun c hc => (h c hc).1).trans (List.map_id' _)
  have hfilter : s.former.candidates[l].filter (fun c => !c.sides.isEmpty) = s.former.candidates[l] :=
    List.filter_eq_self.mpr fun c hc => by simpa using (h c hc).2
  simp only [State.withdrawHits, State.setFormer_former, Fin.getElem_fin, Vector.getElem_map] at hmap hfilter ⊢
  rw [hmap, hfilter]

end

/-! ### Recomposition (R39) -/

theorem recompose_of_none {s before : State} (h : ∀ l : LaneIx, before.laneActive l = true → s.laneActive l = true) :
    s.recompose before = s := by
  have hls : s.deactivatedSince before = [] := List.eq_nil_iff_forall_not_mem.mpr fun l hl => by
    obtain ⟨hb, hs⟩ := mem_deactivatedSince.mp hl
    rw [h l hb] at hs
    cases hs
  rw [State.recompose, hls]
  rfl

theorem keepsAllBut_abortFrames (ls : List LaneIx) (s : State) :
    KeepsAllBut [.asm, .store, .ports, .cal, .prof] s (s.abortFrames ls) := by
  induction ls generalizing s with
  | nil => exact .refl _ _
  | cons l rest ih => exact (keepsAllBut_closed s l .aborted).trans (ih _)

/-- What the lanes' deactivation leaves unchanged when no candidate completes by it. -/
theorem keepsAllBut_deactivate {s : State} {ls : List LaneIx} (h : ∀ (k : LaneIx), k ∉ ls →
    ∀ c ∈ s.former.candidates[k], c.without (fun y => ls.contains y.lane) = c) :
    KeepsAllBut [.former, .asm, .store, .cal, .prof, .ports] s (s.deactivate ls)
      ∧ s.deactivate ls = ((s.abortFrames ls).discardCandidates ls).withdrawHits (fun y => ls.contains y.lane) := by
  have habort := keepsAllBut_abortFrames ls s
  have heq : s.deactivate ls = ((s.abortFrames ls).discardCandidates ls).withdrawHits (fun y => ls.contains y.lane) := by
    refine withdraw_eq (overdueAfterWithdrawal_eq_nil fun k c hc => .inl ?_)
    rw [discardCandidates_candidates] at hc
    by_cases hk : k ∈ ls
    · rw [if_pos hk] at hc
      cases hc
    · rw [if_neg hk, habort .former (by simp)] at hc
      exact h k hk c hc
  rw [heq]
  exact ⟨((habort.mono (by simp)).trans ((KeepsAllBut.setFormer _ _).mono (by simp))).trans
    ((KeepsAllBut.setFormer _ _).mono (by simp)), rfl⟩

/-! ### SITE_RUN (R169) -/

section
variable {s : State} {b : Byte}

theorem siteRunOwner_out (h : 1 < b.toNat) : siteRunOwner [b] s = (s, .refused .badValue 0 0) := by
  have : runTarget (byte0 [b]) = none := by rw [byte0_singleton, runTarget, if_neg (by omega), if_neg (by omega)]
  simp only [siteRunOwner, this]

theorem siteRunOwner_noProfile (hb : b.toNat ≤ 1) (hstate : s.site.state = .noProfile) :
    siteRunOwner [b] s = (s, .refused .noProfile 0 0) := by
  obtain ⟨x, hx⟩ : ∃ x, runTarget (byte0 [b]) = some x := by
    rw [byte0_singleton]
    rcases Nat.le_one_iff_eq_zero_or_eq_one.mp hb with h | h <;> exact ⟨_, by rw [h]; rfl⟩
  simp only [siteRunOwner, hx, if_pos hstate]

theorem siteRunOwner_on (hstate : s.site.state ≠ .noProfile) :
    siteRunOwner [1] s = (s.enterSite .weighing, .ok [3]) := by
  have : runTarget (byte0 [1]) = some .weighing := rfl
  simp only [siteRunOwner, this, if_neg hstate]
  rfl

theorem siteRunOwner_off (hstate : s.site.state ≠ .noProfile) :
    siteRunOwner [0] s = (s.enterSite .standby, .ok [2]) := by
  have : runTarget (byte0 [0]) = some .standby := rfl
  simp only [siteRunOwner, this, if_neg hstate]
  rfl

theorem laneActive_setSite_not_weighing (s : State) {x : SiteCtl} (h : x.state ≠ .weighing) (l : LaneIx) :
    (s.setSite x).laneActive l = false := by
  simp [State.laneActive, h]

theorem laneActive_weighing {l : LaneIx} (h : s.laneActive l = true) :
    (s.setSite { s.site with state := .weighing }).laneActive l = true := by
  simp only [State.laneActive, Bool.and_eq_true, Bool.not_eq_true', decide_eq_true_eq] at h ⊢
  exact ⟨⟨rfl, h.1.2⟩, h.2⟩

end

/-- Settles O47: with the site off every lane has become inactive, and recomposition empties it. -/
theorem siteRunMoves : Obligations.SiteRunMoves := by
  intro s p tag b h
  refine ⟨fun hstate hb => exec_refused h tag (siteRunOwner_noProfile hb hstate), fun hb =>
    exec_refused h tag (siteRunOwner_out hb), fun hstate hb => ?_, fun hstate hb hidle => ?_⟩
  · subst hb
    have hon := siteRunOwner_on hstate
    rw [State.enterSite, recompose_of_none fun l => laneActive_weighing] at hon
    exact exec_ok h tag hon
  · subst hb
    refine ⟨_, exec_ok h tag (siteRunOwner_off hstate), ?_⟩
    have hoff : ∀ l, (s.setSite { s.site with state := .standby }).laneActive l = false :=
      laneActive_setSite_not_weighing s (show SiteState.standby ≠ .weighing by decide)
    have hmeasures : Measures (s.setSite { s.site with state := .standby }) (s.enterSite .standby) := .recompose _ _
    have hempty : IdleLanesEmpty (s.enterSite .standby) := idleLanesEmpty_recompose hidle
    have hkeep : KeepsAllBut [.former, .asm, .store, .cal, .prof, .ports] (s.setSite { s.site with state := .standby })
        (s.enterSite .standby) := by
      unfold State.enterSite State.recompose
      refine .ite (.refl _ _) (keepsAllBut_deactivate fun k hk c hc => ?_).1
      have hinactive : s.laneActive k = false := by
        by_contra hactive
        exact hk (mem_deactivatedSince.mpr ⟨by simpa using hactive, hoff k⟩)
      have : s.former.candidates[k] = [] := (hidle k hinactive).2
      rw [State.setSite_former, this] at hc
      cases hc
    have hactive : (s.enterSite .standby).prof.active = s.prof.active := hmeasures.active
    have hsite : (s.enterSite .standby).site = { s.site with state := .standby } := hmeasures.site
    have hreplies : ((s.enterSite .standby).port p).replies = (s.port p).replies := by
      rw [hmeasures.port]
      cases p <;> rfl
    have hlanes : ∀ l : LaneIx, (s.enterSite .standby).asm.frames[l] = none ∧ (s.enterSite .standby).former.candidates[l] = [] :=
      fun l => hempty l ((hmeasures.laneActive l).trans (hoff l))
    generalize s.enterSite .standby = u at *
    have hreply := KeepsAllBut.withReply u p (okReply .siteRun tag [2])
    refine ⟨(hreply .site (by simp)).trans hsite, fun l => ?_, ?_, ?_, ?_⟩
    · rw [hreply .asm (by simp), hreply .former (by simp)]
      exact hlanes l
    · rw [withReply_port, hreplies]
    · rw [hreply .prof (by simp), hactive]
    · exact (((KeepsAllBut.setSite s _).mono (by simp)).trans (hkeep.mono (by simp))).trans (hreply.mono (by simp))

/-! ### A lane that is not active takes no axle (R79) -/

theorem keepsAllBut_withdrawHits (s : State) (p : HitRec → Bool) : KeepsAllBut [.former] s (s.withdrawHits p) :=
  .setFormer s _

theorem keepsAllBut_missNotice (s : State) (c : ChanIx) :
    KeepsAllBut [.strip, .former, .ports] s (s.missNotice c).1 := by
  have hset := fun x => (KeepsAllBut.setStrip s x).mono (M := [.strip, .former, .ports]) (by simp)
  rw [missNotice_eq]
  split
  · split
    · exact hset _
    · exact ((hset _).trans ((KeepsAllBut.raiseAt _ _ _).mono (by simp))).trans ((keepsAllBut_withdrawHits _ _).mono (by simp))
  · exact .refl _ _

theorem keepsAllBut_missAt (s : State) (r : StripRow) (q : PosIx) :
    KeepsAllBut [.strip, .former, .ports] s (s.missAt r q).1 := by
  unfold State.missAt
  split
  · exact .refl _ _
  · exact keepsAllBut_missNotice _ _

theorem keepsAllBut_axleNotices (ws : List Wheel) (s : State) :
    KeepsAllBut [.strip, .former, .ports] s (State.axleNotices ws s).1 := by
  induction ws generalizing s with
  | nil => exact .refl _ _
  | cons w rest ih =>
    unfold State.axleNotices
    split
    · exact (keepsAllBut_missAt _ _ _).trans (ih _)
    · exact ih _

section
variable {l : LaneIx}

theorem handOn_frames_ne (s : State) {a : AxleRec} (h : l ≠ a.lane) : (s.handOn a).asm.frames[l] = s.asm.frames[l] := by
  have hclose : ∀ cause, (s.closeFrame a.lane cause).asm.frames[l] = s.asm.frames[l] := fun cause => by
    rw [closeFrame_frames, if_neg h.symm]
  unfold State.handOn
  split
  · exact openFrame_frame_ne _ _ h
  · split
    · exact (openFrame_frame_ne _ _ h).trans (hclose _)
    · split
      · exact (openFrame_frame_ne _ _ h).trans (hclose _)
      · exact setFrame_frames_ne _ h _

/-- An axle that completes opens or joins no frame in a lane that is not active. -/
theorem deliverAxle_frames_inactive {s : State} (h : s.laneActive l = false) (holding : LaneIx) (time : Tick)
    (ws : List Wheel) (seen : List AxleWheel) (forced : Bool) :
    (s.deliverAxle holding time ws seen forced).asm.frames[l] = s.asm.frames[l] := by
  rcases deliverAxle_cases s holding time ws seen forced with heq | ⟨late, heq⟩ | ⟨a, ha, heq⟩ <;> rw [heq]
  · rfl
  · refine handOn_frames_ne s fun hla => ?_
    rw [← hla, h] at ha
    cases ha

theorem completeOne_frames_inactive {s : State} (h : s.laneActive l = false) (k : LaneIx) (c : Candidate) (forced : Bool) :
    (s.completeOne k c forced).1.asm.frames[l] = s.asm.frames[l] := by
  have hnotices := (keepsAllBut_axleNotices (orderWheels (c.sides.map Side.close)) (s.takeOut k c)).asm (by simp)
  have hactive : (State.axleNotices (orderWheels (c.sides.map Side.close)) (s.takeOut k c)).1.laneActive l = false := by
    rw [(Measures.axleNotices _ _).laneActive]
    exact h
  refine (deliverAxle_frames_inactive hactive _ _ _ _ _).trans ?_
  rw [hnotices]
  rfl

theorem completeInTurn_frames_inactive (n : Nat) (todo : List (Nat × Bool)) {s : State} (h : s.laneActive l = false) :
    (State.completeInTurn n todo s).asm.frames[l] = s.asm.frames[l] := by
  have hone : ∀ {u : State} (k : LaneIx) c forced, u.laneActive l = false → (u.completeOne k c forced).1.laneActive l = false :=
    fun k c forced hu => ((Measures.completeOne _ k c forced).laneActive l).trans hu
  induction n generalizing todo s with
  | zero => rfl
  | succ n ih =>
    cases todo with
    | nil => rfl
    | cons x rest =>
      obtain ⟨id, forced⟩ := x
      cases hfind : s.findCandidate id with
      | none =>
        simp only [State.completeInTurn, hfind]
        exact ih _ h
      | some found =>
        obtain ⟨k, c⟩ := found
        cases hahead : s.aheadOf k c with
        | some c' =>
          simp only [State.completeInTurn, hfind, hahead]
          exact (ih _ (hone k c' false h)).trans (completeOne_frames_inactive h _ _ _)
        | none =>
          simp only [State.completeInTurn, hfind, hahead]
          exact (ih _ (hone k c forced h)).trans (completeOne_frames_inactive h _ _ _)

theorem withdraw_frames_inactive {s : State} (h : s.laneActive l = false) (p : HitRec → Bool) :
    (s.withdraw p).asm.frames[l] = s.asm.frames[l] :=
  completeInTurn_frames_inactive _ _ (s := s.withdrawHits p) h

end

/-! ### LANE_SET (R38) -/

section
variable {s : State} {n act : Byte} {l : LaneIx}

/-- A lane is closed or opened. -/
def State.withClosure (s : State) (l : LaneIx) (closed : Bool) : State :=
  s.setSite { s.site with closed := s.site.closed.set l closed }

theorem laneSetOwner_out (h : n.toNat = 0 ∨ 6 < n.toNat ∨ 1 < act.toNat) :
    laneSetOwner [n, act] s = (s, .refused .badValue 0 0) := by
  have hnot : ∀ (k : LaneIx) b, ¬ (parseLane (byte0 [n, act]) = some (some k) ∧ parseBool (byte1 [n, act]) = some b) := by
    rintro k b ⟨hk, hb⟩
    rw [parseLane_eq_some, byte0_pair] at hk
    rw [parseBool_eq_some, byte1_pair] at hb
    have := k.isLt
    simp only [laneNumber] at hk
    split at hb <;> omega
  unfold laneSetOwner
  split
  · next k b hk hb => exact absurd ⟨hk, hb⟩ (hnot k b)
  · rfl

theorem laneSetOwner_eq (hl : n.toNat = l.val + 1) (closed : Bool) (hact : act.toNat = if closed then 1 else 0) :
    laneSetOwner [n, act] s = ((s.withClosure l closed).recompose s, .ok (leBytes 1 (bitIf closed 0))) := by
  have hk : parseLane (byte0 [n, act]) = some (some l) := by rw [parseLane_eq_some, byte0_pair, hl, laneNumber]
  have hb : parseBool (byte1 [n, act]) = some closed := by rw [parseBool_eq_some, byte1_pair, hact]
  simp only [laneSetOwner, hk, hb]
  rfl

theorem laneActive_withClosure_ne {k : LaneIx} (h : k ≠ l) (closed : Bool) :
    (s.withClosure l closed).laneActive k = s.laneActive k := by
  have hset : (s.site.closed.set l closed)[k] = s.site.closed[k] := by
    simp only [Fin.getElem_fin, Vector.getElem_set_ne _ _ (fun hk => h (Fin.ext hk.symm))]
  exact congrArg (fun x => decide (s.site.state = .weighing) && s.laneEnabled k && !x) hset

theorem laneActive_closed : (s.withClosure l true).laneActive l = false := by
  simp [State.withClosure, State.laneActive]

theorem laneActive_opened (h : s.laneActive l = true) : (s.withClosure l false).laneActive l = true := by
  have hset : (s.site.closed.set l false)[l] = false := by simp
  have hopen : (s.withClosure l false).laneActive l =
      (decide (s.site.state = .weighing) && s.laneEnabled l && !(s.site.closed.set l false)[l]) := rfl
  rw [hopen, hset, Bool.not_false, Bool.and_true]
  exact (Bool.and_eq_true_iff.mp h).1

/-- Opening a lane, or closing one that is not active, deactivates none. -/
theorem recompose_withClosure {closed : Bool} (h : closed = false ∨ s.laneActive l = false) :
    (s.withClosure l closed).recompose s = s.withClosure l closed := by
  refine recompose_of_none fun k hk => ?_
  by_cases hkl : k = l
  · subst hkl
    rcases h with rfl | h
    · exact laneActive_opened hk
    · rw [h] at hk
      cases hk
  · rw [laneActive_withClosure_ne hkl, hk]

/-- Closing an active lane deactivates it alone. -/
theorem recompose_closed (h : s.laneActive l = true) :
    (s.withClosure l true).recompose s = (s.withClosure l true).deactivate [l] := by
  have hone : ∀ k : LaneIx, allLanes.filter (fun j => decide (j = k)) = [k] := by decide
  have hls : (s.withClosure l true).deactivatedSince s = [l] := by
    refine (List.filter_congr fun k _ => ?_).trans (hone l)
    by_cases hk : k = l
    · subst hk
      simp [h, laneActive_closed]
    · simp [laneActive_withClosure_ne hk, hk]
  rw [State.recompose, hls]
  rfl

/-- The closed lane is left without frame and candidate (R39). -/
theorem deactivate_empties {u : State} (h : u.laneActive l = false) :
    (u.deactivate [l]).asm.frames[l] = none ∧ (u.deactivate [l]).former.candidates[l] = [] := by
  have hinactive : ((u.abortFrames [l]).discardCandidates [l]).laneActive l = false :=
    ((Measures.abortFrames u [l]).laneActive l).trans h
  refine ⟨(withdraw_frames_inactive hinactive _).trans ?_, (thins_withdraw _ _).empty ?_⟩
  · exact (abortFrames_frames [l] u l).trans (if_pos (by simp))
  · rw [discardCandidates_candidates, if_pos (by simp)]

end

/-! ### What closing an active lane leaves of the axle former (log 12) -/

/-- No candidate of another lane waits for a hit of lane `l`. -/
def OthersStand (s : State) (l : LaneIx) : Prop :=
  ∀ k : LaneIx, k ≠ l → ∀ c ∈ s.former.candidates[k], c.sides ≠ [] ∧ ∀ h, Side.waiting h ∈ c.sides → h.lane ≠ l

section
variable {s : State} {l : LaneIx}

theorem OthersStand.without (h : OthersStand s l) {k : LaneIx} (hk : k ∉ [l]) {c : Candidate}
    (hc : c ∈ s.former.candidates[k]) : c.without (fun y => [l].contains y.lane) = c :=
  without_eq_self fun y hy => by simpa using (h k (by simpa using hk) c hc).2 y hy

theorem any_awaits_iff (sides : List Side) (y : HitRec) : sides.any (Side.awaits y) = true ↔ Side.waiting y ∈ sides := by
  rw [List.any_eq_true]
  constructor
  · rintro ⟨x, hx, hawaits⟩
    cases x with
    | waiting z =>
      obtain rfl : z = y := by simpa [Side.awaits] using hawaits
      exact hx
    | formed w => cases hawaits
  · exact fun h => ⟨_, h, by simp [Side.awaits]⟩

theorem waiting_discardCandidates (u : State) (r : StripRow) (q : PosIx) :
    (u.discardCandidates [l]).waiting r q =
      (u.waiting r q).filter (fun y => decide (∀ c ∈ u.former.candidates[l], Side.waiting y ∉ c.sides)) := by
  have hout : ∀ y, (!([l].flatMap (fun k => u.former.candidates[k])).any (fun c => c.sides.any (Side.awaits y))) =
      decide (∀ c ∈ u.former.candidates[l], Side.waiting y ∉ c.sides) := fun y => by
    rw [Bool.eq_iff_iff, Bool.not_eq_true', decide_eq_true_iff, List.any_eq_false]
    simp only [List.flatMap_cons, List.flatMap_nil, List.append_nil, any_awaits_iff]
  cases r
  · refine Eq.trans ?_ (List.filter_congr fun y _ => hout y)
    simp only [State.waiting, State.discardCandidates, State.setFormer_former, Fin.getElem_fin, Vector.getElem_map]
  · refine Eq.trans ?_ (List.filter_congr fun y _ => hout y)
    simp only [State.waiting, State.discardCandidates, State.setFormer_former, Fin.getElem_fin, Vector.getElem_map]

/-- The axle former after an active lane has been closed, where no other lane's candidate waits for a hit of it. -/
theorem deactivate_former (h : OthersStand s l) :
    (s.deactivate [l]).former.candidates = s.former.candidates.set l []
      ∧ (∀ r q, (s.deactivate [l]).waiting r q = (s.waiting r q).filter (fun y => decide (y.lane ≠ l
        ∧ ∀ c ∈ s.former.candidates[l], Side.waiting y ∉ c.sides)))
      ∧ (s.deactivate [l]).former.late = s.former.late ∧ (s.deactivate [l]).former.nextId = s.former.nextId := by
  rw [(keepsAllBut_deactivate fun k hk c hc => h.without hk hc).2]
  have hformer : (s.abortFrames [l]).former = s.former := (keepsAllBut_abortFrames [l] s).former (by simp)
  have hdiscard : ∀ k : LaneIx, ((s.abortFrames [l]).discardCandidates [l]).former.candidates[k] =
      if k = l then [] else s.former.candidates[k] := fun k => by
    rw [discardCandidates_candidates, hformer]
    simp only [List.mem_singleton]
  refine ⟨?_, fun r q => ?_, congrArg (·.late) hformer, congrArg (·.nextId) hformer⟩
  · refine Vector.ext fun k hk => ?_
    have hk' := hdiscard ⟨k, hk⟩
    have hset : (s.former.candidates.set l [])[k] = if (⟨k, hk⟩ : LaneIx) = l then [] else s.former.candidates[k] := by
      simp only [Vector.getElem_set, Fin.ext_iff, eq_comm]
    rw [hset]
    refine Eq.trans (withdrawHits_candidates ⟨k, hk⟩ fun c hc => ?_) hk'
    rw [hk'] at hc
    split at hc
    · cases hc
    · next hne => exact ⟨h.without (by simpa using hne) hc, (h ⟨k, hk⟩ hne c hc).1⟩
  · rw [waiting_withdrawHits, waiting_discardCandidates, waiting_of_former_eq hformer, hformer, List.filter_filter]
    refine List.filter_congr fun y _ => ?_
    rw [Bool.eq_iff_iff]
    simp

end

theorem withReply_laneActive (u : State) (p : Port) (r : Reply) (k : LaneIx) :
    (u.withReply p r).laneActive k = u.laneActive k := by
  cases p <;> rfl

theorem withReply_ports_congr {t u : State} (h : t.ports = u.ports) (p : Port) (r : Reply) :
    (t.withReply p r).ports = (u.withReply p r).ports := by
  cases p <;> simp only [State.withReply, State.setPort, State.port, State.setPorts_ports, h]

/-- Beyond the axle former, the deactivation of a lane is its frame's close. -/
theorem deactivate_closes (h : OthersStand s l) : (s.deactivate [l]).asm = (s.closeFrame l .aborted).asm
    ∧ (s.deactivate [l]).store = (s.closeFrame l .aborted).store ∧ (s.deactivate [l]).cal = (s.closeFrame l .aborted).cal
    ∧ (s.deactivate [l]).prof = (s.closeFrame l .aborted).prof
    ∧ (s.deactivate [l]).ports = (s.closeFrame l .aborted).ports := by
  rw [(keepsAllBut_deactivate fun k hk c hc => h.without hk hc).2]
  exact ⟨rfl, rfl, rfl, rfl, rfl⟩

/-- Settles O48: recomposition deactivates the closed lane alone, and a withdrawal that no other lane's candidate awaits
completes none. -/
theorem laneSetCloses : Obligations.LaneSetCloses := by
  intro s p tag n act hadm
  refine ⟨fun hout => exec_refused hadm tag (laneSetOwner_out hout), fun l hl => ⟨fun hcase => ?_, fun hact hactive => ?_⟩⟩
  · have hclosed : act.toNat = if decide (act = 1) then 1 else 0 := by rcases hcase with rfl | ⟨rfl, -⟩ <;> rfl
    have hreply : leBytes 1 (bitIf (decide (act = 1)) 0) = [act] := by rcases hcase with rfl | ⟨rfl, -⟩ <;> rfl
    have howner := laneSetOwner_eq (s := s) hl (decide (act = 1)) hclosed
    rw [recompose_withClosure (by rcases hcase with rfl | ⟨rfl, h⟩; exacts [.inl rfl, .inr h]), hreply] at howner
    exact exec_ok hadm tag howner
  · subst hact
    have howner := laneSetOwner_eq (s := s) hl true (act := 1) rfl
    have hone : leBytes 1 (bitIf true 0) = [1] := rfl
    rw [recompose_closed hactive, hone] at howner
    refine ⟨_, exec_ok hadm tag howner, ?_⟩
    have hmeasures : Measures (s.withClosure l true) ((s.withClosure l true).deactivate [l]) := by
      rw [← recompose_closed hactive]
      exact .recompose _ _
    have hreply := KeepsAllBut.withReply ((s.withClosure l true).deactivate [l]) p (okReply .laneSet tag [1])
    have hport : ((s.withClosure l true).port p) = s.port p := by cases p <;> rfl
    obtain ⟨hframe, hcandidates⟩ := deactivate_empties (laneActive_closed (s := s) (l := l))
    refine ⟨(hreply .site (by simp)).trans hmeasures.site, ?_, ?_, ?_, ?_, fun hothers => ?_⟩
    · rw [withReply_laneActive, hmeasures.laneActive, laneActive_closed]
    · rw [hreply .asm (by simp), hframe]
    · rw [hreply .former (by simp), hcandidates]
    · rw [withReply_port, hmeasures.port, hport]
    · have hstand : OthersStand (s.withClosure l true) l := hothers
      have hkeep := (keepsAllBut_deactivate fun k hk c hc => hstand.without hk hc).1
      obtain ⟨hcands, hwaiting, hlate, hnext⟩ := deactivate_former hstand
      obtain ⟨hasm, hstore, hcal, hprof, hports⟩ := deactivate_closes hstand
      have hformer := hreply.former (by simp)
      refine ⟨(congrArg (·.candidates) hformer).trans hcands, fun r q => (waiting_of_former_eq hformer r q).trans (hwaiting r q), (congrArg (·.late) hformer).trans hlate,
        (congrArg (·.nextId) hformer).trans hnext, ?_, fun hnone => ?_, fun f hsome => ⟨(s.withClosure l true).closeFrame l .aborted, ?_, ?_⟩⟩
      · exact (((KeepsAllBut.setSite s _).mono (by simp)).trans (hkeep.mono (by simp))).trans (hreply.mono (by simp))
      · have hstill : (s.withClosure l true).closeFrame l .aborted = s.withClosure l true := by
          have : (s.withClosure l true).asm.frames[l] = none := hnone
          simp only [State.closeFrame, this]
        rw [hstill] at hasm hstore hcal hprof hports
        exact ⟨(hreply .asm (by simp)).trans hasm, (hreply .store (by simp)).trans hstore, (hreply .cal (by simp)).trans hcal,
          (hreply .prof (by simp)).trans hprof, withReply_ports_congr (u := s) hports p _⟩
      · exact closedFrame_closeFrame (s := s.withClosure l true) hsome .aborted
      · exact ⟨(hreply .asm (by simp)).trans hasm, (hreply .store (by simp)).trans hstore, (hreply .cal (by simp)).trans hcal,
          (hreply .prof (by simp)).trans hprof, withReply_ports_congr hports p _⟩

end Sys2Proof.Machine
end

section
/-! STATUS (R180): its result as a list of parts, one after another, and where each stands (chapter 9, STATUS result). -/

namespace Sys2Proof.Machine

open Sys2Proof

/-! ### Entries of a table inside a payload -/

theorem HoldsAt.within {x part bytes : List Byte} {o k : Nat} (hpart : HoldsAt x o part) (h : HoldsAt part k bytes)
    (hk : k + bytes.length ≤ part.length) : HoldsAt x (o + k) bytes :=
  .of_part hpart h hk

/-- Entry `i` of a table of entries of `w` bytes stands `w * i` bytes after the table's beginning. -/
theorem HoldsAt.entry {α : Type} {n w o : Nat} {enc : α → List Byte} (hw : ∀ a, (enc a).length = w) {v : Vector α n}
    {x : List Byte} (h : HoldsAt x o (v.toList.flatMap enc)) (i : Fin n) : HoldsAt x (o + w * i.val) (enc v[i]) := by
  have hbound : w * i.val + w ≤ w * n := by
    rw [← Nat.mul_succ]
    exact Nat.mul_le_mul_left w i.isLt
  refine h.within ?_ ?_
  · rw [HoldsAt, hw]
    exact table_part hw v i
  · rw [hw, table_length hw]
    exact hbound

theorem HoldsAt.number {x : List Byte} {o size m n : Nat} (h : HoldsAt x o (leBytes size m)) (hn : n = m) :
    HoldsAt x o (leBytes size n) :=
  hn ▸ h

theorem allLanes_eq : allLanes = (Vector.ofFn (fun l : LaneIx => l)).toList := by decide

/-- The entry of a lane in a table of lanes. -/
theorem HoldsAt.laneEntry {w o : Nat} {enc : LaneIx → List Byte} (hw : ∀ l, (enc l).length = w) {x : List Byte}
    (h : HoldsAt x o (allLanes.flatMap enc)) (l : LaneIx) : HoldsAt x (o + w * l.val) (enc l) := by
  rw [allLanes_eq] at h
  simpa using h.entry hw l

theorem laneTable_length {w : Nat} {enc : LaneIx → List Byte} (hw : ∀ l, (enc l).length = w) :
    (allLanes.flatMap enc).length = w * 6 := by
  rw [allLanes_eq]
  exact table_length hw _

/-! ### The widths of the entries -/

theorem channelStatus_length (ch : Channel) : ch.status.length = 9 := by simp [Channel.status]

theorem loopStatus_length (m : LaneMonitor) : m.loopStatus.length = 2 := by simp [LaneMonitor.loopStatus]

theorem laneStatus_length (s : State) (l : LaneIx) : (s.laneStatus l).length = 6 := by simp [State.laneStatus]

theorem probeStatus_length (x : Probe) : x.status.length = 9 := by simp [Probe.status]

theorem tempStatusBytes_length (t : LaneTemp) : t.statusBytes.length = 8 := by simp [LaneTemp.statusBytes]

theorem formerLaneStatus_length (f : AxleFormer) (l : LaneIx) : (f.laneStatus l).length = 3 := by simp [AxleFormer.laneStatus]

theorem asmLaneStatus_length (a : Assembler) (l : LaneIx) : (a.laneStatus l).length = 10 := by simp [Assembler.laneStatus]

theorem calStatus_length (c : LaneCal) : c.status.length = 15 := by simp [LaneCal.status]

/-- An event cell of the asking port, 5 bytes. -/
def EventCell.status (e : EventCell) : List Byte :=
  leBytes 1 e.count ++ leBytes 4 e.list.toNat

theorem eventStatus_length (e : EventCell) : e.status.length = 5 := by simp [EventCell.status]

/-- The length of one pending list, 1 byte. -/
def countByte (hs : List HitRec) : List Byte :=
  leBytes 1 hs.length

theorem countByte_length (hs : List HitRec) : (countByte hs).length = 1 := by simp [countByte]

/-! ### The parts of the payload -/

/-- The profile store and the site controller after the owner and the ownership seconds, 6 bytes (R173). -/
def State.profileTail (s : State) : List Byte :=
  leBytes 1 (orZero ((s.prof.claim.bind (·.transfer)).map (fun x => x.sect.code)))
    ++ leBytes 2 (orZero ((s.prof.claim.bind (·.transfer)).map (fun x => x.bytes.length)))
    ++ leBytes 1 (bitIf s.commitInFlight 0 + bitIf s.site.restart.isSome 1 + bitIf s.prof.writeFault 2
      + bitIf s.site.epochSet 3 + bitIf s.prof.locked 4 + bitIf s.prof.lockPending 5)
    ++ leBytes 1 (orZero (s.prof.write.map (fun w => w.reason.code)))
    ++ leBytes 1 (bitIf s.prof.reasons.commit 0 + bitIf s.prof.reasons.learned 1 + bitIf s.prof.reasons.lock 2
      + bitIf s.prof.reasons.boot 3)

/-- The parts of the STATUS reply's payload, the status byte first. -/
def State.statusParts (s : State) (p : Port) : List (List Byte) :=
  [[0], s.strip.channels.toList.flatMap Channel.status, s.loops.toList.flatMap LaneMonitor.loopStatus,
    allLanes.flatMap s.laneStatus, s.temp.converterStatus, s.temp.probes.toList.flatMap Probe.status,
    s.temp.lanes.toList.flatMap LaneTemp.statusBytes, s.former.waitA.toList.flatMap countByte,
    s.former.waitB.toList.flatMap countByte, allLanes.flatMap s.former.laneStatus, allLanes.flatMap s.asm.laneStatus,
    s.storeStatus, s.cal.toList.flatMap LaneCal.status, leBytes 1 (ownerCode (s.prof.claim.map (·.owner))),
    leBytes 1 s.ownershipSeconds, s.profileTail, (s.port p).events.toList.flatMap EventCell.status,
    leBytes 2 (s.port p).mask.toNat, (s.port p).links.status, leBytes 1 (deferredCode (s.port p).deferred)]

/-- The sizes of the parts. -/
def statusLengths : List Nat :=
  [1, 216, 12, 36, 11, 72, 48, 12, 12, 18, 60, 17, 90, 1, 1, 6, 65, 2, 12, 1]

theorem statusParts_flatten (s : State) (p : Port) : (s.statusParts p).flatten = 0 :: s.statusResult p := by
  have hevents : EventCell.status = fun e => leBytes 1 e.count ++ leBytes 4 e.list.toNat := rfl
  have hcount : countByte = fun hs => leBytes 1 hs.length := rfl
  simp only [State.statusParts, State.statusResult, State.profileStatus, State.profileTail, PortState.status,
    AxleFormer.waitingStatus, hevents, hcount, List.flatten_cons, List.flatten_nil, List.flatMap_append, List.append_assoc,
    List.cons_append, List.nil_append, List.append_nil]

theorem statusParts_lengths (s : State) (p : Port) : (s.statusParts p).map List.length = statusLengths := by
  have hconv : s.temp.converterStatus.length = 11 := by simp [TempUnit.converterStatus]
  have hstore : s.storeStatus.length = 17 := by simp [State.storeStatus]
  have htail : s.profileTail.length = 6 := by simp [State.profileTail]
  have hlinks : (s.port p).links.status.length = 12 := by simp [LinkCounts.status]
  simp only [State.statusParts, statusLengths, List.map_cons, List.map_nil, table_length channelStatus_length,
    table_length loopStatus_length, laneTable_length (laneStatus_length s), hconv, table_length probeStatus_length,
    table_length tempStatusBytes_length, table_length countByte_length, laneTable_length (formerLaneStatus_length s.former),
    laneTable_length (asmLaneStatus_length s.asm), hstore, table_length calStatus_length, leBytes_length, htail,
    table_length eventStatus_length, hlinks, List.length_cons, List.length_nil]

theorem holdsAt_statusPart (s : State) (p : Port) (i : Nat) {o : Nat} {bytes : List Byte}
    (h : (s.statusParts p)[i]? = some bytes) (ho : (statusLengths.take i).sum = o) :
    HoldsAt (0 :: s.statusResult p) o bytes := by
  rw [← ho, ← statusParts_lengths s p, ← List.map_take, ← statusParts_flatten]
  exact holdsAt_flatten _ i h

theorem statusPayload_length (s : State) (p : Port) : (0 :: s.statusResult p).length = 693 := by
  rw [← statusParts_flatten, List.length_flatten, statusParts_lengths]
  rfl

/-! ### Fields that the layout says by cases -/

theorem converterStatus_eq (t : TempUnit) {n : Nat} (hn : n = (t.conv.map (fun c => c.input.code)).getD 255) :
    t.converterStatus = leBytes 1 (if t.conv.isSome then 1 else 0) ++ leBytes 1 n
      ++ leBytes 1 ((t.slot.map (fun r => r.probe.val)).getD 255)
      ++ leBytes 1 ((if t.zeroFault then 1 else 0) + (if t.lastZero.isSome then 2 else 0) + (if t.passInProgress then 4 else 0))
      ++ leSigned 1 t.offset ++ leSigned 2 (t.lastZero.getD 0) ++ leBytes 2 t.zeroFaults ++ leBytes 2 t.late := by
  subst hn
  rfl

theorem storeStatus_eq (s : State) : s.storeStatus = leBytes 1 s.store.length ++ leBytes 2 (slotsUsed s.store)
    ++ leBytes 4 ((s.store.head?.map (fun r => r.seq.toNat)).getD 0)
    ++ leBytes 4 ((s.store.getLast?.map (fun r => r.seq.toNat)).getD 0)
    ++ leBytes 1 s.prof.active.site.highWater ++ leBytes 4 s.asm.seq.toNat ++ leBytes 1 (if s.ports.stream then 1 else 0) := by
  have hyoungest : youngestSeq s.store = (s.store.getLast?.map (fun r => r.seq.toNat)).getD 0 := by
    unfold youngestSeq
    cases s.store.getLast? <;> rfl
  rw [State.storeStatus, oldestSeq_eq, hyoungest]
  rfl

theorem profileTail_eq (s : State) {n : Nat} (hn : n = bitIf s.commitInFlight 0) : s.profileTail =
    leBytes 1 (((s.prof.claim.bind (·.transfer)).map (fun y => y.sect.code)).getD 0)
      ++ leBytes 2 (((s.prof.claim.bind (·.transfer)).map (fun y => y.bytes.length)).getD 0)
      ++ leBytes 1 (n + (if s.site.restart.isSome then 2 else 0) + (if s.prof.writeFault then 4 else 0)
        + (if s.site.epochSet then 8 else 0) + (if s.prof.locked then 16 else 0) + (if s.prof.lockPending then 32 else 0))
      ++ leBytes 1 ((s.prof.write.map (fun w => w.reason.code)).getD 0)
      ++ leBytes 1 ((if s.prof.reasons.commit then 1 else 0) + (if s.prof.reasons.learned then 2 else 0)
        + (if s.prof.reasons.lock then 4 else 0) + (if s.prof.reasons.boot then 8 else 0)) := by
  subst hn
  rfl

theorem commitInFlight_iff (s : State) : s.commitInFlight = true ↔ ∃ c, s.prof.claim = some c ∧ c.timer = none := by
  unfold State.commitInFlight Claim.inFlight
  cases s.prof.claim with
  | none => simp
  | some c => simp

/-! ### The reply -/

theorem statusOwner_state (s : State) (p : Port) : ∃ u, (s.setPort p (s.port p).clearEvents).countFreeRead = u
    ∧ u.port p = (s.port p).clearEvents ∧ u.port (otherPort p) = s.port (otherPort p) ∧ u.ports.stream = s.ports.stream
    ∧ KeepsAllBut [.ports, .freeReads] s u := by
  refine ⟨_, rfl, ?_⟩
  have hports : (s.setPort p (s.port p).clearEvents).countFreeRead.ports = (s.setPort p (s.port p).clearEvents).ports := by
    unfold State.countFreeRead
    split <;> rfl
  have hport : ∀ q, (s.setPort p (s.port p).clearEvents).countFreeRead.port q = (s.setPort p (s.port p).clearEvents).port q :=
    fun q => by
      cases q
      · exact congrArg Ports.cab hports
      · exact congrArg Ports.svc hports
  have hset : KeepsAllBut [.ports, .freeReads] s (s.setPort p (s.port p).clearEvents) :=
    (KeepsAllBut.setPort s p _).mono (by simp)
  refine ⟨by rw [hport, State.port_setPort], ?_, ?_, ?_⟩
  · rw [hport]
    cases p <;> rfl
  · rw [hports]
    cases p <;> rfl
  · unfold State.countFreeRead
    exact .ite (hset.trans ((KeepsAllBut.setFreeReads _ _).mono (by simp))) hset

/-- Settles O50: every field is a part of the payload, or an entry of one. -/
theorem statusClearsAskingPort : Obligations.StatusClearsAskingPort := by
  refine ⟨fun s p tag h => ?_, rfl, rfl, rfl, rfl, rfl, rfl, rfl, rfl, rfl⟩
  obtain ⟨u, hu, hport, hother, hstream, hkeep⟩ := statusOwner_state s p
  have howner : ownerOf .status p [] s = (u, .ok (s.statusResult p)) := congrArg (·, Answer.ok (s.statusResult p)) hu
  have hreply := KeepsAllBut.withReply u p (okReply .status tag (s.statusResult p))
  refine ⟨_, s.statusResult p, 0 :: s.statusResult p, exec_ok h tag howner, rfl, statusPayload_length s p, ?_, ?_, ?_, ?_,
    hkeep.trans (hreply.mono (by simp)), ?_⟩
  · rw [withReply_port, hport]
    rfl
  · intro i
    rw [withReply_port, hport]
    simp [PortState.clearEvents, emptyCell]
  · rw [← hother]
    cases p <;> rfl
  · rw [← hstream]
    cases p <;> rfl
  · have part := holdsAt_statusPart s p
    generalize 0 :: s.statusResult p = x at part
    refine ⟨part 0 rfl rfl, (part 1 rfl rfl).entry channelStatus_length, (part 2 rfl rfl).entry loopStatus_length,
      (part 3 rfl rfl).laneEntry (laneStatus_length s), ?_, (part 5 rfl rfl).entry probeStatus_length,
      (part 6 rfl rfl).entry tempStatusBytes_length, fun q => ⟨?_, ?_⟩,
      (part 9 rfl rfl).laneEntry (formerLaneStatus_length s.former), (part 10 rfl rfl).laneEntry (asmLaneStatus_length s.asm), ?_,
      (part 12 rfl rfl).entry calStatus_length, ?_, fun hclaim => ?_, fun c t0 hclaim htimer => ?_, ?_,
      (part 16 rfl rfl).entry eventStatus_length, part 17 rfl rfl, part 18 rfl rfl, ?_⟩
    · refine converterStatus_eq s.temp ?_ ▸ part 4 rfl rfl
      rcases s.temp.conv with _ | ⟨_ | _, _⟩ <;> rfl
    · have := (part 7 rfl rfl).entry countByte_length q
      rwa [Nat.one_mul] at this
    · have := (part 8 rfl rfl).entry countByte_length q
      rwa [Nat.one_mul] at this
    · exact storeStatus_eq s ▸ part 11 rfl rfl
    · refine (part 13 rfl rfl).number ?_
      rcases s.prof.claim with _ | ⟨_ | _, _⟩ <;> rfl
    · have := part 14 rfl rfl
      rwa [State.ownershipSeconds, hclaim] at this
    · have := part 14 rfl rfl
      simp only [State.ownershipSeconds, hclaim, htimer] at this
      exact this
    · refine profileTail_eq s ?_ ▸ part 15 rfl rfl
      simp only [bitIf, commitInFlight_iff]
      rfl
    · refine (part 19 rfl rfl).number ?_
      rcases (s.port p).deferred with _ | ⟨_ | _, _⟩ <;> rfl

end Sys2Proof.Machine
end

section
/-! Relations that the whole measuring chain keeps, from a withdrawal to a lane's deactivation, and two of them: event
classes it does not raise, and the offers it makes to the auto-calibration unit. -/

namespace Sys2Proof.Machine

open Sys2Proof

/-! ### The chain -/

/-- A relation of states that every single change of the measuring chain keeps: those of the axle former, of channels by
miss notices, of frames, and the close of a frame. -/
structure Chained (R : State → State → Prop) : Prop where
  refl : ∀ s, R s s
  trans : ∀ {s t u}, R s t → R t u → R s u
  former : ∀ s x, R s (State.setFormer s x)
  channel : ∀ s c x, R s (State.setChannel s c x)
  channelEvent : ∀ s i, R s (State.raiseAt s .channelState i)
  frame : ∀ s l f, R s (State.setFrame s l f)
  lane : ∀ s l m, R s (State.setLaneMon s l m)
  close : ∀ s l cause, R s (State.closeFrame s l cause)

namespace Chained

variable {R : State → State → Prop} (h : Chained R)
include h

theorem openFrame (s : State) (a : AxleRec) : R s (s.openFrame a) :=
  h.trans (h.frame s _ _) (h.lane _ _ _)

theorem handOn (s : State) (a : AxleRec) : R s (s.handOn a) := by
  unfold State.handOn
  split
  · exact h.openFrame s a
  · split
    · exact h.trans (h.close s _ _) (h.openFrame _ a)
    · split
      · exact h.trans (h.close s _ _) (h.openFrame _ a)
      · exact h.frame s _ _

theorem missNotice (s : State) (c : ChanIx) : R s (s.missNotice c).1 := by
  rw [missNotice_eq]
  split
  · split
    · exact h.channel s _ _
    · exact h.trans (h.trans (h.channel s _ _) (h.channelEvent _ _)) (h.former _ _)
  · exact h.refl s

theorem missAt (s : State) (r : StripRow) (q : PosIx) : R s (s.missAt r q).1 := by
  unfold State.missAt
  split
  · exact h.refl s
  · exact h.missNotice s _

theorem axleNotices (ws : List Wheel) (s : State) : R s (State.axleNotices ws s).1 := by
  induction ws generalizing s with
  | nil => exact h.refl s
  | cons w rest ih =>
    unfold State.axleNotices
    split
    · exact h.trans (h.missAt s _ _) (ih _)
    · exact ih _

theorem deliverAxle (s : State) (holding : LaneIx) (time : Tick) (ws : List Wheel) (seen : List AxleWheel) (forced : Bool) :
    R s (s.deliverAxle holding time ws seen forced) := by
  rcases deliverAxle_cases s holding time ws seen forced with heq | ⟨late, heq⟩ | ⟨a, -, heq⟩ <;> rw [heq]
  · exact h.refl s
  · exact h.former s _
  · exact h.handOn s a

theorem completeOne (s : State) (l : LaneIx) (c : Candidate) (forced : Bool) : R s (s.completeOne l c forced).1 :=
  h.trans (h.trans (h.former s _) (h.axleNotices _ _)) (h.deliverAxle _ _ _ _ _ _)

theorem completeInTurn (n : Nat) (todo : List (Nat × Bool)) (s : State) : R s (State.completeInTurn n todo s) := by
  induction n generalizing todo s with
  | zero => exact h.refl s
  | succ n ih =>
    cases todo with
    | nil => exact h.refl s
    | cons x rest =>
      unfold State.completeInTurn
      split
      · exact ih _ _
      · split
        · exact h.trans (h.completeOne s _ _ _) (ih _ _)
        · exact h.trans (h.completeOne s _ _ _) (ih _ _)

theorem withdraw (s : State) (p : HitRec → Bool) : R s (s.withdraw p) :=
  h.trans (h.former s _) (h.completeInTurn _ _ _)

theorem abortFrames (ls : List LaneIx) (s : State) : R s (s.abortFrames ls) := by
  induction ls generalizing s with
  | nil => exact h.refl s
  | cons l rest ih => exact h.trans (h.close s l .aborted) (ih _)

theorem recompose (s before : State) : R s (s.recompose before) := by
  unfold State.recompose
  dsimp only
  split
  · exact h.refl s
  · exact h.trans (h.trans (h.abortFrames _ s) (h.former _ _)) (h.withdraw _ _)

theorem completeOverdue (s : State) : R s s.completeOverdue := h.completeInTurn _ _ s

end Chained

/-! ### Event classes the chain does not raise -/

/-- An event class stands as it was on both ports. -/
def EventKept (k : EventClass) (s t : State) : Prop :=
  ∀ p : Port, (t.port p).events[k.index] = (s.port p).events[k.index]

namespace EventKept

variable {k : EventClass} {s t u : State}

theorem refl (s : State) : EventKept k s s := fun _ => rfl

theorem trans (h : EventKept k s t) (h' : EventKept k t u) : EventKept k s u := fun p => (h' p).trans (h p)

theorem of_ports (h : t.ports = s.ports) : EventKept k s t := fun p => by
  cases p <;> simp only [State.port, h]

theorem of_keepsAllBut {L : List Block} (h : KeepsAllBut L s t) (hL : Block.ports ∉ L) : EventKept k s t :=
  of_ports (h .ports hL)

theorem raiseAt {k' : EventClass} (h : k.index ≠ k'.index) (s : State) (i : Nat) : EventKept k s (s.raiseAt k' i) :=
  fun p => raisedAt_other s h i p

theorem raise {k' : EventClass} (h : k.index ≠ k'.index) (s : State) (x : BitVec 32) : EventKept k s (s.raise k' x) :=
  fun p => by
    rw [raise_port]
    exact (raise_events ..).trans (if_neg h)

end EventKept

/-- The classes that the close of a frame raises. -/
def closeEvents : List EventClass :=
  [.overload, .storeHigh, .recordDropped, .calUpdate, .calLimit]

theorem index_ne_of_notMem {k k' : EventClass} {ks : List EventClass} (h : k ∉ ks) (h' : k' ∈ ks) : k.index ≠ k'.index := by
  have hinj : ∀ a b : EventClass, a.index = b.index → a = b := by
    intro a b
    cases a <;> cases b <;> decide
  exact fun hk => h (hinj _ _ hk ▸ h')

section
variable {k : EventClass} (h : k ∉ closeEvents)
include h

theorem eventKept_updateFactor (s : State) (l : LaneIx) (c : LaneCal) : EventKept k s (s.updateFactor l c) := by
  have hset : EventKept k s (s.setLaneCal l (c.update s.prof.active.autocal.target)) :=
    .of_keepsAllBut (KeepsAllBut.setCal s _) (by simp)
  have hupdate := hset.trans (.raiseAt (index_ne_of_notMem h (k' := .calUpdate) (by decide)) _ l.val)
  unfold State.updateFactor
  dsimp only
  refine EventKept.trans ?_ (.of_keepsAllBut (KeepsAllBut.placeReason _ _) (by simp))
  split
  · exact hupdate.trans (.raiseAt (index_ne_of_notMem h (k' := .calLimit) (by decide)) _ _)
  · exact hupdate

theorem eventKept_offerToCal (s : State) (r : VehicleRec) : EventKept k s (s.offerToCal r) := by
  unfold State.offerToCal
  dsimp only
  split
  · exact .of_keepsAllBut (KeepsAllBut.setCal s _) (by simp)
  · split
    · exact eventKept_updateFactor h s _ _
    · exact .of_keepsAllBut (KeepsAllBut.setCal s _) (by simp)

theorem eventKept_offerToStore (s : State) (r : VehicleRec) : EventKept k s (s.offerToStore r) := by
  have hset : EventKept k s (s.setStore (s.store ++ [r])) := .of_keepsAllBut (KeepsAllBut.setStore s _) (by simp)
  unfold State.offerToStore
  dsimp only
  split
  · split
    · exact hset.trans (.raise (index_ne_of_notMem h (by decide)) _ _)
    · exact hset
  · exact .raiseAt (index_ne_of_notMem h (by decide)) _ _

theorem eventKept_closeFrame (s : State) (l : LaneIx) (cause : CloseCause) : EventKept k s (s.closeFrame l cause) := by
  cases hf : s.asm.frames[l] with
  | none =>
    rw [State.closeFrame, hf]
    exact .refl s
  | some f =>
    rw [closeFrame_eq hf]
    refine (EventKept.trans ?_ (eventKept_offerToStore h _ _)).trans (eventKept_offerToCal h _ _)
    have hset : EventKept k s (s.setAsm (s.asmClosed l (s.buildRecord l f cause))) :=
      .of_keepsAllBut (KeepsAllBut.setAsm s _) (by simp)
    unfold State.screened
    split
    · exact hset.trans (.raiseAt (index_ne_of_notMem h (by decide)) _ _)
    · exact hset

/-- The chain raises CHANNEL_STATE and what a close raises. -/
theorem chained_eventKept (hc : k ≠ .channelState) : Chained (EventKept k) where
  refl := .refl
  trans := .trans
  former s x := .of_keepsAllBut (KeepsAllBut.setFormer s x) (by simp)
  channel s c x := .of_keepsAllBut (KeepsAllBut.setStrip s _) (by simp)
  channelEvent s i := .raiseAt (index_ne_of_notMem (ks := [.channelState]) (by simpa using hc) (by simp)) s i
  frame s l f := .of_keepsAllBut (KeepsAllBut.setAsm s _) (by simp)
  lane s l m := .of_keepsAllBut (KeepsAllBut.setLoops s _) (by simp)
  close := eventKept_closeFrame h

theorem eventKept_abortFrames (ls : List LaneIx) (s : State) : EventKept k s (s.abortFrames ls) := by
  induction ls generalizing s with
  | nil => exact .refl s
  | cons l rest ih => exact (eventKept_closeFrame h s l .aborted).trans (ih _)

end

/-! ### Offers to the auto-calibration unit (R136) -/

/-- Two states hold the same of what an offer reads and moves. -/
structure OfferAlike (s t : State) : Prop where
  temp : t.temp = s.temp
  active : t.prof.active = s.prof.active
  cal : t.cal = s.cal
  reasons : t.prof.reasons = s.prof.reasons

theorem OfferAlike.trans {s t u : State} (h : OfferAlike s t) (k : OfferAlike t u) : OfferAlike s u :=
  ⟨k.temp.trans h.temp, k.active.trans h.active, k.cal.trans h.cal, k.reasons.trans h.reasons⟩

theorem updateFactor_reasons (s : State) (l : LaneIx) (c : LaneCal) :
    (s.updateFactor l c).prof.reasons = s.prof.reasons.put true .learned := by
  unfold State.updateFactor
  dsimp only
  split <;> rfl

theorem OfferAlike.offerFailure {s t : State} (h : OfferAlike s t) (r : VehicleRec) : t.offerFailure r = s.offerFailure r := by
  have htemp : t.tempStatus r.lane = s.tempStatus r.lane := by simp only [State.tempStatus, h.temp]
  simp only [State.offerFailure, h.active, htemp]

theorem OfferAlike.offerToCal {s t : State} (h : OfferAlike s t) (r : VehicleRec) :
    OfferAlike (s.offerToCal r) (t.offerToCal r) := by
  have hs := Measures.offerToCal s r
  have ht := Measures.offerToCal t r
  have hfail := h.offerFailure r
  have hmoved : (t.offerToCal r).cal = (s.offerToCal r).cal
      ∧ (t.offerToCal r).prof.reasons = (s.offerToCal r).prof.reasons := by
    cases hcase : s.offerFailure r with
    | some o =>
      rw [offerToCal_fails hcase, offerToCal_fails (hfail.trans hcase)]
      exact ⟨congrArg (fun v : Vector LaneCal 6 => v.set r.lane { v[r.lane] with outcome := some o }) h.cal, h.reasons⟩
    | none =>
      by_cases hlen : 16 ≤ (s.cal[r.lane].place r.calEntry).window.length
      · rw [offerToCal_updates hcase hlen, offerToCal_updates (hfail.trans hcase) (by rw [h.cal]; exact hlen),
          updateFactor_cal, updateFactor_cal, updateFactor_reasons, updateFactor_reasons, h.cal, h.active, h.reasons]
        exact ⟨rfl, rfl⟩
      · rw [offerToCal_placed hcase (by omega), offerToCal_placed (hfail.trans hcase) (by rw [h.cal]; omega)]
        exact ⟨congrArg (fun v : Vector LaneCal 6 => v.set r.lane (v[r.lane].place r.calEntry)) h.cal, h.reasons⟩
  exact ⟨by rw [ht.temp, hs.temp, h.temp], by rw [ht.active, hs.active, h.active], hmoved.1, hmoved.2⟩

theorem OfferAlike.offerAll {s t : State} (h : OfferAlike s t) (rs : List VehicleRec) :
    OfferAlike (s.offerAll rs) (t.offerAll rs) := by
  induction rs generalizing s t with
  | nil => exact h
  | cons r rest ih => exact ih (h.offerToCal r)

/-- Of what an offer reads and moves, `t` is `s` after some records, built under its generation, were offered. -/
def Offered (s t : State) : Prop :=
  t.prof.generation = s.prof.generation
    ∧ ∃ rs : List VehicleRec, OfferAlike (s.offerAll rs) t ∧ ∀ r ∈ rs, r.generation = s.prof.generation

theorem Offered.of_alike {s t : State} (h : OfferAlike s t) (hgen : t.prof.generation = s.prof.generation) : Offered s t :=
  ⟨hgen, [], h, by simp⟩

theorem Offered.trans {s t u : State} (h : Offered s t) (k : Offered t u) : Offered s u := by
  obtain ⟨hgen, rs, halike, hrs⟩ := h
  obtain ⟨kgen, rs', kalike, krs⟩ := k
  refine ⟨kgen.trans hgen, rs ++ rs', ?_, fun r hr => ?_⟩
  · have : s.offerAll (rs ++ rs') = (s.offerAll rs).offerAll rs' := List.foldl_append ..
    rw [this]
    exact (halike.offerAll rs').trans kalike
  · rcases List.mem_append.mp hr with hr | hr
    · exact hrs r hr
    · rw [krs r hr, hgen]

theorem offered_closeFrame (s : State) (l : LaneIx) (cause : CloseCause) : Offered s (s.closeFrame l cause) := by
  cases hf : s.asm.frames[l] with
  | none =>
    rw [State.closeFrame, hf]
    exact .of_alike ⟨rfl, rfl, rfl, rfl⟩ rfl
  | some f =>
    have hclose := closeFrame_eq hf cause
    refine ⟨by rw [(Measures.closeFrame s l cause).prof], [s.buildRecord l f cause], ?_, fun r hr => ?_⟩
    · rw [hclose]
      have hbefore : KeepsAllBut [.asm, .ports, .store] s ((s.screened l (s.buildRecord l f cause)).offerToStore
          (s.buildRecord l f cause)) :=
        ((keepsAllBut_screened s l _).mono (by simp)).trans ((keepsAllBut_offerToStore _ _).mono (by simp))
      have halike : OfferAlike s ((s.screened l (s.buildRecord l f cause)).offerToStore (s.buildRecord l f cause)) :=
        ⟨hbefore .temp (by simp), by rw [hbefore .prof (by simp)], hbefore .cal (by simp), by rw [hbefore .prof (by simp)]⟩
      exact halike.offerToCal _
    · obtain rfl := List.mem_singleton.mp hr
      rfl

theorem chained_offered : Chained Offered where
  refl _ := .of_alike ⟨rfl, rfl, rfl, rfl⟩ rfl
  trans := .trans
  former _ _ := .of_alike ⟨rfl, rfl, rfl, rfl⟩ rfl
  channel _ _ _ := .of_alike ⟨rfl, rfl, rfl, rfl⟩ rfl
  channelEvent _ _ := .of_alike ⟨rfl, rfl, rfl, rfl⟩ rfl
  frame _ _ _ := .of_alike ⟨rfl, rfl, rfl, rfl⟩ rfl
  lane _ _ _ := .of_alike ⟨rfl, rfl, rfl, rfl⟩ rfl
  close := offered_closeFrame

end Sys2Proof.Machine
end

section
/-! A commit's completion, block by block: probes, channels, factors, activation and candidates (R144, R162). -/

namespace Sys2Proof.Machine

open Sys2Proof

/-! ### A fold that raises an event at some of its entries -/

/-- A fold over distinct indexes raises an event class once for each entry that asks for it by the value it had. -/
theorem foldl_raises {ι α : Type} [DecidableEq ι] {get : State → ι → α} {write : State → ι → State} {Inv : State → Prop}
    {raises : ι → α → Bool} {bit : ι → BitVec 32} {cell : State → EventCell} (hinv : ∀ t i, Inv t → Inv (write t i))
    (hcell : ∀ t i, Inv t → cell (write t i) = if raises i (get t i) then cellRaised (bit i) (cell t) else cell t)
    (hother : ∀ t i j, j ≠ i → get (write t i) j = get t j) : ∀ (is : List ι), is.Nodup → ∀ s, Inv s →
      cell (is.foldl write s) = ((is.filter (fun i => raises i (get s i))).map bit).foldl (fun e b => cellRaised b e) (cell s)
  | [], _, s, _ => rfl
  | i :: is, hnodup, s, hs => by
    obtain ⟨hi, his⟩ := List.nodup_cons.mp hnodup
    have hrest : is.filter (fun j => raises j (get (write s i) j)) = is.filter (fun j => raises j (get s j)) :=
      List.filter_congr fun j hj => by rw [hother s i j fun h => hi (h ▸ hj)]
    rw [List.foldl_cons, foldl_raises hinv hcell hother is his (write s i) (hinv s i hs), hrest, hcell s i hs]
    cases hr : raises i (get s i) <;> simp only [List.filter_cons, hr] <;> rfl

/-! ### The probes (R45, R49, R51) -/

theorem allProbes_eq : allProbes = List.finRange 8 := rfl

section
variable (s : State) (old : ProbesSec)

/-- What a commit makes of a probe. -/
def State.probeAtCommit (s : State) (old : ProbesSec) (q : ProbeIx) (x : Probe) : Probe :=
  x.atCommit old.entries[q] s.prof.active.probes.entries[q] (decide (old.curve ≠ s.prof.active.probes.curve))

theorem setProbe_probe (q : ProbeIx) (x : Probe) : (s.setProbe q x).temp.probes[q] = x := by
  rw [setProbe_temp]
  exact Vector.getElem_set_self _

theorem setProbe_probe_ne {q k : ProbeIx} (h : k ≠ q) (x : Probe) : (s.setProbe q x).temp.probes[k] = s.temp.probes[k] := by
  have hv : q.val ≠ k.val := fun e => h (Fin.ext e.symm)
  rw [setProbe_temp]
  simp [hv]

theorem probesFollow_probe (q : ProbeIx) : (s.probesFollow old).temp.probes[q] = s.probeAtCommit old q s.temp.probes[q] := by
  have h := foldl_entries (get := fun t (q : ProbeIx) => t.temp.probes[q]) (g := s.probeAtCommit old)
    (write := fun t q => t.setProbe q (s.probeAtCommit old q t.temp.probes[q])) (Inv := fun _ => True) (fun _ _ _ => trivial)
    (fun t i _ => setProbe_probe t i _) (fun t i j hj => setProbe_probe_ne t hj _) allProbes
    (by rw [allProbes_eq]; exact List.nodup_finRange 8) s trivial q
  rwa [if_pos (by rw [allProbes_eq]; exact List.mem_finRange q)] at h

theorem setProbe_event (q : ProbeIx) (x : Probe) (p : Port) :
    ((s.setProbe q x).port p).events[EventClass.probeState.index] =
      if decide (x.state ≠ s.temp.probes[q].state) = true
      then cellRaised (itemBit q.val) (s.port p).events[EventClass.probeState.index]
      else (s.port p).events[EventClass.probeState.index] := by
  have hset : (s.setTemp { s.temp with probes := s.temp.probes.set q x }).port p = s.port p := State.port_setTemp ..
  by_cases h : x.state = s.temp.probes[q].state
  · rw [if_neg (by simpa using h), State.setProbe, if_neg (by simpa using h), hset]
  · rw [if_pos (by simpa using h), State.setProbe, if_pos h, raisedAt_self, hset]

theorem probesFollow_event (p : Port) : ((s.probesFollow old).port p).events[EventClass.probeState.index] =
    (((List.finRange 8).filter (fun q : ProbeIx => decide ((s.probeAtCommit old q s.temp.probes[q]).state
      ≠ s.temp.probes[q].state))).map (fun q => itemBit q.val)).foldl (fun e i => cellRaised i e)
        (s.port p).events[EventClass.probeState.index] := by
  rw [← allProbes_eq]
  exact foldl_raises (get := fun t (q : ProbeIx) => t.temp.probes[q])
    (write := fun t q => t.setProbe q (s.probeAtCommit old q t.temp.probes[q])) (Inv := fun _ => True)
    (raises := fun q x => decide ((s.probeAtCommit old q x).state ≠ x.state)) (bit := fun q => itemBit q.val)
    (cell := fun t => (t.port p).events[EventClass.probeState.index]) (fun _ _ _ => trivial)
    (fun t i _ => setProbe_event t i _ p) (fun t i j hj => setProbe_probe_ne t hj _) allProbes
    (by rw [allProbes_eq]; exact List.nodup_finRange 8) s trivial

theorem probesFollow_temp : (s.probesFollow old).temp = { s.temp with probes := (s.probesFollow old).temp.probes } :=
  foldl_keeps (fun t u => u.temp = { t.temp with probes := u.temp.probes }) (fun _ => rfl)
    (fun h k => by rw [k, h]) _ (fun t q => by rw [setProbe_temp]) allProbes s

theorem evaluateFold_temp (ls : List LaneIx) : (ls.foldl State.evaluateLane s).temp =
    { s.temp with lanes := (ls.foldl State.evaluateLane s).temp.lanes } :=
  foldl_keeps (fun t u => u.temp = { t.temp with lanes := u.temp.lanes }) (fun _ => rfl) (fun h k => by rw [k, h])
    State.evaluateLane (fun t l => by rw [State.evaluateLane, setLaneTemp_temp]) ls s

theorem evaluateLanes_temp : s.evaluateLanes.temp = { s.temp with lanes := s.evaluateLanes.temp.lanes } := by
  unfold State.evaluateLanes
  exact evaluateFold_temp s _

theorem dropSlot_temp : s.dropSlot.temp = { s.temp with slot := s.dropSlot.temp.slot } := by
  unfold State.dropSlot
  split
  · split
    · rfl
    · rw [keepsAllBut_endDeferred _ _ _ _ .temp (by simp)]
      rfl
  · rfl

theorem dropSlot_disabled {r : SlotRequest} (h : s.temp.slot = some r)
    (hd : s.prof.active.probes.entries[r.probe].enabled = false) : s.dropSlot =
      (s.setTemp { s.temp with slot := none }).endDeferred r.port .probeNow (refusalPayload .badValue 0 0) := by
  simp only [State.dropSlot, h, hd, Bool.false_eq_true, if_false]

end

/-! ### Ports on which only events have moved -/

/-- Both ports stand as they were but for their events. -/
def EventsOnly (s t : State) : Prop :=
  ∀ p : Port, t.port p = { s.port p with events := (t.port p).events }

namespace EventsOnly

variable {s t u : State}

theorem refl (s : State) : EventsOnly s s := fun _ => rfl

theorem trans (h : EventsOnly s t) (k : EventsOnly t u) : EventsOnly s u := fun p => by rw [k p, h p]

theorem of_ports (h : t.ports = s.ports) : EventsOnly s t := fun p => by
  cases p <;> simp only [State.port, h]

theorem of_keepsAllBut {L : List Block} (h : KeepsAllBut L s t) (hL : Block.ports ∉ L) : EventsOnly s t :=
  of_ports (h .ports hL)

theorem of_measures (h : Measures s t) : EventsOnly s t := h.port

theorem raiseAt (s : State) (k : EventClass) (i : Nat) : EventsOnly s (s.raiseAt k i) := (Measures.raiseAt s k i).port

theorem setProbe (s : State) (q : ProbeIx) (x : Probe) : EventsOnly s (s.setProbe q x) := by
  have hset : EventsOnly s (s.setTemp { s.temp with probes := s.temp.probes.set q x }) :=
    of_keepsAllBut (KeepsAllBut.setTemp s _) (by simp)
  unfold State.setProbe
  dsimp only
  split
  · exact hset.trans (raiseAt _ _ _)
  · exact hset

theorem setLaneTemp (s : State) (l : LaneIx) (x : LaneTemp) : EventsOnly s (s.setLaneTemp l x) := by
  have hset : EventsOnly s (s.setTemp { s.temp with lanes := s.temp.lanes.set l x }) :=
    of_keepsAllBut (KeepsAllBut.setTemp s _) (by simp)
  have hcal : ∀ (t : State) c, EventsOnly t (t.setLaneCal l c) := fun t c =>
    of_keepsAllBut (KeepsAllBut.setCal t _) (by simp)
  unfold State.setLaneTemp
  dsimp only
  split <;> split
  · exact (hset.trans (raiseAt _ _ _)).trans (hcal _ _)
  · exact hset.trans (hcal _ _)
  · exact hset.trans (raiseAt _ _ _)
  · exact hset

theorem probesFollow (s : State) (old : ProbesSec) : EventsOnly s (s.probesFollow old) :=
  foldl_keeps EventsOnly refl trans _ (fun t q => setProbe t q _) allProbes s

theorem evaluateLanes (s : State) : EventsOnly s s.evaluateLanes :=
  foldl_keeps EventsOnly refl trans State.evaluateLane (fun t l => setLaneTemp t l _) allLanes s

end EventsOnly

theorem endDeferred_port_ne {s : State} {p q : Port} (h : q ≠ p) (k : DeferredKind) (payload : List Byte) :
    (s.endDeferred p k payload).port q = s.port q := by
  cases hd : (s.port p).deferred with
  | none => rw [endDeferred_none _ hd]
  | some d =>
    by_cases hk : d.kind = k
    · rw [endDeferred_held payload (tag := d.tag) (by rw [hd, ← hk]), State.port_setPort_ne _ h]
    · rw [endDeferred_other _ hd hk]

theorem endDeferred_events (s : State) (p : Port) (k : DeferredKind) (payload : List Byte) (q : Port) :
    ((s.endDeferred p k payload).port q).events = (s.port q).events := by
  by_cases hq : q = p
  · subst hq
    cases hd : (s.port q).deferred with
    | none => rw [endDeferred_none _ hd]
    | some d =>
      by_cases hk : d.kind = k
      · rw [endDeferred_held payload (tag := d.tag) (by rw [hd, ← hk]), State.port_setPort]
      · rw [endDeferred_other _ hd hk]
  · rw [endDeferred_port_ne hq]

theorem dropSlot_events (s : State) (p : Port) : (s.dropSlot.port p).events = (s.port p).events := by
  unfold State.dropSlot
  split
  · split
    · rfl
    · rw [endDeferred_events]
      rw [State.port_setTemp]
  · rfl

/-- A port that awaits the answer to a COMMIT keeps it when the slot is emptied. -/
theorem dropSlot_port {s : State} {p : Port} {tag : Byte} (h : (s.port p).deferred = some { kind := .commit, tag := tag }) :
    s.dropSlot.port p = s.port p := by
  unfold State.dropSlot
  split
  · next r _ =>
    split
    · rfl
    · have hset : (s.setTemp { s.temp with slot := none }).port p = s.port p := State.port_setTemp ..
      by_cases hp : p = r.port
      · rw [← hp, endDeferred_other _ (hset ▸ h) DeferredKind.noConfusion, hset]
      · rw [endDeferred_port_ne hp, hset]
  · rfl

/-! ### The temperature unit at a commit's completion -/

section
variable (s : State) (old : ProbesSec)

/-- The temperature unit after the probes, the inputs and the slot have followed a commit. -/
def State.slotFollows (s : State) (old : ProbesSec) : State :=
  ((s.probesFollow old).inputsFollow s.prof.active.probes).dropSlot

theorem commitProbes_slotFollows : s.commitProbes old = (s.slotFollows old).selectInput.evaluateLanes := rfl

theorem slotFollows_temp : (s.slotFollows old).temp = { s.temp with
    probes := (s.probesFollow old).temp.probes, conv := s.temp.conv.map (fun c => c.atCommit s.prof.active.probes),
    passList := (s.slotFollows old).temp.passList, slot := (s.slotFollows old).temp.slot } := by
  rw [State.slotFollows, dropSlot_temp, State.inputsFollow, State.setTemp_temp, probesFollow_temp]

theorem commitProbes_probes : (s.commitProbes old).temp.probes = (s.probesFollow old).temp.probes := by
  rw [commitProbes_slotFollows, evaluateLanes_probes, (selectInput_keeps _).1, slotFollows_temp]

theorem commitProbes_conv {k : Conversion} (h : s.temp.conv = some k) :
    (s.commitProbes old).temp.conv = some (k.atCommit s.prof.active.probes) := by
  have hconv : (s.slotFollows old).temp.conv = some (k.atCommit s.prof.active.probes) := by rw [slotFollows_temp, h]; rfl
  rw [commitProbes_slotFollows, evaluateLanes_temp, selectInput_busy (by rw [hconv]; simp)]
  exact hconv

theorem commitProbes_event (p : Port) : ((s.commitProbes old).port p).events[EventClass.probeState.index] =
    ((s.probesFollow old).port p).events[EventClass.probeState.index] := by
  have hselect := EventKept.of_keepsAllBut (k := .probeState) (keepsAllBut_selectInput (s.slotFollows old)) (by simp) p
  rw [commitProbes_slotFollows, evaluateLanes_event, hselect]
  rw [State.slotFollows, dropSlot_events]
  rw [State.inputsFollow, State.port_setTemp]

end

/-! ### The channels at a commit that changes STRIPMAP (R18, R21) -/

theorem allChannels_eq : allChannels = List.finRange 24 := rfl

section
variable (s : State)

theorem remapChannel_prof (c : ChanIx) : (s.remapChannel c).prof = s.prof := by
  unfold State.remapChannel
  dsimp only
  split <;> rfl

theorem remapChannel_channel (c : ChanIx) : (s.remapChannel c).strip.channels[c] = remappedChannel (s.stripEntry c) := by
  unfold State.remapChannel
  dsimp only
  split <;> exact Vector.getElem_set_self _

theorem remapChannel_channel_ne {c k : ChanIx} (h : k ≠ c) : (s.remapChannel c).strip.channels[k] = s.strip.channels[k] := by
  have hv : c.val ≠ k.val := fun e => h (Fin.ext e.symm)
  have hset : (s.setChannel c (remappedChannel (s.stripEntry c))).strip.channels[k] = s.strip.channels[k] := by
    simp [State.setChannel, hv]
  unfold State.remapChannel
  dsimp only
  split <;> exact hset

theorem remapChannel_event (c : ChanIx) (p : Port) : ((s.remapChannel c).port p).events[EventClass.channelState.index] =
    if (decide ((remappedChannel (s.stripEntry c)).state ≠ s.strip.channels[c].state)
        || decide ((remappedChannel (s.stripEntry c)).state = .settling)) = true
    then cellRaised (itemBit c.val) (s.port p).events[EventClass.channelState.index]
    else (s.port p).events[EventClass.channelState.index] := by
  have hset : (s.setChannel c (remappedChannel (s.stripEntry c))).port p = s.port p := by cases p <;> rfl
  rw [← hset]
  split
  · next h => rw [← raisedAt_self, State.remapChannel, if_pos h]
  · next h => rw [State.remapChannel, if_neg h]

theorem remapFold_channel (c : ChanIx) :
    (allChannels.foldl State.remapChannel s).strip.channels[c] = remappedChannel (s.stripEntry c) := by
  have hentry : ∀ t : State, t.prof = s.prof → ∀ i, t.stripEntry i = s.stripEntry i := fun t ht i => by
    simp only [State.stripEntry, ht]
  have h := foldl_entries (get := fun t (c : ChanIx) => t.strip.channels[c]) (g := fun c _ => remappedChannel (s.stripEntry c))
    (write := State.remapChannel) (Inv := fun t => t.prof = s.prof) (fun t i ht => (remapChannel_prof t i).trans ht)
    (fun t i ht => by rw [remapChannel_channel, hentry t ht]) (fun t i j hj => remapChannel_channel_ne t hj) allChannels
    (by rw [allChannels_eq]; exact List.nodup_finRange 24) s rfl c
  rwa [if_pos (by rw [allChannels_eq]; exact List.mem_finRange c)] at h

theorem remapFold_event (p : Port) : ((allChannels.foldl State.remapChannel s).port p).events[EventClass.channelState.index] =
    (((List.finRange 24).filter (fun c : ChanIx => decide ((remappedChannel (s.stripEntry c)).state ≠ s.strip.channels[c].state)
      || decide ((remappedChannel (s.stripEntry c)).state = .settling))).map (fun c => itemBit c.val)).foldl
        (fun e i => cellRaised i e) (s.port p).events[EventClass.channelState.index] := by
  have hentry : ∀ t : State, t.prof = s.prof → ∀ i, t.stripEntry i = s.stripEntry i := fun t ht i => by
    simp only [State.stripEntry, ht]
  rw [← allChannels_eq]
  exact foldl_raises (get := fun t (c : ChanIx) => t.strip.channels[c]) (write := State.remapChannel)
    (Inv := fun t => t.prof = s.prof) (bit := fun c => itemBit c.val)
    (raises := fun c x => decide ((remappedChannel (s.stripEntry c)).state ≠ x.state)
      || decide ((remappedChannel (s.stripEntry c)).state = .settling))
    (cell := fun t => (t.port p).events[EventClass.channelState.index]) (fun t i ht => (remapChannel_prof t i).trans ht)
    (fun t i ht => by rw [remapChannel_event, hentry t ht]) (fun t i j hj => remapChannel_channel_ne t hj) allChannels
    (by rw [allChannels_eq]; exact List.nodup_finRange 24) s rfl

theorem remapFold_leakStart : (allChannels.foldl State.remapChannel s).strip.leakStart = s.strip.leakStart :=
  foldl_keeps (fun t u => u.strip.leakStart = t.strip.leakStart) (fun _ => rfl) (fun h k => by rw [k, h]) State.remapChannel
    (fun t c => by unfold State.remapChannel; dsimp only; split <;> rfl) allChannels s

theorem remapChannels_strip : s.remapChannels.strip = (allChannels.foldl State.remapChannel s).strip := by
  unfold State.remapChannels
  rw [State.setFormer_strip]

theorem eventsOnly_remapChannels : EventsOnly s s.remapChannels := by
  have hfold : EventsOnly s (allChannels.foldl State.remapChannel s) :=
    foldl_keeps EventsOnly .refl .trans State.remapChannel (fun t c => by
      have hset : EventsOnly t (t.setChannel c (remappedChannel (t.stripEntry c))) :=
        .of_keepsAllBut (KeepsAllBut.setStrip t _) (by simp)
      unfold State.remapChannel
      dsimp only
      split
      · exact hset.trans (.raiseAt _ _ _)
      · exact hset) allChannels s
  exact hfold.trans (.of_keepsAllBut (KeepsAllBut.setFormer _ _) (by simp))

theorem remapChannels_probeEvents : EventKept .probeState s s.remapChannels := by
  have hfold : EventKept .probeState s (allChannels.foldl State.remapChannel s) :=
    foldl_keeps (EventKept .probeState) .refl .trans State.remapChannel (fun t c => by
      have hset : EventKept .probeState t (t.setChannel c (remappedChannel (t.stripEntry c))) :=
        .of_keepsAllBut (KeepsAllBut.setStrip t _) (by simp)
      unfold State.remapChannel
      dsimp only
      split
      · exact hset.trans (.raiseAt (by decide) _ _)
      · exact hset) allChannels s
  exact hfold.trans (.of_keepsAllBut (KeepsAllBut.setFormer _ _) (by simp))

end

/-! ### The state a commit's blocks start from -/

/-- The profile store, the factors, the site state and the channels after a commit; the probes, activation and the axle
former follow. -/
def State.commitBase (s : State) (new : Profile) (metro : Bool) : State :=
  let a := s.takeActive new metro
  let n := (if metro then a.resetCal new else a).leaveNoProfile
  if new.strips ≠ s.prof.active.strips then n.remapChannels else n

section
variable (s : State) (new : Profile) (metro : Bool)

/-- The state after the profile store, the factors and the site state. -/
def State.commitStand (s : State) (new : Profile) (metro : Bool) : State :=
  (if metro then (s.takeActive new metro).resetCal new else s.takeActive new metro).leaveNoProfile

theorem commitBase_eq : s.commitBase new metro = if new.strips ≠ s.prof.active.strips
    then (s.commitStand new metro).remapChannels else s.commitStand new metro := rfl

theorem keepsAllBut_leaveNoProfile : KeepsAllBut [.site] s s.leaveNoProfile :=
  .ite (.setSite s _) (.refl _ s)

theorem keepsAllBut_commitStand : KeepsAllBut [.prof, .cal, .site] s (s.commitStand new metro) := by
  have hprof : KeepsAllBut [.prof, .cal, .site] s (s.takeActive new metro) := (KeepsAllBut.setProf s _).mono (by simp)
  have hcal : KeepsAllBut [.prof, .cal, .site] s ((s.takeActive new metro).resetCal new) :=
    hprof.trans ((KeepsAllBut.setCal _ _).mono (by simp))
  exact (KeepsAllBut.ite hcal hprof).trans ((keepsAllBut_leaveNoProfile _).mono (by simp))

theorem commitStand_prof : (s.commitStand new metro).prof = (s.takeActive new metro).prof := by
  rw [State.commitStand, keepsAllBut_leaveNoProfile _ .prof (by simp)]
  split <;> rfl

theorem commitStand_site : (s.commitStand new metro).site =
    { s.site with state := if s.site.state = .noProfile then .standby else s.site.state } := by
  have hsite : (if metro then (s.takeActive new metro).resetCal new else s.takeActive new metro).site = s.site := by
    split <;> rfl
  unfold State.commitStand State.leaveNoProfile
  rw [hsite]
  by_cases h : s.site.state = .noProfile
  · simp only [if_pos h, State.setSite_site]
  · rw [if_neg h, if_neg h, hsite]

theorem commitStand_cal (h : metro = true) (l : LaneIx) :
    (s.commitStand new metro).cal[l] = s.cal[l].metroReset new.lanes[l].fA := by
  subst h
  have hcal : (s.commitStand new true).cal = ((s.takeActive new true).resetCal new).cal := by
    rw [State.commitStand, keepsAllBut_leaveNoProfile _ .cal (by simp), if_pos rfl]
  rw [hcal]
  simp [State.resetCal, State.takeActive]

theorem keepsAllBut_commitBase : KeepsAllBut [.prof, .cal, .site, .strip, .former, .ports] s (s.commitBase new metro) := by
  have hstand := (keepsAllBut_commitStand s new metro).mono (M := [.prof, .cal, .site, .strip, .former, .ports]) (by simp)
  rw [commitBase_eq]
  exact .ite (hstand.trans ((keepsAllBut_remapChannels _).mono (by simp))) hstand

/-- The site, the profile store and the factors do not follow the channels' restart. -/
theorem commitBase_stand : KeepsAllBut [.strip, .former, .ports] (s.commitStand new metro) (s.commitBase new metro) := by
  rw [commitBase_eq]
  exact .ite (keepsAllBut_remapChannels _) (.refl _ _)

theorem eventsOnly_commitBase : EventsOnly s (s.commitBase new metro) := by
  have hstand : EventsOnly s (s.commitStand new metro) := .of_keepsAllBut (keepsAllBut_commitStand s new metro) (by simp)
  rw [commitBase_eq]
  split
  · exact hstand.trans (eventsOnly_remapChannels _)
  · exact hstand

theorem commitBase_probeEvents : EventKept .probeState s (s.commitBase new metro) := by
  have hstand : EventKept .probeState s (s.commitStand new metro) := .of_keepsAllBut (keepsAllBut_commitStand s new metro) (by simp)
  rw [commitBase_eq]
  split
  · exact hstand.trans (remapChannels_probeEvents _)
  · exact hstand

end

/-- The temperature unit raises PROBE_STATE and LANE_TEMP alone at a commit's completion. -/
theorem eventKept_commitProbes {k : EventClass} (h : k ∉ [EventClass.probeState, .laneTemp]) (s : State) (old : ProbesSec) :
    EventKept k s (s.commitProbes old) := by
  have hprobe : ∀ (t : State) q x, EventKept k t (t.setProbe q x) := fun t q x => by
    have hset : EventKept k t (t.setTemp { t.temp with probes := t.temp.probes.set q x }) :=
      .of_keepsAllBut (KeepsAllBut.setTemp t _) (by simp)
    unfold State.setProbe
    dsimp only
    split
    · exact hset.trans (.raiseAt (index_ne_of_notMem h (by decide)) _ _)
    · exact hset
  have hlane : ∀ (t : State) l x, EventKept k t (t.setLaneTemp l x) := fun t l x => by
    have hset : EventKept k t (t.setTemp { t.temp with lanes := t.temp.lanes.set l x }) :=
      .of_keepsAllBut (KeepsAllBut.setTemp t _) (by simp)
    have hraise := hset.trans (.raiseAt (index_ne_of_notMem h (k' := .laneTemp) (by decide)) _ l.val)
    have hcal : ∀ (u : State) c, EventKept k u (u.setLaneCal l c) := fun u c =>
      .of_keepsAllBut (KeepsAllBut.setCal u _) (by simp)
    unfold State.setLaneTemp
    dsimp only
    split <;> split
    · exact hraise.trans (hcal _ _)
    · exact hset.trans (hcal _ _)
    · exact hraise
    · exact hset
  have hprobes : EventKept k s (s.probesFollow old) :=
    foldl_keeps (EventKept k) .refl .trans _ (fun t q => hprobe t q _) allProbes s
  have hslot : EventKept k (s.probesFollow old) (s.slotFollows old) := fun p => by
    rw [State.slotFollows, dropSlot_events]
    rw [State.inputsFollow, State.port_setTemp]
  have hselect : EventKept k (s.slotFollows old) (s.slotFollows old).selectInput :=
    .of_keepsAllBut (keepsAllBut_selectInput _) (by simp)
  exact ((hprobes.trans hslot).trans hselect).trans
    (foldl_keeps (EventKept k) .refl .trans State.evaluateLane (fun t l => hlane t l _) allLanes _)

/-! ### The blocks after a commit -/

section
variable (s : State) (old : ProbesSec)

theorem keepsAllBut_setProbe_temp (q : ProbeIx) (x : Probe) : KeepsAllBut [.temp, .ports] s (s.setProbe q x) := by
  have hset : KeepsAllBut [.temp, .ports] s (s.setTemp { s.temp with probes := s.temp.probes.set q x }) :=
    (KeepsAllBut.setTemp s _).mono (by simp)
  exact .ite (hset.trans ((KeepsAllBut.raiseAt _ _ _).mono (by simp))) hset

theorem keepsAllBut_slotFollows : KeepsAllBut [.temp, .ports] s (s.slotFollows old) := by
  have hprobes : KeepsAllBut [.temp, .ports] s (s.probesFollow old) :=
    foldl_keeps (KeepsAllBut [.temp, .ports]) (.refl _) .trans _ (fun t q => keepsAllBut_setProbe_temp t q _) allProbes s
  have hdrop : ∀ u : State, KeepsAllBut [.temp, .ports] u u.dropSlot := fun u => by
    unfold State.dropSlot
    split
    · exact .ite (.refl _ _) (((KeepsAllBut.setTemp u _).mono (by simp)).trans
        ((keepsAllBut_endDeferred _ _ _ _).mono (by simp)))
    · exact .refl _ _
  exact (hprobes.trans ((KeepsAllBut.setTemp _ _).mono (by simp))).trans (hdrop _)

/-- A lane's factors after a commit's probes stand, or have lost their window with the lane's temperature (R143). -/
theorem commitProbes_cal (l : LaneIx) :
    (s.commitProbes old).cal[l] = s.cal[l] ∨ (s.commitProbes old).cal[l] = s.cal[l].clear := by
  have hcal : (s.slotFollows old).selectInput.cal = s.cal := by
    rw [keepsAllBut_selectInput _ .cal (by simp), keepsAllBut_slotFollows s old .cal (by simp)]
  have h := (evaluateLanes_follows (s.slotFollows old).selectInput l).2
  rw [hcal] at h
  rw [commitProbes_slotFollows, h]
  split
  · exact .inr rfl
  · exact .inl rfl

/-- A port that awaits the answer to a COMMIT goes on awaiting it. -/
theorem commitProbes_port {p : Port} {tag : Byte} (h : (s.port p).deferred = some { kind := .commit, tag := tag }) :
    (s.commitProbes old).port p = { s.port p with events := ((s.commitProbes old).port p).events } := by
  have hprobes := EventsOnly.probesFollow s old p
  have hinputs : ((s.probesFollow old).inputsFollow s.prof.active.probes).port p = (s.probesFollow old).port p :=
    State.port_setTemp ..
  have hdrop : (s.slotFollows old).port p = (s.probesFollow old).port p := by
    refine (dropSlot_port (tag := tag) ?_).trans hinputs
    rw [hinputs, hprobes]
    exact h
  have hselect : EventsOnly (s.slotFollows old) (s.slotFollows old).selectInput.evaluateLanes :=
    (EventsOnly.of_keepsAllBut (keepsAllBut_selectInput _) (by simp)).trans (.evaluateLanes _)
  rw [commitProbes_slotFollows, hselect p, hdrop, hprobes]

end

section
variable (s : State) (new : Profile) (metro : Bool)

/-- The state once the probes have followed a commit; activation and the axle former follow. -/
def State.commitProbed (s : State) (new : Profile) (metro : Bool) : State :=
  (s.commitBase new metro).commitProbes s.prof.active.probes

/-- The state once every block has followed a commit. -/
def State.commitFollowed (s : State) (new : Profile) (metro : Bool) : State :=
  ((s.commitProbed new metro).recompose s).completeOverdue

theorem measures_commitFollowed : Measures (s.commitProbed new metro) (s.commitFollowed new metro) :=
  (Measures.recompose _ s).trans (Measures.completeIds _ _)

theorem commitProbed_prof : (s.commitProbed new metro).prof = (s.takeActive new metro).prof := by
  rw [State.commitProbed, keepsAllBut_commitProbes _ _ .prof (by simp [tempParts]), commitBase_stand s new metro .prof (by simp),
    commitStand_prof]

theorem commitFollowed_prof : (s.commitFollowed new metro).prof =
    { (s.takeActive new metro).prof with reasons := (s.commitFollowed new metro).prof.reasons } := by
  rw [(measures_commitFollowed s new metro).prof, commitProbed_prof]

theorem commitFollowed_site : (s.commitFollowed new metro).site =
    { s.site with state := if s.site.state = .noProfile then .standby else s.site.state } := by
  rw [(measures_commitFollowed s new metro).site, State.commitProbed,
    keepsAllBut_commitProbes _ _ .site (by simp [tempParts]), commitBase_stand s new metro .site (by simp), commitStand_site]

theorem commitFollowed_deferred {p : Port} {tag : Byte} (h : (s.port p).deferred = some { kind := .commit, tag := tag }) :
    ((s.commitFollowed new metro).port p).deferred = some { kind := .commit, tag := tag } := by
  have hbase := eventsOnly_commitBase s new metro p
  rw [(measures_commitFollowed s new metro).port, State.commitProbed, commitProbes_port _ _ (by rw [hbase]; exact h), hbase]
  exact h

theorem commitBase_temp : (s.commitBase new metro).temp = s.temp := keepsAllBut_commitBase s new metro .temp (by simp)

theorem commitBase_active : (s.commitBase new metro).prof.active = new := by
  rw [commitBase_stand s new metro .prof (by simp), commitStand_prof]
  rfl

theorem commitFollowed_temp : (s.commitFollowed new metro).temp = (s.commitProbed new metro).temp :=
  (measures_commitFollowed s new metro).temp

/-! ### Factors (R144) -/

theorem commitProbed_fresh (h : metro = true) : FreshFactors (s.commitProbed new metro) new
    ∧ ∀ l : LaneIx, (s.commitProbed new metro).cal[l].outcome = s.cal[l].outcome := by
  have hcal : ∀ l : LaneIx, (s.commitProbed new metro).cal[l] = s.cal[l].metroReset new.lanes[l].fA := fun l => by
    have hbase : (s.commitBase new metro).cal[l] = s.cal[l].metroReset new.lanes[l].fA := by
      rw [commitBase_stand s new metro .cal (by simp), commitStand_cal s new metro h]
    rcases commitProbes_cal (s.commitBase new metro) s.prof.active.probes l with hl | hl
    · exact hl.trans hbase
    · exact hl.trans (by rw [hbase]; rfl)
  refine ⟨fun l => ?_, fun l => ?_⟩
  · rw [hcal l]
    exact ⟨rfl, rfl, rfl, rfl, rfl⟩
  · rw [hcal l]
    rfl

theorem commitProbed_learned (h : metro = true) : (s.commitProbed new metro).prof.reasons.learned = false := by
  subst h
  rw [commitProbed_prof]
  rfl

theorem offered_commitFollowed : Offered (s.commitProbed new metro) (s.commitFollowed new metro) :=
  (chained_offered.recompose _ s).trans (chained_offered.completeOverdue _)

/-! ### No lane closes and no candidate completes -/

theorem completeOverdue_of_none {u : State} (h : ∀ (l : LaneIx), ∀ c ∈ u.former.candidates[l], u.candidateOverdue l c = false) :
    u.completeOverdue = u := by
  have hnone : u.openCandidates.filter (fun lc => u.candidateOverdue lc.1 lc.2) = [] :=
    List.filter_eq_nil_iff.mpr fun lc hlc => by
      rw [h lc.1 lc.2 (mem_openCandidates.mp hlc)]
      simp
  rw [State.completeOverdue, hnone]
  rfl

theorem earlierOf_eq_or (a b : Tick) : earlierOf a b = a ∨ earlierOf a b = b := by
  unfold earlierOf
  split
  · exact .inr rfl
  · exact .inl rfl

theorem firstStart_mem {c : Candidate} (h : c.sides ≠ []) : ∃ x ∈ c.sides, c.firstStart = x.start := by
  have hfold : ∀ (xs : List Side) (t : Tick), xs.foldl (fun t y => earlierOf t y.start) t = t
      ∨ ∃ x ∈ xs, xs.foldl (fun t y => earlierOf t y.start) t = x.start := by
    intro xs
    induction xs with
    | nil => exact fun t => .inl rfl
    | cons y rest ih =>
      intro t
      rcases ih (earlierOf t y.start) with heq | ⟨x, hx, heq⟩
      · rcases earlierOf_eq_or t y.start with he | he
        · exact .inl (heq.trans he)
        · exact .inr ⟨y, List.mem_cons_self .., heq.trans he⟩
      · exact .inr ⟨x, List.mem_cons_of_mem _ hx, heq⟩
  obtain ⟨x, rest, hsides⟩ := List.exists_cons_of_ne_nil h
  have hfirst : c.firstStart = rest.foldl (fun t y => earlierOf t y.start) x.start := by
    simp only [Candidate.firstStart, hsides]
  rw [hfirst, hsides]
  rcases hfold rest x.start with heq | ⟨y, hy, heq⟩
  · exact ⟨x, List.mem_cons_self .., heq⟩
  · exact ⟨y, List.mem_cons_of_mem _ hy, heq⟩

theorem commitProbed_former (h : new.strips = s.prof.active.strips) : (s.commitProbed new metro).former = s.former := by
  rw [State.commitProbed, keepsAllBut_commitProbes _ _ .former (by simp [tempParts]), commitBase_eq, if_neg (by simpa using h),
    keepsAllBut_commitStand s new metro .former (by simp)]

theorem commitProbed_empty (h : new.strips ≠ s.prof.active.strips) (l : LaneIx) :
    (s.commitProbed new metro).former.candidates[l] = [] := by
  rw [State.commitProbed, keepsAllBut_commitProbes _ _ .former (by simp [tempParts]), commitBase_eq, if_pos h]
  exact remapChannels_empty l

theorem commitProbed_laneEnabled (l : LaneIx) : (s.commitProbed new metro).laneEnabled l =
    (new.lanes[l].enabled && decide (l.val < new.site.laneCount)) := by
  rw [State.laneEnabled, State.laneEntry, commitProbed_prof]
  rfl

theorem commitProbed_site : (s.commitProbed new metro).site =
    { s.site with state := if s.site.state = .noProfile then .standby else s.site.state } :=
  (measures_commitFollowed s new metro).site.symm.trans (commitFollowed_site s new metro)

/-- Every lane that is active and counts by the new set stays active. -/
theorem recompose_commitProbed (h : LanesKept s new) : (s.commitProbed new metro).recompose s = s.commitProbed new metro := by
  refine recompose_of_none fun l hl => ?_
  obtain ⟨henabled, hcount⟩ := h l hl
  simp only [State.laneActive, Bool.and_eq_true, decide_eq_true_eq] at hl
  obtain ⟨⟨hstate, -⟩, hopen⟩ := hl
  rw [State.laneActive, commitProbed_laneEnabled, commitProbed_site, henabled, hstate]
  simpa [hcount] using hopen

theorem commitFollowed_of_kept (hlanes : LanesKept s new) (hdue : NoneOverdueBy s new) :
    s.commitFollowed new metro = s.commitProbed new metro := by
  rw [State.commitFollowed, recompose_commitProbed s new metro hlanes]
  refine completeOverdue_of_none fun l c hc => ?_
  by_cases hstrips : new.strips = s.prof.active.strips
  · rw [commitProbed_former s new metro hstrips] at hc
    obtain ⟨hsides, hstarts⟩ := hdue l c hc
    obtain ⟨x, hx, hfirst⟩ := firstStart_mem hsides
    obtain ⟨u, hu, hpassed⟩ := hstarts x hx
    have hnow : (s.commitProbed new metro).now = s.now := by
      rw [State.commitProbed, keepsAllBut_commitProbes _ _ .now (by simp [tempParts]),
        keepsAllBut_commitBase s new metro .now (by simp)]
    rw [State.candidateOverdue, State.maxWait, State.laneEntry, commitProbed_prof, hnow, hfirst, hu.start_eq]
    exact hpassed
  · rw [commitProbed_empty s new metro hstrips] at hc
    cases hc

/-! ### A changed STRIPMAP (R21, R80) -/

theorem completeOverdue_of_empty {u : State} (h : ∀ l : LaneIx, u.former.candidates[l] = []) : u.completeOverdue = u :=
  completeOverdue_of_none fun l c hc => by
    rw [h l] at hc
    cases hc

/-- With the axle former emptied, only frames can close. -/
theorem keepsAllBut_recompose_empty {u : State} (h : ∀ l : LaneIx, u.former.candidates[l] = []) (before : State) :
    KeepsAllBut [.former, .asm, .store, .cal, .prof, .ports] u (u.recompose before) := by
  unfold State.recompose
  exact .ite (.refl _ _) (keepsAllBut_deactivate fun k _ c hc => by rw [h k] at hc; cases hc).1

theorem eventKept_recompose_empty {k : EventClass} (hk : k ∉ closeEvents) {u : State}
    (h : ∀ l : LaneIx, u.former.candidates[l] = []) (before : State) : EventKept k u (u.recompose before) := by
  unfold State.recompose
  dsimp only
  split
  · exact .refl u
  · rw [(keepsAllBut_deactivate fun k _ c hc => by rw [h k] at hc; cases hc).2]
    exact ((eventKept_abortFrames hk _ u).trans (.of_keepsAllBut (KeepsAllBut.setFormer _ _) (by simp))).trans
      (.of_keepsAllBut (KeepsAllBut.setFormer _ _) (by simp))

section
variable (h : new.strips ≠ s.prof.active.strips)
include h

theorem commitBase_channel (c : ChanIx) : (s.commitBase new metro).strip.channels[c] = remappedChannel new.strips[c] := by
  have hentry : (s.commitStand new metro).stripEntry c = new.strips[c] := by
    rw [State.stripEntry, commitStand_prof]
    rfl
  rw [commitBase_eq, if_pos h, ← hentry, remapChannels_strip, remapFold_channel]

theorem commitBase_leakStart : (s.commitBase new metro).strip.leakStart = s.strip.leakStart := by
  have hstand : (s.commitStand new metro).strip = s.strip := keepsAllBut_commitStand s new metro .strip (by simp)
  rw [commitBase_eq, if_pos h, ← hstand, remapChannels_strip, remapFold_leakStart]

theorem commitBase_channelEvent (p : Port) : ((s.commitBase new metro).port p).events[EventClass.channelState.index] =
    (((List.finRange 24).filter (fun k : ChanIx => decide ((remappedChannel new.strips[k]).state = .settling
      ∨ (remappedChannel new.strips[k]).state ≠ s.strip.channels[k].state))).map (fun k => itemBit k.val)).foldl
        (fun e i => cellRaised i e) (s.port p).events[EventClass.channelState.index] := by
  have hstand := keepsAllBut_commitStand s new metro
  have hentry : ∀ c, (s.commitStand new metro).stripEntry c = new.strips[c] := fun c => by
    rw [State.stripEntry, commitStand_prof]
    rfl
  have hports := EventKept.of_keepsAllBut (k := .channelState) hstand (by simp) p
  have hstrip : (s.commitStand new metro).strip = s.strip := hstand .strip (by simp)
  have hevent := remapFold_event (s.commitStand new metro) p
  simp only [hentry, hstrip] at hevent
  rw [hports] at hevent
  have hset : ((s.commitStand new metro).remapChannels.port p) =
      ((allChannels.foldl State.remapChannel (s.commitStand new metro)).port p) := State.port_setFormer ..
  rw [commitBase_eq, if_pos h, hset, hevent]
  have hfilter : (List.finRange 24).filter (fun c : ChanIx => decide ((remappedChannel new.strips[c]).state
      ≠ s.strip.channels[c].state) || decide ((remappedChannel new.strips[c]).state = .settling)) =
      (List.finRange 24).filter (fun k : ChanIx => decide ((remappedChannel new.strips[k]).state = .settling
        ∨ (remappedChannel new.strips[k]).state ≠ s.strip.channels[k].state)) :=
    List.filter_congr fun c _ => by rw [Bool.or_comm, ← Bool.decide_or]
  rw [hfilter]

theorem commitFollowed_recompose :
    s.commitFollowed new metro = (s.commitProbed new metro).recompose s :=
  completeOverdue_of_empty fun l => (thins_recompose _ s).empty (commitProbed_empty s new metro h l)

theorem commitFollowed_strip : (s.commitFollowed new metro).strip = (s.commitBase new metro).strip := by
  rw [commitFollowed_recompose s new metro h,
    keepsAllBut_recompose_empty (commitProbed_empty s new metro h) s .strip (by simp), State.commitProbed,
    keepsAllBut_commitProbes _ _ .strip (by simp [tempParts])]

theorem commitFollowed_waiting (r : StripRow) (q : PosIx) : (s.commitFollowed new metro).waiting r q = [] := by
  have hthins := thins_recompose (s.commitProbed new metro) s
  have hbase : (s.commitProbed new metro).waiting r q = [] := by
    have hformer : (s.commitProbed new metro).former = (s.commitStand new metro).remapChannels.former := by
      rw [State.commitProbed, keepsAllBut_commitProbes _ _ .former (by simp [tempParts]), commitBase_eq, if_pos h]
    rw [waiting_of_former_eq hformer]
    cases r <;> simp [State.waiting, State.remapChannels]
  have hlen := hthins.lists r q
  rw [hbase] at hlen
  rw [commitFollowed_recompose s new metro h]
  exact List.eq_nil_of_length_eq_zero (Nat.le_zero.mp hlen)

theorem commitFollowed_candidates (l : LaneIx) : (s.commitFollowed new metro).former.candidates[l] = [] := by
  rw [commitFollowed_recompose s new metro h]
  exact (thins_recompose _ s).empty (commitProbed_empty s new metro h l)

theorem commitFollowed_channelEvent : EventKept .channelState (s.commitBase new metro) (s.commitFollowed new metro) := by
  have hprobes : EventKept .channelState (s.commitBase new metro) (s.commitProbed new metro) :=
    eventKept_commitProbes (by decide) _ _
  rw [commitFollowed_recompose s new metro h]
  exact hprobes.trans (eventKept_recompose_empty (by decide) (commitProbed_empty s new metro h) s)

end

/-! ### The probes (R45, R51) -/

theorem commitProbed_probe (q : ProbeIx) : (s.commitProbed new metro).temp.probes[q] = s.temp.probes[q].atCommit
    s.prof.active.probes.entries[q] new.probes.entries[q] (decide (s.prof.active.probes.curve ≠ new.probes.curve)) := by
  rw [State.commitProbed, commitProbes_probes, probesFollow_probe, State.probeAtCommit, commitBase_active, commitBase_temp]

theorem commitFollowed_probeEvent (p : Port) : ((s.commitFollowed new metro).port p).events[EventClass.probeState.index] =
    (((List.finRange 8).filter (fun q : ProbeIx => decide ((s.commitFollowed new metro).temp.probes[q].state
      ≠ s.temp.probes[q].state))).map (fun q => itemBit q.val)).foldl (fun e i => cellRaised i e)
        (s.port p).events[EventClass.probeState.index] := by
  have hchain := chained_eventKept (k := .probeState) (by decide) (by decide)
  have hfollow : EventKept .probeState (s.commitProbed new metro) (s.commitFollowed new metro) :=
    (hchain.recompose _ s).trans (hchain.completeOverdue _)
  have hprobe : ∀ q : ProbeIx, (s.commitFollowed new metro).temp.probes[q] =
      (s.commitBase new metro).probeAtCommit s.prof.active.probes q (s.commitBase new metro).temp.probes[q] := fun q => by
    rw [commitFollowed_temp, State.commitProbed, commitProbes_probes, probesFollow_probe]
  simp only [hprobe]
  rw [hfollow p, State.commitProbed, commitProbes_event, probesFollow_event, commitBase_probeEvents s new metro p,
    commitBase_temp]

end

/-! ### Probes and conversions that a commit disables, enables or restarts -/

section
variable {x : Probe} {old new : ProbeEntry} {curveChanged : Bool}

theorem atCommit_disabled (hnew : new.enabled = false) (hold : old.enabled = true) :
    x.atCommit old new curveChanged = startProbe := by
  simp only [Probe.atCommit, hnew, hold]
  rfl

theorem atCommit_enabled (hnew : new.enabled = true) (hold : old.enabled = false) :
    x.atCommit old new curveChanged = { startProbe with state := .warmup } := by
  simp only [Probe.atCommit, hnew, hold]
  rfl

theorem atCommit_restarted (hnew : new.enabled = true) (hold : old.enabled = true)
    (h : curveChanged = true ∨ old.trim ≠ new.trim) : x.atCommit old new curveChanged =
      { x with state := .warmup, warm := 0, spike := 0, badRun := 0, filtered := none } := by
  have hcond : (curveChanged || decide (old.trim ≠ new.trim)) = true := by simpa using h
  simp only [Probe.atCommit, hnew, hold, hcond]
  rfl

theorem atCommit_kept (hnew : new.enabled = true) (hold : old.enabled = true) (hcurve : curveChanged = false)
    (h : new.trim = old.trim) : x.atCommit old new curveChanged = x := by
  simp [Probe.atCommit, hnew, hold, hcurve, h]

theorem conversionAtCommit_disabled {c : Conversion} {probes : ProbesSec} {q : ProbeIx} (hinput : c.input = .probe q)
    (h : probes.entries[q].enabled = false) : c.atCommit probes = { c with voided := true } := by
  simp only [Conversion.atCommit, hinput, h, Bool.not_false, Bool.or_true]

end

/-! ### The answer to the commit (R162) -/

section
variable {s : State} {w : ImageWrite} {c : Claim} {tag : Byte} {metro : Bool}

theorem exec_commitDone (hruns : s.heldLow = false) (hw : s.prof.write = some w) (hreason : w.reason = .commit)
    (hpassed : hasPassed w.start 1 s.now = true) :
    exec (.imageWriteComplete true) s = .next ((s.readBack w true).commitDone w) := by
  rw [exec_imageWriteComplete true hruns hw hpassed]
  simp only [State.serveReason, hreason, if_true]

/-- The state after a commit's completion, before its reply. -/
def State.committed (s : State) (w : ImageWrite) : State :=
  (s.readBack w true).commitFollowed w.content.profile (metroDiffer w.content.profile s.prof.active)

theorem commitDone_eq (s : State) (w : ImageWrite) : (s.readBack w true).commitDone w =
    (s.committed w).replyToCommit (s.prof.claim.map (·.owner)) (okPayload (leBytes 4 (s.committed w).prof.generation)) := rfl

theorem replyToCommit_held {u : State} {p : Port} {payload : List Byte} (h : (u.port p).deferred = some { kind := .commit, tag := tag }) :
    (u.replyToCommit (some p) payload).port p = { u.port p with
      deferred := none, replies := (u.port p).replies ++ [plainReply ReqKind.commit.code tag payload] } := by
  rw [State.replyToCommit, endDeferred_held payload h, State.port_setPort]
  rfl

theorem replyToCommit_event (k : EventClass) (u : State) (owner : Option Port) (payload : List Byte) :
    EventKept k u (u.replyToCommit owner payload) := fun p => by
  cases owner with
  | none => rfl
  | some q => exact congrArg (fun v : Vector EventCell 13 => v[k.index]) (endDeferred_events u q .commit payload p)

end

theorem committed_prof (s : State) (w : ImageWrite) : (s.committed w).prof =
    { ((s.readBack w true).takeActive w.content.profile (metroDiffer w.content.profile s.prof.active)).prof with
      reasons := (s.committed w).prof.reasons } :=
  commitFollowed_prof (s.readBack w true) _ _

theorem lanesKept_readBack {s : State} {w : ImageWrite} {p : Profile} (h : LanesKept s p) : LanesKept (s.readBack w true) p := h

theorem noneOverdueBy_readBack {s : State} {w : ImageWrite} {p : Profile} (h : NoneOverdueBy s p) :
    NoneOverdueBy (s.readBack w true) p := h

/-- A commit that closes no lane and completes no candidate leaves store and frames, and its factors stay fresh. -/
theorem committed_of_kept {s : State} {w : ImageWrite} (hlanes : LanesKept s w.content.profile)
    (hdue : NoneOverdueBy s w.content.profile) : (s.committed w).store = s.store ∧ (s.committed w).asm = s.asm
      ∧ (metroDiffer w.content.profile s.prof.active = true →
        (s.committed w).prof.reasons.learned = false ∧ FreshFactors (s.committed w) w.content.profile)
      ∧ (w.content.profile.strips = s.prof.active.strips → (s.committed w).strip = s.strip) := by
  have heq := commitFollowed_of_kept (s.readBack w true) w.content.profile (metroDiffer w.content.profile s.prof.active)
    (lanesKept_readBack hlanes) (noneOverdueBy_readBack hdue)
  rw [State.committed, heq]
  have hprobes := keepsAllBut_commitProbes ((s.readBack w true).commitBase w.content.profile
    (metroDiffer w.content.profile s.prof.active)) (s.readBack w true).prof.active.probes
  have hbase := keepsAllBut_commitBase (s.readBack w true) w.content.profile (metroDiffer w.content.profile s.prof.active)
  refine ⟨?_, ?_, fun hmetro => ⟨commitProbed_learned _ _ _ hmetro, (commitProbed_fresh _ _ _ hmetro).1⟩, fun hstrips => ?_⟩
  · rw [State.commitProbed, hprobes .store (by simp [tempParts]), hbase .store (by simp)]
    rfl
  · rw [State.commitProbed, hprobes .asm (by simp [tempParts]), hbase .asm (by simp)]
    rfl
  · have hsame : ¬ w.content.profile.strips ≠ (s.readBack w true).prof.active.strips := not_not.mpr hstrips
    rw [State.commitProbed, hprobes .strip (by simp [tempParts]), commitBase_eq, if_neg hsame,
      keepsAllBut_commitStand _ _ _ .strip (by simp)]
    rfl

/-- A metrological commit's factors are fresh once the probes have followed, and then take the offers of the records that
close. -/
theorem committed_offers {s : State} {w : ImageWrite} (hmetro : metroDiffer w.content.profile s.prof.active = true) :
    ∃ (u : State) (rs : List VehicleRec), FreshFactors u w.content.profile
      ∧ (∀ l : LaneIx, u.cal[l].outcome = s.cal[l].outcome) ∧ u.prof.active = w.content.profile
      ∧ u.temp = (s.committed w).temp ∧ u.prof.reasons.learned = false ∧ (s.committed w).cal = (u.offerAll rs).cal
      ∧ (s.committed w).prof.reasons.learned = (u.offerAll rs).prof.reasons.learned
      ∧ ∀ r ∈ rs, r.generation = (s.committed w).prof.generation := by
  obtain ⟨hgen, rs, halike, hrs⟩ := offered_commitFollowed (s.readBack w true) w.content.profile
    (metroDiffer w.content.profile s.prof.active)
  obtain ⟨hfresh, houtcome⟩ := commitProbed_fresh (s.readBack w true) w.content.profile _ hmetro
  refine ⟨_, rs, hfresh, houtcome, ?_, (commitFollowed_temp _ _ _).symm, commitProbed_learned _ _ _ hmetro, halike.cal,
    congrArg ReasonSet.learned halike.reasons, fun r hr => (hrs r hr).trans hgen.symm⟩
  rw [commitProbed_prof]
  rfl

theorem remappedChannel_eq (e : StripEntry) : remappedChannel e =
    { state := if e.lane = none then .off else .settling, settleSum := 0, settleCount := 0, baseline := none,
      detector := .quiet, bucket := 0, miss := 0, discard := 0 } := by
  cases h : e.lane <;> simp [remappedChannel, h, startChannel]

/-- What a changed STRIPMAP makes of the channels and the axle former. -/
theorem committed_remapped {s : State} {w : ImageWrite} (h : w.content.profile.strips ≠ s.prof.active.strips) :
    (∀ k : ChanIx, (s.committed w).strip.channels[k] = remappedChannel w.content.profile.strips[k])
      ∧ (s.committed w).strip.leakStart = s.strip.leakStart ∧ (∀ r q, (s.committed w).waiting r q = [])
      ∧ (∀ l : LaneIx, (s.committed w).former.candidates[l] = [])
      ∧ ∀ p : Port, ((s.committed w).port p).events[EventClass.channelState.index] =
          (((List.finRange 24).filter (fun k : ChanIx => decide ((s.committed w).strip.channels[k].state = .settling
            ∨ (s.committed w).strip.channels[k].state ≠ s.strip.channels[k].state))).map (fun k => itemBit k.val)).foldl
              (fun e i => cellRaised i e) (s.port p).events[EventClass.channelState.index] := by
  have hb : w.content.profile.strips ≠ (s.readBack w true).prof.active.strips := h
  have hstrip := commitFollowed_strip _ _ (metroDiffer w.content.profile s.prof.active) hb
  have hchannel : ∀ k : ChanIx, (s.committed w).strip.channels[k] = remappedChannel w.content.profile.strips[k] := fun k => by
    rw [State.committed, hstrip, commitBase_channel _ _ _ hb]
  refine ⟨hchannel, ?_, commitFollowed_waiting _ _ _ hb, commitFollowed_candidates _ _ _ hb, fun p => ?_⟩
  · rw [State.committed, hstrip, commitBase_leakStart _ _ _ hb]
    rfl
  · simp only [hchannel]
    exact (commitFollowed_channelEvent _ _ _ hb p).trans (commitBase_channelEvent _ _ _ hb p)

/-- What the commit makes of the probes and the conversion in progress. -/
theorem committed_probe (s : State) (w : ImageWrite) (q : ProbeIx) : (s.committed w).temp.probes[q] = s.temp.probes[q].atCommit
    s.prof.active.probes.entries[q] w.content.profile.probes.entries[q]
      (decide (s.prof.active.probes.curve ≠ w.content.profile.probes.curve)) := by
  rw [State.committed, commitFollowed_temp, commitProbed_probe]
  rfl

theorem committed_conv {s : State} {w : ImageWrite} {k : Conversion} (h : s.temp.conv = some k) :
    (s.committed w).temp.conv = some (k.atCommit w.content.profile.probes) := by
  have hbase : ((s.readBack w true).commitBase w.content.profile (metroDiffer w.content.profile s.prof.active)).temp.conv
      = some k := by
    rw [commitBase_temp]
    exact h
  rw [State.committed, commitFollowed_temp, State.commitProbed, commitProbes_conv _ _ hbase, commitBase_active]

/-- Settles O44: the blocks follow the new set one after another, and what they leave is not moved by those after them. -/
theorem commitCompletes : Obligations.CommitCompletes := by
  rintro s w c tag _ hruns hw hreason hpassed hclaim hdeferred rfl
  have hexec := exec_commitDone hruns hw hreason hpassed
  rw [commitDone_eq, hclaim, Option.map_some] at hexec
  have hwait : ((s.committed w).port c.owner).deferred = some { kind := .commit, tag := tag } :=
    commitFollowed_deferred (s.readBack w true) _ _ hdeferred
  have hport := replyToCommit_held (payload := okPayload (leBytes 4 (s.committed w).prof.generation)) hwait
  have hreply := keepsAllBut_replyToCommit (s.committed w) (some c.owner)
    (okPayload (leBytes 4 (s.committed w).prof.generation))
  have hevent := fun k => replyToCommit_event k (s.committed w) (some c.owner)
    (okPayload (leBytes 4 (s.committed w).prof.generation))
  have hprof := committed_prof s w
  refine ⟨_, hexec, ?_⟩
  generalize (s.committed w).replyToCommit (some c.owner) (okPayload (leBytes 4 (s.committed w).prof.generation)) = t at *
  have htprof : t.prof = (s.committed w).prof := hreply .prof (by simp)
  have httemp : t.temp = (s.committed w).temp := hreply .temp (by simp)
  have htstrip : t.strip = (s.committed w).strip := hreply .strip (by simp)
  have htcal : t.cal = (s.committed w).cal := hreply .cal (by simp)
  have htformer : t.former = (s.committed w).former := hreply .former (by simp)
  simp only [htprof, httemp, htstrip, htcal, htformer, waiting_of_former_eq htformer]
  refine ⟨by rw [hprof]; rfl, by rw [hprof]; rfl, by rw [hprof]; rfl, by rw [hprof]; rfl, by rw [hprof]; rfl,
    by rw [hprof]; rfl, by rw [hprof]; rfl, by rw [hprof]; rfl, by rw [hprof]; rfl, ?_, by rw [hport], ?_, committed_offers,
    fun hlanes hdue => ?_, by rw [hprof]; rfl, fun hstrips => ?_, fun q => ⟨fun hnew hold => ?_, fun hnew hold => ?_,
    fun hnew hold => ⟨fun h => ?_, fun hcurve htrim => ?_⟩⟩, fun p => ?_⟩
  · exact (hreply .site (by simp)).trans (commitFollowed_site (s.readBack w true) _ _)
  · rw [hport]
    exact List.mem_append_right _ (List.mem_singleton.mpr rfl)
  · obtain ⟨hstore, hasm, hfresh, hstrip⟩ := committed_of_kept hlanes hdue
    refine ⟨(hreply .store (by simp)).trans hstore, (hreply .asm (by simp)).trans hasm, fun hmetro => ?_, hstrip⟩
    obtain ⟨hlearned, hfactors⟩ := hfresh hmetro
    exact ⟨hlearned, fun l => by rw [htcal]; exact hfactors l⟩
  · obtain ⟨hchannel, hleak, hwaiting, hcandidates, hchannelEvent⟩ := committed_remapped hstrips
    exact ⟨fun k => (hchannel k).trans (remappedChannel_eq _), hleak, hwaiting, hcandidates,
      fun p => (hevent .channelState p).trans (hchannelEvent p)⟩
  · refine ⟨(committed_probe s w q).trans (atCommit_disabled hnew hold), fun k hk hinput => ?_⟩
    rw [committed_conv hk, conversionAtCommit_disabled hinput hnew]
  · exact (committed_probe s w q).trans (atCommit_enabled hnew hold)
  · refine (committed_probe s w q).trans (atCommit_restarted hnew hold ?_)
    exact h.imp (fun hcurve => decide_eq_true (Ne.symm hcurve)) Ne.symm
  · exact (committed_probe s w q).trans (atCommit_kept hnew hold (decide_eq_false (not_not.mpr hcurve.symm)) htrim)
  · exact (hevent .probeState p).trans (commitFollowed_probeEvent (s.readBack w true) _ _ p)

end Sys2Proof.Machine
end

section
/-! The answer to PROBE_NOW (R49): at the end of the slot's conversion, or at a commit that disables its probe. -/

namespace Sys2Proof.Machine

open Sys2Proof

/-! ### The end of the slot's conversion -/

section
variable {s : State} {c : Conversion} {q : ProbeIx} {r : SlotRequest} {code : BitVec 12}

theorem deliverResult_slot (hinput : c.input = .probe q) (horigin : c.origin = .slot) (hslot : s.temp.slot = some r)
    (hr : r.selected = true) (hstate : s.temp.probes[q].state ≠ .absent) :
    s.deliverResult c code = (s.takeProbeResult q code.toNat).replyFromSlot s r code.toNat := by
  simp only [State.deliverResult, hinput, horigin, hslot, hr, hstate, ne_eq, not_false_eq_true, and_self, if_true]

/-- The result of a request that has been dropped is discarded. -/
theorem deliverResult_dropped (hinput : c.input = .probe q) (horigin : c.origin = .slot)
    (h : ∀ r, s.temp.slot = some r → r.selected = false) : s.deliverResult c code = s := by
  cases hslot : s.temp.slot with
  | none => simp only [State.deliverResult, hinput, horigin, hslot]
  | some r => simp only [State.deliverResult, hinput, horigin, hslot, h r hslot, Bool.false_eq_true, false_and, if_false]

end

theorem eventsOnly_takeProbeResult (s : State) (q : ProbeIx) (raw : Nat) : EventsOnly s (s.takeProbeResult q raw) := by
  rw [takeProbeResult_eq]
  split
  · exact .setProbe s q _
  · exact (EventsOnly.setProbe s q _).trans (.evaluateLanes _)

/-- The value part of a PROBE_NOW reply: the presence byte and the filtered value of a VALID probe. -/
theorem probeNowResult_eq (q : ProbeIx) (raw corrected : Nat) (v : Int) (out : ProbeOutcome) (x : Probe) {tail : List Byte}
    (h : tail = leBytes 1 (bitIf x.value.isSome 0) ++ leSigned 2 (x.value.getD 0)) :
    probeNowResult q raw corrected v out x = leBytes 1 q.val ++ leBytes 2 raw ++ leBytes 2 corrected ++ leSigned 2 v
      ++ leBytes 1 out.code ++ leBytes 1 x.state.code ++ tail := by
  rw [h, probeNowResult, List.append_assoc _ (leBytes 1 (bitIf x.value.isSome 0))]

section
variable {s : State} {c : Conversion} {q : ProbeIx} {p : Port} {tag : Byte} {code : BitVec 12}

/-- The payload that answers a PROBE_NOW (R49). -/
def State.probeAnswer (s : State) (q : ProbeIx) (code : Nat) : List Byte :=
  okPayload (probeNowResult q code (correctedRaw s.temp.offset code)
    (curveTemp s.prof.active.probes q (correctedRaw s.temp.offset code)) (s.resultOf q code).2 (s.resultOf q code).1)

/-- The state once the slot's request has been answered. -/
def State.slotAnswered (s : State) (q : ProbeIx) (p : Port) (tag : Byte) (code : Nat) : State :=
  let u := s.takeProbeResult q code
  (u.setTemp { u.temp with slot := none }).setPort p
    { u.port p with deferred := none, replies := (u.port p).replies ++ [plainReply ReqKind.probeNow.code tag (s.probeAnswer q code)] }

theorem exec_slotAnswered (hruns : s.heldLow = false) (hc : s.temp.conv = some c) (hinput : c.input = .probe q)
    (horigin : c.origin = .slot) (hpassed : hasPassed c.start 160 s.now = true)
    (hslot : s.temp.slot = some { probe := q, port := p, selected := true }) (hstate : s.temp.probes[q].state ≠ .absent)
    (hdeferred : (s.port p).deferred = some { kind := .probeNow, tag := tag }) :
    exec (.conversionComplete code) s = .next (s.slotAnswered q p tag code.toNat).freeConverter := by
  have hport : (((s.takeProbeResult q code.toNat).setTemp { (s.takeProbeResult q code.toNat).temp with slot := none }).port p)
      = (s.takeProbeResult q code.toNat).port p := State.port_setTemp ..
  have hwait : ((s.takeProbeResult q code.toNat).port p).deferred = some { kind := .probeNow, tag := tag } := by
    rw [eventsOnly_takeProbeResult s q code.toNat p]
    exact hdeferred
  have hout : (s.resultOf q code.toNat).1.lastOutcome = some (s.resultOf q code.toNat).2 := (process_last _ _ _ _ _).2
  rw [exec_conversionComplete hruns hc hpassed, deliverResult_slot hinput horigin hslot rfl hstate, State.replyFromSlot,
    endDeferred_held _ (by rw [hport]; exact hwait), hport, takeProbeResult_probe, hout]
  rfl

theorem keepsAllBut_slotAnswered (code : Nat) : KeepsAllBut tempParts s (s.slotAnswered q p tag code) :=
  ((keepsAllBut_takeProbeResult s q code).trans ((KeepsAllBut.setTemp _ _).mono (by simp [tempParts]))).trans
    ((KeepsAllBut.setPort _ _ _).mono (by simp [tempParts]))

theorem slotAnswered_temp (code : Nat) :
    (s.slotAnswered q p tag code).temp = { (s.takeProbeResult q code).temp with slot := none } := by
  cases p <;> rfl

theorem slotAnswered_port (code : Nat) : (s.slotAnswered q p tag code).port p =
    { (s.takeProbeResult q code).port p with
      deferred := none,
      replies := ((s.takeProbeResult q code).port p).replies
        ++ [plainReply ReqKind.probeNow.code tag (s.probeAnswer q code)] } :=
  State.port_setPort ..

theorem slotAnswered_otherPort (code : Nat) : (s.slotAnswered q p tag code).port (otherPort p) =
    (s.takeProbeResult q code).port (otherPort p) := by
  cases p <;> rfl

/-- The lane temperatures after a result that is not under ZERO_FAULT (R56). -/
theorem takeProbeResult_follows (hzero : s.temp.zeroFault = false) (code : Nat) (l : LaneIx) :
    Follows (s.takeProbeResult q code).temp.probes (s.laneEntry l) s.temp.lanes[l] (s.takeProbeResult q code).temp.lanes[l] := by
  have htake : s.takeProbeResult q code = (s.setProbe q (s.resultOf q code).1).evaluateLanes := by
    rw [takeProbeResult_eq, if_neg (by simp [hzero])]
  have hprof : (s.setProbe q (s.resultOf q code).1).prof = s.prof := keepsAllBut_setProbe_temp s q _ .prof (by simp)
  have hlanes : (s.setProbe q (s.resultOf q code).1).temp.lanes = s.temp.lanes := by rw [setProbe_temp]
  generalize s.setProbe q (s.resultOf q code).1 = u at *
  have hentry : u.laneEntry l = s.laneEntry l := by
    unfold State.laneEntry
    rw [hprof]
  have h := evaluateLanes_follows u l
  rw [hlanes, hentry] at h
  rw [htake]
  generalize u.evaluateLanes = v at h
  exact h.1

theorem takeProbeResult_zeroFault (hzero : s.temp.zeroFault = true) (code : Nat) :
    (s.takeProbeResult q code).temp.lanes = s.temp.lanes := by
  rw [takeProbeResult_eq, if_pos hzero, setProbe_temp]

end

/-! ### A commit that disables the slot's probe -/

section
variable {s : State} {w : ImageWrite} {r : SlotRequest} {tag : Byte}

theorem inputsFollow_slot (old : ProbesSec) (hslot : s.temp.slot = some r) :
    ((s.probesFollow old).inputsFollow s.prof.active.probes).temp.slot = some r := by
  rw [State.inputsFollow, State.setTemp_temp, probesFollow_temp]
  exact hslot

theorem inputsFollow_prof (old : ProbesSec) :
    ((s.probesFollow old).inputsFollow s.prof.active.probes).prof = s.prof := by
  rw [State.inputsFollow, State.setTemp_prof, keepsAllBut_probesFollow _ _ .prof (by simp [tempParts])]

/-- At a commit's completion the disabled slot is emptied and its request refused. -/
theorem slotFollows_disabled (old : ProbesSec) (hslot : s.temp.slot = some r)
    (hdisabled : s.prof.active.probes.entries[r.probe].enabled = false)
    (hdeferred : (s.port r.port).deferred = some { kind := .probeNow, tag := tag }) :
    (s.slotFollows old).temp.slot = none ∧ ((s.slotFollows old).port r.port).deferred = none
      ∧ ((s.slotFollows old).port r.port).replies = (s.port r.port).replies
        ++ [plainReply ReqKind.probeNow.code tag (refusalPayload .badValue 0 0)] := by
  have hport : ((s.probesFollow old).inputsFollow s.prof.active.probes).port r.port = (s.probesFollow old).port r.port :=
    State.port_setTemp ..
  have hprobes := EventsOnly.probesFollow s old r.port
  have hdrop := dropSlot_disabled _ (inputsFollow_slot old hslot) (by rw [inputsFollow_prof]; exact hdisabled)
  generalize hu : (s.probesFollow old).inputsFollow s.prof.active.probes = u at hport hdrop
  have hset : (u.setTemp { u.temp with slot := none }).port r.port = u.port r.port := State.port_setTemp ..
  have hwait : ((u.setTemp { u.temp with slot := none }).port r.port).deferred = some { kind := .probeNow, tag := tag } := by
    rw [hset, hport, hprobes]
    exact hdeferred
  rw [endDeferred_held _ hwait, hset] at hdrop
  rw [State.slotFollows, hu, hdrop]
  refine ⟨?_, by rw [State.port_setPort], ?_⟩
  · cases r.port <;> rfl
  · rw [State.port_setPort, hport, hprobes]
    rfl

theorem selectEvaluate_slot {u : State} (h : u.temp.slot = none) : u.selectInput.evaluateLanes.temp.slot = none := by
  rw [evaluateLanes_temp]
  exact (selectInput_keeps u).2 h

theorem selectEvaluate_port (u : State) (p : Port) : (u.selectInput.evaluateLanes.port p).deferred = (u.port p).deferred
    ∧ (u.selectInput.evaluateLanes.port p).replies = (u.port p).replies := by
  have hselect : u.selectInput.port p = u.port p := by
    have : u.selectInput.ports = u.ports := keepsAllBut_selectInput u .ports (by simp)
    cases p <;> simp only [State.port, this]
  rw [EventsOnly.evaluateLanes u.selectInput p, hselect]
  exact ⟨rfl, rfl⟩

theorem commitProbes_disabled (old : ProbesSec) (hslot : s.temp.slot = some r)
    (hdisabled : s.prof.active.probes.entries[r.probe].enabled = false)
    (hdeferred : (s.port r.port).deferred = some { kind := .probeNow, tag := tag }) :
    (s.commitProbes old).temp.slot = none ∧ ((s.commitProbes old).port r.port).deferred = none
      ∧ ((s.commitProbes old).port r.port).replies = (s.port r.port).replies
        ++ [plainReply ReqKind.probeNow.code tag (refusalPayload .badValue 0 0)] := by
  have hslotFollows := slotFollows_disabled old hslot hdisabled hdeferred
  rw [commitProbes_slotFollows]
  generalize s.slotFollows old = u at hslotFollows
  obtain ⟨hempty, hdone, hreplies⟩ := hslotFollows
  obtain ⟨hsame, hkept⟩ := selectEvaluate_port u r.port
  exact ⟨selectEvaluate_slot hempty, hsame.trans hdone, hkept.trans hreplies⟩

/-- The port whose PROBE_NOW a commit has refused awaits nothing more from it. -/
theorem replyToCommit_idle {u : State} {p : Port} (h : (u.port p).deferred = none) (owner : Option Port)
    (payload : List Byte) : (u.replyToCommit owner payload).port p = u.port p := by
  cases owner with
  | none => rfl
  | some o =>
    by_cases ho : p = o
    · subst ho
      rw [State.replyToCommit, endDeferred_none _ h]
    · exact endDeferred_port_ne ho _ _

end

/-- What a commit makes of a slot whose probe it disables. -/
theorem committed_disabled {s : State} {w : ImageWrite} {q : ProbeIx} {p : Port} {selected : Bool} {tag : Byte}
    (hslot : s.temp.slot = some { probe := q, port := p, selected := selected })
    (hdisabled : w.content.profile.probes.entries[q].enabled = false)
    (hdeferred : (s.port p).deferred = some { kind := .probeNow, tag := tag }) :
    (s.committed w).temp.slot = none ∧ ((s.committed w).port p).deferred = none
      ∧ ((s.committed w).port p).replies = (s.port p).replies
        ++ [plainReply ReqKind.probeNow.code tag (refusalPayload .badValue 0 0)] := by
  have hbase := eventsOnly_commitBase (s.readBack w true) w.content.profile (metroDiffer w.content.profile s.prof.active) p
  have hactive := commitBase_active (s.readBack w true) w.content.profile (metroDiffer w.content.profile s.prof.active)
  have htemp := commitBase_temp (s.readBack w true) w.content.profile (metroDiffer w.content.profile s.prof.active)
  have hmeasures := measures_commitFollowed (s.readBack w true) w.content.profile (metroDiffer w.content.profile s.prof.active)
  rw [State.committed, hmeasures.temp, hmeasures.port, State.commitProbed]
  generalize (s.readBack w true).commitBase w.content.profile (metroDiffer w.content.profile s.prof.active) = u at *
  have hreplies : (u.port p).replies = (s.port p).replies := by
    rw [hbase]
    rfl
  rw [← hreplies]
  refine commitProbes_disabled _ (r := { probe := q, port := p, selected := selected }) ?_ ?_ ?_
  · rw [htemp]
    exact hslot
  · rw [hactive]
    exact hdisabled
  · rw [hbase]
    exact hdeferred

/-- The filtered value of a probe that has none, as PROBE_NOW's reply carries it. -/
theorem absentValueBytes :
    leBytes 1 (bitIf (none : Option Int).isSome 0) ++ leSigned 2 ((none : Option Int).getD 0) = [0, 0, 0] := by
  decide

/-- Settles O23: the slot's result is processed and answered, a commit that disables its probe refuses it, and the result of
a dropped request is discarded. -/
theorem probeNowAnswered : Obligations.ProbeNowAnswered := by
  refine ⟨fun s code c q p tag raw v hruns hc hinput horigin hpassed hslot hstate hdeferred hraw hv => ?_,
    fun s w q p tag selected hruns hw hreason hpassed hslot hdisabled hdeferred => ?_,
    fun s code c q hruns hc hinput horigin hpassed hdropped => ?_⟩
  · have hcorrected : correctedRaw s.temp.offset code.toNat = raw := hraw.symm
    refine ⟨_, (s.resultOf q code.toNat).2,
      exec_slotAnswered hruns hc hinput horigin hpassed hslot hstate hdeferred, ?_⟩
    have hkeep := (keepsAllBut_slotAnswered (s := s) (q := q) (p := p) (tag := tag) code.toNat).trans
      ((keepsAllBut_freeConverter (s.slotAnswered q p tag code.toNat)).mono (by simp [tempParts]))
    rw [freeConverter_port, freeConverter_port, freeConverter_probes, freeConverter_lanes, slotAnswered_port,
      slotAnswered_otherPort, slotAnswered_temp, takeProbeResult_probe, eventsOnly_takeProbeResult s q code.toNat p,
      eventsOnly_takeProbeResult s q code.toNat (otherPort p)]
    refine ⟨freeConverter_slot (by rw [slotAnswered_temp]), rfl, ?_, (process_last _ _ _ _ _).1, (process_last _ _ _ _ _).2,
      fun k hk => takeProbeResult_probe_ne s hk _, fun hzero => takeProbeResult_zeroFault hzero _,
      fun hzero l => takeProbeResult_follows hzero _ l, ?_, rfl, hkeep⟩
    · rw [hv, ← hcorrected]
      rfl
    · refine congrArg (fun y => (s.port p).replies ++ [y]) ?_
      refine congrArg (fun y : List Byte => ({ kind := ReqKind.probeNow.code + 0x80, tag := tag, payload := y, endsRestart := false } : Reply)) ?_
      refine congrArg (fun y : List Byte => (0 : Byte) :: y) ?_
      rw [hv, ← hcorrected]
      refine probeNowResult_eq q _ _ _ _ _ ?_
      rcases (s.resultOf q code.toNat).1 with ⟨_ | _ | _ | _, _, _, _, _, _, _ | _⟩
      case valid.some => rfl
      all_goals exact absentValueBytes.symm
  · have hexec := exec_commitDone hruns hw hreason hpassed
    rw [commitDone_eq] at hexec
    obtain ⟨hempty, hdone, hreplies⟩ := committed_disabled hslot hdisabled hdeferred
    have hkeep := keepsAllBut_replyToCommit (s.committed w) (s.prof.claim.map (·.owner))
      (okPayload (leBytes 4 (s.committed w).prof.generation))
    have hport := replyToCommit_idle hdone (s.prof.claim.map (·.owner))
      (okPayload (leBytes 4 (s.committed w).prof.generation))
    refine ⟨_, hexec, ?_⟩
    rw [hkeep .temp (by simp), hport]
    refine ⟨hempty, hdone, hreplies, fun c hc => ⟨_, committed_conv hc, ?_⟩⟩
    unfold Conversion.atCommit
    split <;> exact ⟨rfl, rfl, rfl⟩
  · refine ⟨_, exec_conversionComplete hruns hc hpassed code, ?_⟩
    rw [deliverResult_dropped hinput horigin hdropped]
    exact ⟨freeConverter_probes s, freeConverter_lanes s, keepsAllBut_freeConverter s⟩

end Sys2Proof.Machine
end

section
/-! PROOFS. The axle former: the leading hit that expires (O25). -/

namespace Sys2Proof.Machine

open Sys2Proof

/-! ### The leading hit that expires (R66) -/

/-- A filter that drops one element of a list and keeps the others. -/
theorem filter_drops_one {α : Type} {p : α → Bool} {pre post : List α} {x : α} (hx : p x = false)
    (h : ∀ y ∈ pre ++ post, p y = true) : (pre ++ x :: post).filter p = pre ++ post := by
  rw [List.filter_append, List.filter_cons_of_neg (by simp [hx]), ← List.filter_append]
  exact List.filter_eq_self.mpr h

/-- A hit that stands once in a list leaves the others behind it. -/
theorem filter_ne_eq {pre rest : List HitRec} {h : HitRec} (hpre : h ∉ pre) (hrest : h ∉ rest) :
    (pre ++ h :: rest).filter (fun x => decide (x ≠ h)) = pre ++ rest :=
  filter_drops_one (decide_eq_false (not_not_intro rfl)) fun _ hx => decide_eq_true fun e =>
    (List.mem_append.mp hx).elim (fun hx => hpre (e ▸ hx)) fun hx => hrest (e ▸ hx)

theorem awaits_eq_decide (h : HitRec) (x : Side) : Side.awaits h x = decide (x = .waiting h) := by
  cases x <;> simp [Side.awaits]

theorem setWaiting_candidates (s : State) (r : StripRow) (q : PosIx) (hs : List HitRec) :
    (s.setWaiting r q hs).former.candidates = s.former.candidates := by
  cases r <;> rfl

theorem setWaiting_late (s : State) (r : StripRow) (q : PosIx) (hs : List HitRec) :
    (s.setWaiting r q hs).former.late = s.former.late := by
  cases r <;> rfl

theorem setWaiting_nextId (s : State) (r : StripRow) (q : PosIx) (hs : List HitRec) :
    (s.setWaiting r q hs).former.nextId = s.former.nextId := by
  cases r <;> rfl

theorem keepsAllBut_setWaiting (s : State) (r : StripRow) (q : PosIx) (hs : List HitRec) :
    KeepsAllBut [.former] s (s.setWaiting r q hs) := by
  cases r <;> exact .setFormer s _

/-- Replacing the candidates leaves the pending lists. -/
theorem waiting_expireLeading (s : State) (r r' : StripRow) (q q' : PosIx) (h : HitRec) :
    (s.expireLeading r q h).waiting r' q'
      = (s.setWaiting r q ((s.waiting r q).filter (fun x => decide (x ≠ h)))).waiting r' q' := by
  cases r' <;> rfl

theorem expireLeading_candidates (s : State) (r : StripRow) (q : PosIx) (h : HitRec) (k : LaneIx) :
    (s.expireLeading r q h).former.candidates[k] = (s.former.candidates[k]).map (fun c => { c with
      sides := c.sides.map (fun x => if x = .waiting h then .formed h.leadingWheel else x) }) := by
  simp only [State.expireLeading, State.setFormer_former, setWaiting_candidates, Fin.getElem_fin, Vector.getElem_map,
    awaits_eq_decide, decide_eq_true_eq]

/-- Settles O25: the head of a pending list expires into a one-row wheel; a commit that brings the expiry forward is not
seen at this tick. -/
theorem leadingHitExpires : Obligations.LeadingHitExpires := by
  refine ⟨fun s r q h rest hruns hwaiting hrest hpassed => ?_, fun s r q h rest hwaiting hforward => ?_⟩
  · have hexpired : s.leadingExpired r q = some h := by
      simp only [State.leadingExpired, hwaiting, maxWaitOf, (spanPassed_iff _ _ _).mpr hpassed, if_true]
    have hexec : exec (.leadingHitExpiry r q) s = .next (s.expireLeading r q h) := by
      change execLeadingHitExpiry r q s = _
      rw [execLeadingHitExpiry, hexpired, whileRunning_of_runs hruns]
    refine ⟨_, hexec, ?_, fun r' q' hne => ?_, setWaiting_late .., fun k => expireLeading_candidates s r q h k,
      (keepsAllBut_setWaiting s r q _).trans (.setFormer _ _)⟩
    · rw [waiting_expireLeading, waiting_setWaiting, if_pos ⟨rfl, rfl⟩, hwaiting]
      exact filter_ne_eq (pre := []) (by simp) hrest
    · rw [waiting_expireLeading, waiting_setWaiting, if_neg hne]
  · have hexpired : s.leadingExpired r q = none := by
      simp only [State.leadingExpired, hwaiting, maxWaitOf, not_spanPassed_of_broughtForward hforward, Bool.false_eq_true,
        if_false]
    change execLeadingHitExpiry r q s = _
    rw [execLeadingHitExpiry, hexpired]
    exact ite_self _

end Sys2Proof.Machine
end

section
/-! PROOFS. The axle former's rules: which candidate a side joins or opens (R67), how a candidate is found, taken out and
completed (R69 to R71), and how its axle opens a frame. -/

namespace Sys2Proof.Machine

open Sys2Proof

/-! ### Lists -/

section
variable {α : Type}

/-- A map that changes one element of a list and keeps the others. -/
theorem map_changes_one {f : α → α} {pre post : List α} {x : α} (h : ∀ y ∈ pre ++ post, f y = y) :
    (pre ++ x :: post).map f = pre ++ f x :: post := by
  have keeps : ∀ l : List α, (∀ y ∈ l, f y = y) → l.map f = l := fun l hl => (List.map_congr_left hl).trans (List.map_id l)
  rw [List.map_append, List.map_cons, keeps pre fun y hy => h y (by simp [hy]), keeps post fun y hy => h y (by simp [hy])]

/-- A choice that answers one element against every other answers it in the end. -/
theorem foldl_choice_best {f : α → α → α} {best : α} {l : List α} {a : α} (hself : f best best = best)
    (hchoice : ∀ x y, f x y = x ∨ f x y = y) (hmem : a = best ∨ best ∈ l)
    (h : ∀ x ∈ a :: l, x = best ∨ (f x best = best ∧ f best x = best)) : l.foldl f a = best := by
  induction l generalizing a with
  | nil => simpa using hmem
  | cons b rest ih =>
    have hb := h b (by simp)
    have ha := h a (by simp)
    refine ih ?_ fun x hx => ?_
    · rcases hmem with rfl | hmem
      · exact .inl (hb.elim (fun e => e ▸ hself) And.right)
      · rcases List.mem_cons.mp hmem with rfl | hmem
        · exact .inl (ha.elim (fun e => e ▸ hself) And.left)
        · exact .inr hmem
    · rcases List.mem_cons.mp hx with rfl | hx
      · rcases hchoice a b with e | e <;> rw [e]
        · exact ha
        · exact hb
      · exact h x (by simp [hx])

end

/-! ### Ticks -/

/-- The two distances between two ticks are 0, or make a whole turn. -/
theorem elapsed_turn (a b : Tick) : (a = b ∧ elapsed a b = 0 ∧ elapsed b a = 0)
    ∨ (0 < elapsed a b ∧ 0 < elapsed b a ∧ elapsed a b + elapsed b a = 2 ^ 32) := by
  have ha := a.isLt
  have hb := b.isLt
  have hab : elapsed a b = (2 ^ 32 - a.toNat + b.toNat) % 2 ^ 32 := BitVec.toNat_sub b a
  have hba : elapsed b a = (2 ^ 32 - b.toNat + a.toNat) % 2 ^ 32 := BitVec.toNat_sub a b
  by_cases h : a.toNat = b.toNat
  · exact .inl ⟨BitVec.eq_of_toNat_eq h, by omega, by omega⟩
  · exact .inr (by omega)

theorem earlierOf_left {a b : Tick} (h : elapsed a b < 2 ^ 31) : earlierOf a b = a := by
  unfold earlierOf
  split
  · rename_i hlater
    simp only [isLater, Bool.and_eq_true, decide_eq_true_eq] at hlater
    rcases elapsed_turn a b with ⟨rfl, -⟩ | ⟨hab, hba, hturn⟩
    · rfl
    · omega
  · rfl

theorem earlierOf_right {a b : Tick} (h : elapsed b a < 2 ^ 31) : earlierOf a b = b := by
  unfold earlierOf
  split
  · rfl
  · rename_i hlater
    simp only [isLater, Bool.and_eq_true, decide_eq_true_eq] at hlater
    rcases elapsed_turn a b with ⟨rfl, -⟩ | ⟨hab, hba, hturn⟩
    · rfl
    · omega

theorem isLater_iff {a b : Tick} : isLater a b = true ↔ 0 < elapsed b a ∧ elapsed b a < 2 ^ 31 := by
  simp only [isLater, Bool.and_eq_true, decide_eq_true_eq]

theorem isLater_eq_false {a b : Tick} (h : ¬ (0 < elapsed b a ∧ elapsed b a < 2 ^ 31)) : isLater a b = false :=
  Bool.not_eq_true _ |>.mp fun hl => h (isLater_iff.mp hl)

theorem isLater_asymm {a b : Tick} (h : isLater a b = true) : isLater b a = false := by
  simp only [isLater, Bool.and_eq_true, Bool.and_eq_false_iff, decide_eq_true_eq, decide_eq_false_iff_not] at h ⊢
  rcases elapsed_turn a b with hturn | hturn <;> omega

theorem firstStart_of_one {c : Candidate} {x : Side} (h : c.sides = [x]) : c.firstStart = x.start := by
  simp only [Candidate.firstStart, h, List.foldl_nil]

theorem firstStart_of_two {c : Candidate} {x y : Side} (h : c.sides = [x, y]) : c.firstStart = earlierOf x.start y.start := by
  simp only [Candidate.firstStart, h, List.foldl_cons, List.foldl_nil]

/-! ### The candidate a side joins (R67) -/

section
variable {s t : State} {q : PosIx} {u : Tick} {c c' : Candidate} {d d' : Nat}

/-- Eligibility reads the window of the active set alone. -/
theorem Eligible.congr (hp : t.prof.active = s.prof.active) (h : Eligible s c q u d) : Eligible t c q u d := by
  obtain ⟨x, v, hx, hv, hpos, hd, hw⟩ := h
  exact ⟨x, v, hx, hv, hpos, hd, hp ▸ hw⟩

/-- The model's comparison answers the preferred one of two candidates, whichever stands first. -/
theorem Preferred.nearerOfTwo (h : Eligible s c q u d) (h' : Eligible s c' q u d') (hp : Preferred q c d c' d') :
    nearerOfTwo q u c' c = c ∧ Machine.nearerOfTwo q u c c' = c := by
  have hd := h.eligible.2
  have hd' := h'.eligible.2
  have ho := ownPair_iff h
  have ho' := ownPair_iff h'
  unfold Machine.nearerOfTwo
  simp only [← hd, ← hd']
  rcases hp with hlt | ⟨rfl, ⟨hown, hnot⟩ | ⟨hiff, hid⟩⟩
  · simp [hlt, Nat.not_lt.mpr (Nat.le_of_lt hlt)]
  · simp [ho.mp hown, Bool.not_eq_true _ |>.mp fun e => hnot (ho'.mpr e)]
  · have heq : c.onOwnPair q = c'.onOwnPair q := Bool.eq_iff_iff.mpr (ho.symm.trans (hiff.trans ho'))
    simp [heq, hid, Nat.not_lt.mpr (Nat.le_of_lt hid)]

theorem nearerOfTwo_self (q : PosIx) (u : Tick) (a : Candidate) : nearerOfTwo q u a a = a :=
  (nearerOfTwo_eq_or q u a a).elim id id

theorem Joins.congr {k : LaneIx} (hc : t.former.candidates = s.former.candidates) (hp : t.prof.active = s.prof.active)
    (hn : t.now = s.now) (h : Joins s q u k c) : Joins t q u k c := by
  obtain ⟨d, hd, hbest, hdue⟩ := h
  refine ⟨d, hd.congr hp, fun k' c' d' hm hne he => hbest k' c' d' (hc ▸ hm) hne (he.congr hp.symm), fun v hv => ?_⟩
  have := hdue v hv
  rwa [State.laneEntry, ← hp, ← hn] at this

theorem Opens.congr (hc : t.former.candidates = s.former.candidates) (hp : t.prof.active = s.prof.active)
    (h : Opens s q u) : Opens t q u :=
  ⟨fun k c hm d he => h.1 k c (hc ▸ hm) d (he.congr hp.symm), hc.symm ▸ h.2⟩

/-- No candidate is chosen where none is eligible. -/
theorem chooseCandidate_none (hs : FormerLimits s)
    (h : ∀ k : LaneIx, ∀ c ∈ s.former.candidates[k], ∀ d, ¬ Eligible s c q u d) : s.chooseCandidate q u = none := by
  have hnil : (s.openCandidates.map (·.2)).filter (fun c => c.eligible q u s.prof.active.site.window) = [] := by
    refine List.filter_eq_nil_iff.mpr fun c hc he => ?_
    obtain ⟨⟨k, c⟩, hm, rfl⟩ := List.mem_map.mp hc
    have hm := mem_openCandidates.mp hm
    exact h k c hm _ (eligible_of (hs.sides k c hm).2 he)
  simp only [State.chooseCandidate, hnil]

/-- The preferred candidate is chosen. -/
theorem chooseCandidate_some (hs : FormerLimits s) {k : LaneIx} (hc : c ∈ s.former.candidates[k]) (hj : Joins s q u k c) :
    s.chooseCandidate q u = some c := by
  obtain ⟨d, he, hbest, -⟩ := hj
  have hmem : c ∈ (s.openCandidates.map (·.2)).filter (fun c => c.eligible q u s.prof.active.site.window) :=
    List.mem_filter.mpr ⟨List.mem_map.mpr ⟨(k, c), mem_openCandidates.mpr hc, rfl⟩, he.eligible.1⟩
  have hall : ∀ c' ∈ (s.openCandidates.map (·.2)).filter (fun c => c.eligible q u s.prof.active.site.window),
      c' = c ∨ (nearerOfTwo q u c' c = c ∧ nearerOfTwo q u c c' = c) := by
    intro c' hc'
    obtain ⟨hopen, helig⟩ := List.mem_filter.mp hc'
    obtain ⟨⟨k', c'⟩, hm, rfl⟩ := List.mem_map.mp hopen
    have hm := mem_openCandidates.mp hm
    by_cases hne : c' = c
    · exact .inl hne
    · have he' := eligible_of (hs.sides k' c' hm).2 helig
      exact .inr ((hbest k' c' _ hm hne he').nearerOfTwo he he')
  unfold State.chooseCandidate
  generalize (s.openCandidates.map (·.2)).filter (fun c => c.eligible q u s.prof.active.site.window) = l at hmem hall
  cases l with
  | nil => simp at hmem
  | cons a rest =>
    refine congrArg some (foldl_choice_best (nearerOfTwo_self q u c) (nearerOfTwo_eq_or q u) ?_ hall)
    exact (List.mem_cons.mp hmem).imp Eq.symm id

end

/-! ### A wheel-start event (R67, R69) -/

section
variable {s : State} {x : Side}

/-- A side that finds no candidate opens one of its own. -/
theorem wheelStart_opens (hs : FormerLimits s) (ho : Opens s x.pos x.start) (hstands : s.sideStands x = true) :
    s.wheelStart x = s.openCandidate (posLane x.pos) x := by
  have hroom : s.makeRoom (posLane x.pos) = s := if_neg (Nat.not_le.mpr ho.2)
  simp only [State.wheelStart, chooseCandidate_none hs ho.1, hroom, hstands, if_true]

/-- The other candidates of a lane have other numbers. -/
theorem FormerLimits.ids_ne (hs : FormerLimits s) {k : LaneIx} {pre post : List Candidate} {c : Candidate}
    (hc : s.former.candidates[k] = pre ++ c :: post) : ∀ d ∈ pre ++ post, d.id ≠ c.id := by
  have hnodup : (s.former.candidates[k].map (·.id)).Nodup :=
    (List.nodup_flatMap.mp hs.distinct).1 k (List.mem_finRange k)
  rw [hc, List.map_append, List.map_cons] at hnodup
  obtain ⟨-, hpost, hdisj⟩ := List.nodup_append.mp hnodup
  intro d hd e
  rcases List.mem_append.mp hd with hd | hd
  · exact hdisj _ (List.mem_map_of_mem hd) _ (List.mem_cons_self ..) e
  · exact (List.nodup_cons.mp hpost).1 (e ▸ List.mem_map_of_mem (f := (·.id)) hd)

/-- A change of one candidate, told by its number, writes its lane's list. -/
theorem mapCandidate_eq (hs : FormerLimits s) {k : LaneIx} {pre post : List Candidate} {c : Candidate}
    (hc : s.former.candidates[k] = pre ++ c :: post) (f : Candidate → Candidate) :
    s.mapCandidate c.id f = s.setCandidates k (pre ++ f c :: post) := by
  have hmem : c ∈ s.former.candidates[k] := by rw [hc]; simp
  have hothers : ∀ y ∈ pre ++ post, (if y.id = c.id then f y else y) = y := fun y hy => if_neg (hs.ids_ne hc y hy)
  refine congrArg (fun v => s.setFormer { s.former with candidates := v }) (Vector.ext fun i hi => ?_)
  rw [Vector.getElem_map, Vector.getElem_set]
  split
  · rename_i hk
    subst hk
    have : s.former.candidates[k.val] = pre ++ c :: post := hc
    rw [this, map_changes_one hothers, if_pos rfl]
  · rename_i hk
    refine (List.map_congr_left fun y hy => if_neg fun e => ?_).trans (List.map_id _)
    exact hk (congrArg Fin.val (hs.eq_of_id (l := ⟨i, hi⟩) hy hmem e).1).symm

/-- A side joins the candidate it prefers, whose deadline does not pass by it. -/
theorem wheelStart_joins (hs : FormerLimits s) (hx : sideHasHit x = true) {k : LaneIx} {pre post : List Candidate}
    {c : Candidate} (hc : s.former.candidates[k] = pre ++ c :: post) (hj : Joins s x.pos x.start k c) :
    s.wheelStart x = s.setCandidates k (pre ++ { c with sides := c.sides ++ [x] } :: post) := by
  have hmem : c ∈ s.former.candidates[k] := by rw [hc]; simp
  obtain ⟨-, ⟨y, -, hy, -⟩, -, hdue⟩ := id hj
  have hjoined := hs.joined hmem hy hx
  have hmap := mapCandidate_eq hs hc (fun d => { d with sides := d.sides ++ [x] })
  rw [hmap] at hjoined
  have hin : { c with sides := c.sides ++ [x] } ∈
      (s.setCandidates k (pre ++ { c with sides := c.sides ++ [x] } :: post)).former.candidates[k] := by
    rw [setCandidates_candidates, if_pos rfl]
    simp
  have hfind := hjoined.findCandidate hin
  have hstart : ({ c with sides := c.sides ++ [x] } : Candidate).firstStart = earlierOf y.start x.start :=
    firstStart_of_two (by rw [hy]; rfl)
  have hyhit := startsAt_start ((hs.sides k c hmem).2 y (by simp [hy]))
  have hnot : (s.setCandidates k (pre ++ { c with sides := c.sides ++ [x] } :: post)).candidateOverdue k
      { c with sides := c.sides ++ [x] } = false := by
    have := hdue (earlierOf y.start x.start) (by
      rcases earlierOf_eq_or y.start x.start with e | e <;> rw [e]
      · exact .inr ⟨y, hy, hyhit⟩
      · exact .inl rfl)
    rw [← hstart] at this
    exact this
  simp only [State.wheelStart, chooseCandidate_some hs hmem hj, hmap]
  rw [hfind]
  simp only [hnot, Bool.false_eq_true, if_false]

end

end Sys2Proof.Machine
end

section
/-! PROOFS. The axle former's rules: miss notices (R15, R16, R75), completion (R69 to R71), and the axle that opens a
frame (R76 to R78). -/

namespace Sys2Proof.Machine

open Sys2Proof

/-! ### The channel at a row and position (R1) -/

section
variable {s t : State} {r : StripRow} {q : PosIx}

theorem channelAt_mapped {c : ChanIx} (h : s.channelAt r q = some c) : MappedAt s r q c := by
  have := List.find?_some h
  simp only [Bool.and_eq_true, decide_eq_true_eq] at this
  obtain ⟨⟨hlane, hside⟩, hrow⟩ := this
  exact ⟨hlane, hside, hrow⟩

theorem channelAt_none (h : s.channelAt r q = none) (c : ChanIx) : ¬ MappedAt s r q c := fun ⟨hlane, hside, hrow⟩ => by
  have := List.find?_eq_none.mp h c (List.mem_finRange c)
  simp [hlane, hside, hrow] at this

theorem channelAt_only {b : ChanIx} (h : OnlyMappedAt s r q b) : s.channelAt r q = some b := by
  cases hc : s.channelAt r q with
  | none => exact absurd h.1 (channelAt_none hc b)
  | some c => rw [h.2 c (channelAt_mapped hc)]

/-! ### Notices (R15, R16, R75) -/

/-- A notice goes to the channel mapped at the row and position. -/
theorem missAt_sent (s : State) (r : StripRow) (q : PosIx) : NoticeSent r q s (s.missAt r q).1 := by
  unfold State.missAt
  split
  · exact ⟨fun b hb => absurd hb.1 (channelAt_none ‹_› b), fun _ => ⟨rfl, rfl⟩⟩
  · rename_i c hc
    refine ⟨fun b hb => ?_, fun hnone => absurd (channelAt_mapped hc) (hnone c)⟩
    obtain rfl := hb.2 c (channelAt_mapped hc)
    exact missNotice_taken s c

/-- Whether a notice has gone out reads the strip map, the channels and the ports alone. -/
theorem NoticeSent.congr {s' t' : State} (h : NoticeSent r q s t) (hmap : s'.prof.active = s.prof.active)
    (hstrip : s'.strip = s.strip) (hports : s'.ports = s.ports) (hstrip' : t'.strip = t.strip)
    (hports' : t'.ports = t.ports) : NoticeSent r q s' t' := by
  have hmapped : ∀ b, MappedAt s' r q b ↔ MappedAt s r q b := fun b => by
    simp only [MappedAt, State.stripEntry, hmap]
  refine ⟨fun b hb => ?_, fun hnone => ?_⟩
  · obtain ⟨hothers, hcounted, hdead, hignored⟩ := h.1 b ⟨(hmapped b).mp hb.1, fun k hk => hb.2 k ((hmapped k).mpr hk)⟩
    refine ⟨?_, ?_, ?_, ?_⟩ <;> rw [hstrip, hstrip']
    · exact hothers
    · rw [hports, hports']
      exact hcounted
    · intro hc hm
      obtain ⟨hch, hcab, hsvc, hstream⟩ := hdead hc hm
      refine ⟨hch, ?_, ?_, ?_⟩ <;> rw [hports, hports']
      · exact hcab
      · exact hsvc
      · exact hstream
    · rw [hports, hports']
      exact hignored
  · obtain ⟨h1, h2⟩ := h.2 fun b hb => hnone b ((hmapped b).mpr hb)
    exact ⟨by rw [hstrip, hstrip', h1], by rw [hports, hports', h2]⟩

/-- A notice that makes no channel DEAD withdraws nothing. -/
theorem missAt_alive (h : ∀ b, MappedAt s r q b → ¬ CountsMisses s.strip.channels[b] ∨ s.strip.channels[b].miss < 31) :
    (s.missAt r q).2 = [] ∧ (s.missAt r q).1.former = s.former := by
  unfold State.missAt
  split
  · exact ⟨rfl, rfl⟩
  · rename_i c hc
    rw [missNotice_eq]
    by_cases hcounts : CountsMisses s.strip.channels[c]
    · have hmiss := (h c (channelAt_mapped hc)).resolve_left (not_not_intro hcounts)
      rw [if_pos hcounts, if_pos (by omega)]
      exact ⟨rfl, rfl⟩
    · rw [if_neg hcounts]
      exact ⟨rfl, rfl⟩

/-- A notice to the one channel mapped there, below its 32nd miss, counts. -/
theorem missAt_counted {b : ChanIx} (hb : OnlyMappedAt s r q b) (hcounts : CountsMisses s.strip.channels[b])
    (hmiss : s.strip.channels[b].miss < 31) :
    s.missAt r q = (s.setChannel b { s.strip.channels[b] with miss := s.strip.channels[b].miss + 1 }, []) := by
  have hmin : min (s.strip.channels[b].miss + 1) 255 = s.strip.channels[b].miss + 1 := by omega
  simp only [State.missAt, channelAt_only hb, missNotice_eq, if_pos hcounts, hmin]
  rw [if_pos (by omega)]

/-! ### A notice that withdraws hits (R16, R72) -/

/-- Where every candidate loses its whole waiting side or none, a withdrawal leaves the others as they are. -/
theorem filter_withdrawn {f : Candidate → Candidate} {g : Candidate → Bool} {cs : List Candidate}
    (h : ∀ c ∈ cs, (g c = true ∧ f c = c ∧ c.sides ≠ []) ∨ (g c = false ∧ (f c).sides = [])) :
    (cs.map f).filter (fun c => !c.sides.isEmpty) = cs.filter g := by
  induction cs with
  | nil => rfl
  | cons c rest ih =>
    have ih := ih fun d hd => h d (by simp [hd])
    rcases h c (by simp) with ⟨hg, hf, hne⟩ | ⟨hg, hf⟩
    · rw [List.map_cons, hf, List.filter_cons_of_pos (by simpa using hne), List.filter_cons_of_pos hg, ih]
    · rw [List.map_cons, List.filter_cons_of_neg (by simp [hf]), List.filter_cons_of_neg (by simp [hg]), ih]

theorem orphaned_one {c : Candidate} {y : HitRec} (h : c.sides = [.waiting y]) :
    orphaned s t c = decide (t.strip.channels[y.channel].state ≠ s.strip.channels[y.channel].state) := by
  simp only [orphaned, h]

theorem orphaned_eq_false {c : Candidate} (h : ∀ k : ChanIx, t.strip.channels[k].state = s.strip.channels[k].state) :
    orphaned s t c = false := by
  unfold orphaned
  split
  · exact decide_eq_false (not_not_intro (h _))
  · rfl

/-- Between two states where one channel alone has changed its state, a candidate loses all of its waiting sides or none. -/
theorem without_channel {b : ChanIx} {c : Candidate} (hb : t.strip.channels[b].state ≠ s.strip.channels[b].state)
    (hothers : ∀ k : ChanIx, k ≠ b → t.strip.channels[k].state = s.strip.channels[k].state) (hc : LosesAllOrNone b c) :
    ((!orphaned s t c) = true ∧ c.without (fun h => decide (h.channel = b)) = c ∧ c.sides ≠ [])
      ∨ ((!orphaned s t c) = false ∧ (c.without (fun h => decide (h.channel = b))).sides = []) := by
  rcases hc with ⟨y, hy⟩ | ⟨hne, hnone⟩
  · by_cases hch : y.channel = b
    · subst hch
      exact .inr ⟨by rw [orphaned_one hy, decide_eq_true hb]; rfl, by simp [Candidate.without, hy]⟩
    · refine .inl ⟨?_, without_eq_self fun x hx => ?_, by simp [hy]⟩
      · rw [orphaned_one hy, decide_eq_false (not_not_intro (hothers _ hch))]
        rfl
      · obtain rfl : x = y := by simpa [hy] using hx
        exact decide_eq_false hch
  · refine .inl ⟨?_, without_eq_self fun x hx => decide_eq_false (hnone x hx), hne⟩
    have hkept : orphaned s t c = false := by
      unfold orphaned
      split
      · rename_i y hy
        exact decide_eq_false (not_not_intro (hothers _ (hnone y (by simp [hy]))))
      · rfl
    rw [hkept]
    rfl

/-- What a notice leaves of the axle former: a channel that it makes DEAD loses its waiting hits, and with them the
candidates that wait for one of them alone. -/
structure Bereft (s t : State) : Prop where
  candidates : ∀ k : LaneIx, t.former.candidates[k] = s.former.candidates[k].filter (fun c => !orphaned s t c)
  waiting : ∀ r q, t.waiting r q = (s.waiting r q).filter
    (fun y => decide (t.strip.channels[y.channel].state = s.strip.channels[y.channel].state))
  nextId : t.former.nextId = s.former.nextId
  late : t.former.late = s.former.late

theorem Bereft.of_states (h : ∀ k : ChanIx, t.strip.channels[k].state = s.strip.channels[k].state)
    (hf : t.former = s.former) : Bereft s t where
  candidates k := by
    rw [hf]
    exact (List.filter_eq_self.mpr fun c _ => by rw [orphaned_eq_false h]; rfl).symm
  waiting r q := by
    rw [waiting_of_former_eq hf]
    exact (List.filter_eq_self.mpr fun y _ => decide_eq_true (h _)).symm
  nextId := by rw [hf]
  late := by rw [hf]

/-- A miss notice, where every candidate loses all its sides or none. -/
theorem missNotice_bereft {b : ChanIx} (h : ∀ (k : LaneIx), ∀ c ∈ s.former.candidates[k], LosesAllOrNone b c) :
    Bereft s (s.missNotice b).1 ∧ (s.missNotice b).2 = [] := by
  have hset : ∀ ch : Channel, ∀ k : ChanIx, k ≠ b → (s.setChannel b ch).strip.channels[k].state = s.strip.channels[k].state :=
    fun ch k hk => by rw [setChannel_channel_ne s hk]
  rw [missNotice_eq]
  by_cases hcounts : CountsMisses s.strip.channels[b]
  · rw [if_pos hcounts]
    by_cases hmiss : min (s.strip.channels[b].miss + 1) 255 < 32
    · rw [if_pos hmiss]
      refine ⟨.of_states (fun k => ?_) rfl, rfl⟩
      by_cases hk : k = b
      · subst hk
        rw [setChannel_channel]
      · exact hset _ k hk
    · rw [if_neg hmiss]
      dsimp only
      generalize hdead : ({ s.strip.channels[b] with miss := min (s.strip.channels[b].miss + 1) 255, state := .dead } : Channel)
        = dead
      generalize hu : ((s.setChannel b dead).raiseAt .channelState b.val) = u
      have hstrip : u.strip = (s.setChannel b dead).strip := by rw [← hu]; rfl
      have hformer : u.former = s.former := by rw [← hu]; rfl
      have hb : u.strip.channels[b].state ≠ s.strip.channels[b].state := by
        rw [hstrip, setChannel_channel, ← hdead]
        rcases hcounts with e | e <;> rw [e] <;> exact fun h => by cases h
      have hothers : ∀ k : ChanIx, k ≠ b → u.strip.channels[k].state = s.strip.channels[k].state := fun k hk => by
        rw [hstrip]
        exact hset _ k hk
      have hlose : ∀ (k : LaneIx), ∀ c ∈ s.former.candidates[k], _ := fun k c hc => without_channel hb hothers (h k c hc)
      refine ⟨⟨fun k => ?_, fun r q => ?_, (congrArg AxleFormer.nextId hformer :), (congrArg AxleFormer.late hformer :)⟩,
        overdueAfterWithdrawal_eq_nil fun l c hc => ?_⟩
      · have : (u.withdrawHits (fun h => decide (h.channel = b))).former.candidates[k] =
            (s.former.candidates[k].map (Candidate.without (fun h => decide (h.channel = b)))).filter
              (fun c => !c.sides.isEmpty) := by
          rw [← hformer]
          simp only [State.withdrawHits, State.setFormer_former, Fin.getElem_fin, Vector.getElem_map]
        rw [this]
        exact filter_withdrawn (hlose k)
      · rw [waiting_withdrawHits, waiting_of_former_eq hformer]
        refine List.filter_congr fun y _ => ?_
        by_cases hy : y.channel = b
        · subst hy
          rw [decide_eq_true rfl]
          exact (decide_eq_false hb).symm
        · rw [decide_eq_false hy]
          exact (decide_eq_true (hothers _ hy)).symm
      · rw [hformer] at hc
        exact (hlose l c hc).imp (fun e => e.2.1) fun e => e.2
  · rw [if_neg hcounts]
    exact ⟨.of_states (fun _ => rfl) rfl, rfl⟩

/-- A notice to a row and position, where every candidate loses all its sides or none. -/
theorem missAt_bereft (h : ∀ (k : LaneIx), ∀ c ∈ s.former.candidates[k], ∀ b, MappedAt s r q b → LosesAllOrNone b c) :
    Bereft s (s.missAt r q).1 ∧ (s.missAt r q).2 = [] := by
  unfold State.missAt
  split
  · exact ⟨.of_states (fun _ => rfl) rfl, rfl⟩
  · rename_i c hc
    exact missNotice_bereft fun k d hd => h k d hd c (channelAt_mapped hc)

end

end Sys2Proof.Machine
end

section
/-! PROOFS. The axle former's rules: how a candidate is found, completed and taken out (R69 to R71), and the kept axle with
its flags (R76 to R78, R101). -/

namespace Sys2Proof.Machine

open Sys2Proof

/-! ### Completion of one candidate (R69 to R71) -/

section
variable {s : State} {l : LaneIx} {c : Candidate}

theorem aheadOf_none (h : ∀ d ∈ s.former.candidates[l], d.id ≠ c.id → isLater c.firstStart d.firstStart = false) :
    s.aheadOf l c = none := by
  have hnil : s.former.candidates[l].filter (fun d => decide (d.id ≠ c.id) && isLater c.firstStart d.firstStart) = [] := by
    refine List.filter_eq_nil_iff.mpr fun d hd he => ?_
    obtain ⟨hid, hlater⟩ := Bool.and_eq_true_iff.mp he
    rw [h d hd (of_decide_eq_true hid)] at hlater
    cases hlater
  rw [State.aheadOf, hnil]
  rfl

/-- A candidate that none is ahead of, and whose notices make no other complete, completes alone. -/
theorem complete_one {forced : Bool} (hfind : s.findCandidate c.id = some (l, c)) (hahead : s.aheadOf l c = none)
    (hdone : (s.completeOne l c forced).2 = []) : s.complete [(c.id, forced)] = (s.completeOne l c forced).1 := by
  have hstop : ∀ n u, State.completeInTurn n [] u = u := fun n u => by cases n <;> rfl
  simp only [State.complete, List.length_singleton, State.completeInTurn, hfind, hahead, hdone, List.map_nil, List.nil_append,
    hstop]

/-- A candidate stands in lane `l`, none of the lane starts before it, and no other has its number. -/
structure Foremost (s : State) (l : LaneIx) (pre : List Candidate) (c : Candidate) (post : List Candidate) : Prop where
  listed : s.former.candidates[l] = pre ++ c :: post
  ids : ∀ d ∈ pre ++ post, d.id ≠ c.id
  first : ∀ d ∈ pre ++ post, isLater c.firstStart d.firstStart = false
  elsewhere : ∀ k : LaneIx, k ≠ l → ∀ d ∈ s.former.candidates[k], d.id ≠ c.id

namespace Foremost

variable {pre post : List Candidate}

theorem find (h : Foremost s l pre c post) : s.findCandidate c.id = some (l, c) := by
  refine findCandidate_eq (by rw [h.listed]; simp) fun k d hd he => ?_
  by_cases hk : k = l
  · subst hk
    rw [h.listed] at hd
    refine ⟨rfl, by_contra fun hne => h.ids d ?_ he⟩
    simpa [hne] using hd
  · exact absurd he (h.elsewhere k hk d hd)

/-- It completes alone where its notices make no other complete. -/
theorem complete (h : Foremost s l pre c post) {forced : Bool} (hdone : (s.completeOne l c forced).2 = []) :
    s.complete [(c.id, forced)] = (s.completeOne l c forced).1 := by
  refine complete_one h.find (aheadOf_none fun d hd hne => h.first d ?_) hdone
  rw [h.listed] at hd
  have : d ≠ c := fun e => hne (by rw [e])
  simpa [this] using hd

theorem left (h : Foremost s l pre c post) :
    s.former.candidates[l].filter (fun d => decide (d.id ≠ c.id)) = pre ++ post := by
  rw [h.listed]
  exact filter_drops_one (decide_eq_false (not_not_intro rfl)) fun d hd => decide_eq_true (h.ids d hd)

end Foremost

theorem takeOut_candidates (s : State) (l k : LaneIx) (c : Candidate) :
    (s.takeOut l c).former.candidates[k] = if l = k then s.former.candidates[l].filter (fun d => decide (d.id ≠ c.id))
      else s.former.candidates[k] := by
  simp only [State.takeOut, State.setFormer_former, alter, Fin.getElem_fin, Vector.getElem_set, Fin.ext_iff]

theorem waiting_takeOut (s : State) (l : LaneIx) (c : Candidate) (r : StripRow) (q : PosIx) :
    (s.takeOut l c).waiting r q = (s.waiting r q).filter (fun h => !c.sides.any (Side.awaits h)) := by
  cases r <;> simp [State.takeOut, State.waiting]

theorem map_filter_true {n : Nat} {v : Vector (List HitRec) n} {p : HitRec → Bool} (h : ∀ y, p y = true) :
    v.map (fun hs => hs.filter p) = v := by
  refine Vector.ext fun i hi => ?_
  rw [Vector.getElem_map]
  exact List.filter_eq_self.mpr fun y _ => h y

/-- A candidate of formed wheels leaves its lane and nothing else. -/
theorem takeOut_formed (h : ∀ y, Side.waiting y ∉ c.sides) :
    s.takeOut l c = s.setCandidates l (s.former.candidates[l].filter (fun d => decide (d.id ≠ c.id))) := by
  have hnone : ∀ y : HitRec, (!c.sides.any (Side.awaits y)) = true := fun y => by
    rw [Bool.not_eq_true', ← Bool.not_eq_true, any_awaits_iff]
    exact h y
  simp only [State.takeOut, State.setCandidates, alter]
  rw [map_filter_true hnone, map_filter_true hnone]

end

/-! ### The kept axle (R76 to R78) -/

/-- The axle record that a kept axle is handed on with: that of the axle former, loaded. -/
def State.keptAxle (s : State) (l holding : LaneIx) (time : Tick) (ws : List Wheel) (seen : List AxleWheel)
    (straddle forced : Bool) : AxleRec :=
  s.loadAxle (s.axleRecord l holding time ws seen straddle forced)

section
variable {s u : State} {l holding : LaneIx} {time : Tick} {ws : List Wheel} {seen : List AxleWheel} {straddle forced : Bool}

/-- An axle of one lane opens the frame of its lane, if that is active and has none. -/
theorem deliverAxle_opens (hlanes : wheelLanes ws holding = (l, l)) (hactive : s.laneActive l = true)
    (hframe : s.asm.frames[l] = none) : s.deliverAxle holding time ws seen forced
      = s.openFrame (s.keptAxle l holding time ws seen false forced) := by
  have hlate : s.isLateAxle l time = false := by simp [State.isLateAxle, hframe]
  have hhand : ∀ a : AxleRec, a.lane = l → s.handOn a = s.openFrame a := fun a ha => by
    subst ha
    simp only [State.handOn, hframe]
  simp only [State.deliverAxle, hlanes, ne_eq, not_true_eq_false, decide_false, Bool.false_eq_true, if_false, hactive,
    Bool.not_true, hlate]
  exact hhand _ rfl

/-- A straddle axle is kept or discarded by the lane it is assigned to. -/
theorem deliverAxle_straddle {n m k : LaneIx} (hlanes : wheelLanes ws holding = (n, m)) (hne : n ≠ m)
    (hk : s.assignStraddle n m time (wheelPairSpeed ws) = k) : s.deliverAxle holding time ws seen forced =
      if s.laneActive k = false then s
      else if s.isLateAxle k time = true then s.setFormer { s.former with late := alter s.former.late k (satSucc 65535) }
      else s.handOn (s.keptAxle k holding time ws seen true forced) := by
  simp only [State.deliverAxle, hlanes, ne_eq, hne, not_false_eq_true, decide_true, if_true, hk]
  cases s.laneActive k <;> rfl

theorem loadAxle_wheels_length (s : State) (a : AxleRec) : (s.loadAxle a).wheels.length = a.wheels.length := by
  unfold State.loadAxle
  dsimp only
  split
  · rfl
  · rw [List.length_map]

/-! ### The flags of an axle (R78, R101) -/

/-- The flags that the load engine sets on an axle. -/
def loadFlags : List Flag :=
  [.lowSpd, .highSpd, .clip, .unweighed, .oneRow, .rowSplit, .sat, .tempHeld, .tempStale, .tempNone]

theorem hasFlag_wheelTempFlags {f : Flag} (hf : f ∉ loadFlags) (ws : List AxleWheel) :
    hasFlag (s.wheelTempFlags ws) f = false := by
  rw [State.wheelTempFlags, hasFlag_unionFlags, List.any_eq_false]
  intro x hx
  obtain ⟨w, -, rfl⟩ := List.mem_map.mp hx
  rw [hasFlag_tempFlag_eq_false (fun h => hf (by revert h; simp only [loadFlags, List.mem_cons, List.not_mem_nil]; tauto))]
  exact Bool.false_ne_true

theorem weighWheel_other {f : Flag} (hf : f ∉ loadFlags) (v : Nat) (w : AxleWheel) :
    hasFlag (s.weighWheel v w).flags f = hasFlag w.flags f := by
  simp only [loadFlags, List.mem_cons, List.not_mem_nil, not_or] at hf
  obtain ⟨hlow, hhigh, hclip, hunweighed, hone, hsplit, hsat, -⟩ := hf
  rw [s.hasFlag_weighWheel v w hlow hhigh, hasFlag_usableHits hclip hunweighed, hasFlag_combineRows hone hsplit hsat,
    Bool.or_false, Bool.or_false]

/-- But for the flags of the load engine, a loaded axle's flags are its own and those of its wheels. -/
theorem hasFlag_loadAxle {f : Flag} (hf : f ∉ loadFlags) (a : AxleRec) :
    hasFlag (s.loadAxle a).flags f = (hasFlag a.flags f || a.wheels.any (fun w => hasFlag w.flags f)) := by
  have hsat : f ≠ .sat := fun h => hf (by rw [h]; decide)
  have htemp := fun ws => hasFlag_wheelTempFlags (s := s) hf ws
  unfold State.loadAxle
  cases a.speed with
  | none => simp [htemp, hsat.symm, Function.comp_def]
  | some v => simp [htemp, hsat.symm, Function.comp_def, weighWheel_other hf]

theorem hasFlag_axleWheel (w : Wheel) (f : Flag) : hasFlag (s.axleWheel w).flags f
    = ((w.oneRow && decide (Flag.oneRow = f)) || (w.reverse && decide (Flag.reverse = f))) := by
  simp [State.axleWheel]

/-- But for the flags of the load engine, a kept axle's flags are those the axle former gives it. -/
theorem hasFlag_keptAxle {f : Flag} (hf : f ∉ loadFlags) :
    hasFlag (s.keptAxle l holding time ws (ws.map u.axleWheel) straddle forced).flags f
      = hasFlag (formerFlags ws straddle forced (s.axleSpeed l ws).2) f := by
  have hone : Flag.oneRow ≠ f := fun h => hf (by rw [← h]; decide)
  rw [State.keptAxle, hasFlag_loadAxle hf]
  simp only [State.axleRecord, List.any_map, Function.comp_def, hasFlag_axleWheel, hone, decide_false, Bool.and_false,
    Bool.false_or]
  by_cases hr : Flag.reverse = f
  · subst hr
    simp only [formerFlags, hasFlag_or, hasFlag_flagIf, decide_true, Bool.and_true]
    cases ws.any (fun w => w.reverse) <;> simp
  · simp [hr]

theorem keptAxle_single : hasFlag (s.keptAxle l holding time ws (ws.map u.axleWheel) straddle forced).flags .single
    = decide (ws.length = 1) := by
  rw [hasFlag_keptAxle (by decide)]
  cases (s.axleSpeed l ws).2 <;> simp [formerFlags, sourceFlag]

theorem keptAxle_straddle : hasFlag (s.keptAxle l holding time ws (ws.map u.axleWheel) straddle forced).flags .straddle
    = straddle := by
  rw [hasFlag_keptAxle (by decide)]
  cases (s.axleSpeed l ws).2 <;> simp [formerFlags, sourceFlag]

theorem keptAxle_forced : hasFlag (s.keptAxle l holding time ws (ws.map u.axleWheel) straddle forced).flags .forced
    = forced := by
  rw [hasFlag_keptAxle (by decide)]
  cases (s.axleSpeed l ws).2 <;> simp [formerFlags, sourceFlag]

theorem keptAxle_reverse : hasFlag (s.keptAxle l holding time ws (ws.map u.axleWheel) straddle forced).flags .reverse
    = ws.any (·.reverse) := by
  rw [hasFlag_keptAxle (by decide)]
  cases (s.axleSpeed l ws).2 <;> simp [formerFlags, sourceFlag]

theorem keptAxle_noSpeed : hasFlag (s.keptAxle l holding time ws (ws.map u.axleWheel) straddle forced).flags .noSpeed
    = decide ((s.axleSpeed l ws).2 = .none) := by
  rw [hasFlag_keptAxle (by decide)]
  cases (s.axleSpeed l ws).2 <;> simp [formerFlags, sourceFlag]

theorem keptAxle_speedHeld : hasFlag (s.keptAxle l holding time ws (ws.map u.axleWheel) straddle forced).flags .speedHeld
    = decide ((s.axleSpeed l ws).2 = .held) := by
  rw [hasFlag_keptAxle (by decide)]
  cases (s.axleSpeed l ws).2 <;> simp [formerFlags, sourceFlag]

theorem hasFlag_loadAxle_of_axle {a : AxleRec} {f : Flag} (h : hasFlag a.flags f = true) :
    hasFlag (s.loadAxle a).flags f = true := by
  unfold State.loadAxle
  simp [h]

/-- A one-row wheel makes its axle ONE_ROW. -/
theorem keptAxle_oneRow_of_wheel (h : ws.any Wheel.oneRow = true) :
    hasFlag (s.keptAxle l holding time ws seen straddle forced).flags .oneRow = true := by
  refine hasFlag_loadAxle_of_axle ?_
  simp [State.axleRecord, formerFlags, h]

/-- A weighed wheel is ONE_ROW if it was so or has one usable row (R98). -/
theorem weighWheel_oneRow (v : Nat) (w : AxleWheel) : hasFlag (s.weighWheel v w).flags .oneRow
    = (hasFlag w.flags .oneRow || decide ((usableHits w.hits).1.length = 1)) := by
  rw [s.hasFlag_weighWheel v w (by decide) (by decide), hasFlag_usableHits (by decide) (by decide), Bool.or_false,
    State.usableEstimates]
  congr 1
  match (usableHits w.hits).1 with
  | [] => simp [combineRows]
  | [_] => simp [combineRows]
  | _ :: _ :: _ => simp [combineRows]

/-- Two hits leave one usable row if one's channel is NORMAL and the other's is not, or if neither is NORMAL and just one is
DEGRADED (R96). -/
theorem usableHits_pair_iff (x y : SeenHit) : (usableHits [x, y]).1.length = 1 ↔
    (x.state = .normal ∧ y.state ≠ .normal) ∨ (x.state ≠ .normal ∧ y.state = .normal)
      ∨ (x.state = .degraded ∧ ¬ (y.state = .normal ∨ y.state = .degraded))
      ∨ (¬ (x.state = .normal ∨ x.state = .degraded) ∧ y.state = .degraded) := by
  obtain ⟨_, a⟩ := x
  obtain ⟨_, b⟩ := y
  cases a <;> cases b <;> simp [usableHits]

theorem usableHits_one_iff (x y : HitRec) : (usableHits [s.see x, s.see y]).1.length = 1 ↔ OneUsableRow s x y :=
  usableHits_pair_iff _ _

end

end Sys2Proof.Machine
end

section
/-! PROOFS. The trailing hit: it pairs with a waiting hit, or forms a one-row wheel (R64, R65, O24). -/

namespace Sys2Proof.Machine

open Sys2Proof

/-! ### The speed of two hits (R64) -/

theorem pairSpeed_eq_some_iff {spacing v : Nat} {lead trail : HitRec} :
    pairSpeed spacing lead trail = some v ↔ PairsAt spacing lead trail v := by
  unfold pairSpeed PairsAt roundHalfUp
  by_cases hlater : isLater trail.start lead.start = true
  · obtain ⟨hpos, hlt⟩ := isLater_iff.mp hlater
    simp only [hlater, if_true, hpos, hlt, true_and]
    constructor
    · intro h
      split at h
      · rename_i hrange
        obtain rfl := Option.some.inj h
        exact ⟨rfl, hrange⟩
      · cases h
    · rintro ⟨rfl, hrange⟩
      rw [if_pos hrange]
  · rw [if_neg hlater]
    exact ⟨nofun, fun ⟨hpos, hlt, _⟩ => absurd (isLater_iff.mpr ⟨hpos, hlt⟩) hlater⟩

theorem pairSpeed_isSome_iff {spacing : Nat} {lead trail : HitRec} :
    (pairSpeed spacing lead trail).isSome = true ↔ ∃ v, PairsAt spacing lead trail v := by
  simp only [Option.isSome_iff_exists, pairSpeed_eq_some_iff]

/-! ### Pairing -/

/-- The wheel of two paired hits (R64). -/
def pairedWheel (lead trail : HitRec) (v : Nat) (reverse : Bool) : Wheel :=
  { pos := trail.pos, lead := some lead, trail := some trail, speed := if reverse then none else some v, reverse := reverse }

/-- A candidate whose side waited for `lead` and now is the wheel `w`. -/
def Candidate.paired (c : Candidate) (lead : HitRec) (w : Wheel) : Candidate :=
  { c with sides := c.sides.map (fun x => if Side.awaits lead x then .formed w else x) }

theorem setWaiting_openCandidates (s : State) (r : StripRow) (q : PosIx) (hs : List HitRec) :
    (s.setWaiting r q hs).openCandidates = s.openCandidates := by
  unfold State.openCandidates
  rw [setWaiting_candidates]

@[simp] theorem setCandidates_setCandidates (s : State) (l : LaneIx) (xs ys : List Candidate) :
    (s.setCandidates l xs).setCandidates l ys = s.setCandidates l ys := by
  simp only [State.setCandidates, State.setFormer_former]
  refine congrArg (fun v => s.setFormer { s.former with candidates := v }) (Vector.ext fun i hi => ?_)
  simp only [Vector.getElem_set]
  split <;> simp_all

section
variable {s : State} {h lead : HitRec} {skipped rest : List HitRec} {v : Nat} {reverse : Bool} {l : LaneIx}
  {pre post : List Candidate} {c : Candidate}

/-- The oldest hit that passes the test of R64 pairs. -/
theorem hitArrival_pairs (hrev : s.loops[posLane h.pos].presence = .reverse ↔ reverse = true)
    (hrow : h.row = if reverse then .rowA else .rowB) (hlead : lead.row = if reverse then .rowB else .rowA)
    (hwaiting : s.waiting lead.row h.pos = skipped ++ lead :: rest)
    (hskipped : ∀ x ∈ skipped, ∀ u, ¬ PairsAt (s.laneEntry (posLane h.pos)).rowSpacing x h u)
    (hpairs : PairsAt (s.laneEntry (posLane h.pos)).rowSpacing lead h v) :
    s.hitArrival h = s.pairHits lead h v reverse := by
  have hruns : s.runsReverse (posLane h.pos) = reverse := by
    rw [State.runsReverse]
    cases reverse <;> simp_all
  have hfind : (s.waiting (leadingRow reverse) h.pos).find?
      (fun x => (pairSpeed (s.laneEntry (posLane h.pos)).rowSpacing x h).isSome) = some lead := by
    have : leadingRow reverse = lead.row := by rw [hlead, leadingRow]
    rw [this, hwaiting]
    refine List.find?_eq_some_iff_append.mpr ⟨pairSpeed_isSome_iff.mpr ⟨v, hpairs⟩, skipped, rest, rfl, fun x hx => ?_⟩
    rw [Bool.not_eq_true', ← Bool.not_eq_true, pairSpeed_isSome_iff]
    exact fun ⟨u, hu⟩ => hskipped x hx u hu
  have hne : h.row ≠ leadingRow reverse := by
    rw [hrow, leadingRow]
    cases reverse <;> simp
  simp only [State.hitArrival, hruns, if_neg hne, State.trailingArrival, hfind, pairSpeed_eq_some_iff.mpr hpairs,
    Option.getD_some]

/-- The hit leaves its list, its side becomes the wheel, and a candidate with four hits completes. -/
theorem pairHits_eq (hpos : lead.pos = h.pos) (hwaiting : s.waiting lead.row h.pos = skipped ++ lead :: rest)
    (hskipped : lead ∉ skipped) (hrest : lead ∉ rest) (hc : s.former.candidates[l] = pre ++ c :: post)
    (hmem : .waiting lead ∈ c.sides)
    (honly : ∀ (k : LaneIx) (c' : Candidate), c' ∈ s.former.candidates[k] → .waiting lead ∈ c'.sides → k = l ∧ c' = c)
    (hids : ∀ c' ∈ pre ++ post, c'.id ≠ c.id) :
    s.pairHits lead h v reverse =
      let t := (s.setWaiting lead.row h.pos (skipped ++ rest)).setCandidates l
        (pre ++ c.paired lead (pairedWheel lead h v reverse) :: post)
      if (c.paired lead (pairedWheel lead h v reverse)).hasFourHits then t.completeIds [c.id] else t := by
  have hfind : (s.setWaiting lead.row h.pos (skipped ++ rest)).openCandidates.find?
      (fun lc => lc.2.sides.any (Side.awaits lead)) = some (l, c) := by
    rw [setWaiting_openCandidates]
    cases hf : s.openCandidates.find? (fun lc => lc.2.sides.any (Side.awaits lead)) with
    | none =>
      refine absurd ((any_awaits_iff c.sides lead).mpr hmem) ?_
      exact List.find?_eq_none.mp hf (l, c) (mem_openCandidates.mpr (by rw [hc]; simp))
    | some kd =>
      obtain ⟨k, d⟩ := kd
      obtain ⟨rfl, rfl⟩ := honly k d (mem_openCandidates.mp (List.mem_of_find?_eq_some hf))
        ((any_awaits_iff d.sides lead).mp (by simpa using List.find?_some hf))
      rfl
  have hmap : (s.setWaiting lead.row h.pos (skipped ++ rest)).former.candidates[l].map
      (fun x => if x.id = c.id then c.paired lead (pairedWheel lead h v reverse) else x)
        = pre ++ c.paired lead (pairedWheel lead h v reverse) :: post := by
    simp only [setWaiting_candidates, hc]
    rw [map_changes_one fun y hy => if_neg (hids y hy), if_pos rfl]
  unfold State.pairHits
  simp only [hpos, hwaiting, filter_ne_eq hskipped hrest]
  rw [hfind]
  exact congrArg (fun cs => if (c.paired lead (pairedWheel lead h v reverse)).hasFourHits = true
    then ((s.setWaiting lead.row h.pos (skipped ++ rest)).setCandidates l cs).completeIds [c.id]
    else (s.setWaiting lead.row h.pos (skipped ++ rest)).setCandidates l cs) hmap

/-- A candidate with four hits has two full wheels. -/
theorem hasFourHits_iff (c : Candidate) : c.hasFourHits = true ↔ c.sides.length = 2 ∧ ∀ x ∈ c.sides, FullSide x := by
  have hside : ∀ x : Side, (match x with
      | .waiting _ => false
      | .formed w => !w.oneRow) = true ↔ FullSide x := fun x => by
    cases x with
    | waiting y => simp [FullSide]
    | formed w => simp [FullSide, FullWheel, Wheel.oneRow, Option.isSome_iff_ne_none]
  rw [Candidate.hasFourHits, Bool.and_eq_true, decide_eq_true_eq, List.all_eq_true]
  exact and_congr_right fun _ => forall₂_congr fun x _ => hside x

/-- The sides of the candidate, one of them paired. -/
theorem paired_sides {xs ys : List Side} {w : Wheel} (hsides : c.sides = xs ++ .waiting lead :: ys)
    (hothers : ∀ y ∈ xs ++ ys, y ≠ .waiting lead) : (c.paired lead w).sides = xs ++ .formed w :: ys := by
  have hkeep : ∀ y ∈ xs ++ ys, (if Side.awaits lead y then Side.formed w else y) = y := fun y hy => by
    rw [awaits_eq_decide, decide_eq_false (hothers y hy)]
    rfl
  rw [Candidate.paired, hsides, map_changes_one hkeep, awaits_eq_decide, decide_eq_true rfl]
  rfl

end

end Sys2Proof.Machine
end

section
/-! PROOFS. A trailing hit that pairs: its candidate waits on, or completes with its second full wheel and opens a frame
(R64, R69, R76). -/

namespace Sys2Proof.Machine

open Sys2Proof

/-! ### Wheels of a completed candidate -/

theorem orderWheels_pair (x y : Wheel) : orderWheels [x, y] = [x, y] ∨ orderWheels [x, y] = [y, x] := by
  simp only [orderWheels]
  split
  · exact .inr rfl
  · exact .inl rfl

/-- No wheel owes a notice (R75). -/
theorem axleNotices_none {ws : List Wheel} (h : ∀ w ∈ ws, w.reverse = true ∨ w.lead = none ∨ w.trail ≠ none) (s : State) :
    State.axleNotices ws s = (s, []) := by
  induction ws with
  | nil => rfl
  | cons w rest ih =>
    have hw : (!w.reverse && w.lead.isSome && w.trail.isNone) = false := by
      rcases h w (by simp) with e | e | e
      · simp [e]
      · simp [e]
      · rw [Option.isNone_eq_false_iff.mpr (Option.isSome_iff_ne_none.mpr e), Bool.and_false]
    simp only [State.axleNotices, hw, Bool.false_eq_true, if_false]
    exact ih fun w hw => h w (by simp [hw])

/-- A candidate whose wheels owe no notice completes without one. -/
theorem completeOne_quiet {s : State} {l : LaneIx} {c : Candidate} {ws : List Wheel} (forced : Bool)
    (hws : orderWheels (c.sides.map Side.close) = ws)
    (h : ∀ w ∈ ws, w.reverse = true ∨ w.lead = none ∨ w.trail ≠ none) :
    s.completeOne l c forced = ((s.takeOut l c).deliverAxle l c.firstStart ws (ws.map (s.takeOut l c).axleWheel) forced, []) := by
  simp only [State.completeOne, hws, axleNotices_none h]

/-- The two wheel speeds give their mean, whichever wheel stands first (R76). -/
theorem wheelPairSpeed_pair {x y : Wheel} : wheelPairSpeed [x, y] = pairMean x.speed y.speed := by
  unfold wheelPairSpeed pairMean
  cases hx : x.speed <;> cases hy : y.speed <;> simp [hx, hy]

theorem pairMean_comm (a b : Option Nat) : pairMean a b = pairMean b a := by
  cases a <;> cases b <;> simp [pairMean, Nat.add_comm]

/-! ### The frame opened by an axle -/

/-- The state after an axle has opened a frame, but for the frame count of the loop monitor. -/
theorem openFrame_parts (s : State) (a : AxleRec) :
    (s.openFrame a).asm = { s.asm with frames := s.asm.frames.set a.lane (some (s.frameOf a)) } := rfl

section
variable {s : State} {h lead : HitRec} {v v1 : Nat} {w : Wheel} {l : LaneIx} {c : Candidate} {reverse : Bool}

/-- The candidate starts where it did. -/
theorem paired_firstStart {w' : Wheel} (hsides : c.sides = [.waiting lead, .formed w] ∨ c.sides = [.formed w, .waiting lead])
    (hw' : w'.start = lead.start) : (c.paired lead w').firstStart = c.firstStart := by
  have hstart : Side.start (.formed w') = Side.start (.waiting lead) := hw'
  rcases hsides with hsides | hsides
  · rw [firstStart_of_two (paired_sides (xs := []) hsides (by simp)), firstStart_of_two hsides, hstart]
  · rw [firstStart_of_two (paired_sides (xs := [.formed w]) hsides (by simp)), firstStart_of_two hsides, hstart]

/-- The wheels of the completed axle, in one of their two orders. -/
theorem paired_wheels {w' : Wheel}
    (hsides : c.sides = [.waiting lead, .formed w] ∨ c.sides = [.formed w, .waiting lead]) :
    orderWheels ((c.paired lead w').sides.map Side.close) = [w', w]
      ∨ orderWheels ((c.paired lead w').sides.map Side.close) = [w, w'] := by
  rcases hsides with hsides | hsides
  · rw [paired_sides (xs := []) hsides (by simp)]
    exact orderWheels_pair w' w
  · rw [paired_sides (xs := [.formed w]) hsides (by simp)]
    exact (orderWheels_pair w w').symm

/-- A full wheel of the axle record is ONE_ROW after weighing where its hits' channels leave one usable row. -/
theorem weighed_oneRow_iff {x y : HitRec} (hlead : w.lead = some x) (htrail : w.trail = some y) (u : State) :
    hasFlag (u.weighWheel v (s.axleWheel w)).flags .oneRow = true ↔ OneUsableRow s x y := by
  have hrow : hasFlag (s.axleWheel w).flags .oneRow = false := by
    simp [hasFlag_axleWheel, Wheel.oneRow, hlead, htrail]
  have hhits : (s.axleWheel w).hits = [s.see x, s.see y] := by
    simp [State.axleWheel, AxleWheel.hits, hlead, htrail]
  rw [weighWheel_oneRow, hrow, hhits, Bool.false_or, decide_eq_true_eq]
  exact usableHits_one_iff x y

/-- With its second full wheel a candidate that none is ahead of completes, and opens the frame of its active lane. -/
theorem pairHits_opens {skipped rest : List HitRec} {pre post : List Candidate} (hpos : lead.pos = h.pos)
    (hrow : lead.row = .rowA) (hwaiting : s.waiting .rowA h.pos = skipped ++ lead :: rest) (hskipped : lead ∉ skipped)
    (hrest : lead ∉ rest) (hc : s.former.candidates[l] = pre ++ c :: post)
    (hsides : c.sides = [.waiting lead, .formed w] ∨ c.sides = [.formed w, .waiting lead])
    (honly : ∀ (k : LaneIx) (c' : Candidate), c' ∈ s.former.candidates[k] → .waiting lead ∈ c'.sides → k = l ∧ c' = c)
    (hbehind : ∀ c' ∈ pre ++ post, c'.id ≠ c.id
      ∧ ¬ (0 < elapsed c'.firstStart c.firstStart ∧ elapsed c'.firstStart c.firstStart < 2 ^ 31))
    (hids : ∀ k : LaneIx, k ≠ l → ∀ c' ∈ s.former.candidates[k], c'.id ≠ c.id)
    (hlead : w.lead ≠ none) (htrail : w.trail ≠ none) (hlane : posLane w.pos = posLane h.pos)
    (hactive : s.laneActive (posLane h.pos) = true) (hframe : s.asm.frames[posLane h.pos] = none) :
    ∃ ws, (ws = [pairedWheel lead h v false, w] ∨ ws = [w, pairedWheel lead h v false])
      ∧ s.pairHits lead h v false =
        let u := (s.setWaiting .rowA h.pos (skipped ++ rest)).setCandidates l (pre ++ post)
        u.openFrame (u.keptAxle (posLane h.pos) l c.firstStart ws (ws.map u.axleWheel) false false) := by
  have hmem : Side.waiting lead ∈ c.sides := by rcases hsides with e | e <;> simp [e]
  have hpaired := pairHits_eq (v := v) (reverse := false) hpos (hrow ▸ hwaiting) hskipped hrest hc hmem honly
    fun c' hc' => (hbehind c' hc').1
  rw [hrow] at hpaired
  have hfull : (c.paired lead (pairedWheel lead h v false)).hasFourHits = true := by
    have hw : FullWheel (pairedWheel lead h v false) ∧ FullWheel w := ⟨by simp [FullWheel, pairedWheel], hlead, htrail⟩
    rcases hsides with e | e
    · simpa [hasFourHits_iff, paired_sides (xs := []) e (by simp), FullSide] using hw
    · simpa [hasFourHits_iff, paired_sides (xs := [.formed w]) e (by simp), FullSide] using hw.symm
  have hstart : (c.paired lead (pairedWheel lead h v false)).firstStart = c.firstStart := paired_firstStart hsides rfl
  rw [if_pos hfull] at hpaired
  have hformed : ∀ y, Side.waiting y ∉ (c.paired lead (pairedWheel lead h v false)).sides := fun y => by
    rcases hsides with e | e
    · simp [paired_sides (xs := []) e]
    · simp [paired_sides (xs := [.formed w]) e]
  generalize hd : c.paired lead (pairedWheel lead h v false) = d at *
  have hid : d.id = c.id := by rw [← hd]; rfl
  obtain ⟨ws, hws, horder⟩ : ∃ ws, orderWheels (d.sides.map Side.close) = ws
      ∧ (ws = [pairedWheel lead h v false, w] ∨ ws = [w, pairedWheel lead h v false]) :=
    ⟨_, rfl, by rw [← hd]; exact paired_wheels hsides⟩
  have hquiet : ∀ w' ∈ ws, w'.reverse = true ∨ w'.lead = none ∨ w'.trail ≠ none := fun w' hw' => by
    refine .inr (.inr ?_)
    have : w' = pairedWheel lead h v false ∨ w' = w := by
      rcases horder with e | e <;> rw [e] at hw' <;> simpa [or_comm] using hw'
    rcases this with rfl | rfl
    · simp [pairedWheel]
    · exact htrail
  have hlanes : wheelLanes ws l = (posLane h.pos, posLane h.pos) := by
    rcases horder with e | e <;> rw [e] <;> simp only [wheelLanes, hlane] <;> rfl
  generalize ht : (s.setWaiting .rowA h.pos (skipped ++ rest)).setCandidates l (pre ++ d :: post) = t at *
  have hcands : ∀ k : LaneIx, t.former.candidates[k] = if l = k then pre ++ d :: post else s.former.candidates[k] := fun k => by
    rw [← ht, setCandidates_candidates, setWaiting_candidates]
  have hfore : Foremost t l pre d post := by
    refine ⟨by rw [hcands, if_pos rfl], fun c' hc' => ?_, fun c' hc' => ?_, fun k hk c' hc' => ?_⟩
    · rw [hid]
      exact (hbehind c' hc').1
    · rw [hstart]
      exact isLater_eq_false (hbehind c' hc').2
    · rw [hcands, if_neg (Ne.symm hk)] at hc'
      rw [hid]
      exact hids k hk c' hc'
  have hout : t.takeOut l d = (s.setWaiting .rowA h.pos (skipped ++ rest)).setCandidates l (pre ++ post) := by
    rw [takeOut_formed hformed, hfore.left, ← ht, setCandidates_setCandidates]
  have hone := completeOne_quiet (s := t) (l := l) false hws hquiet
  refine ⟨ws, horder, ?_⟩
  dsimp only at hpaired ⊢
  rw [hpaired, State.completeIds, List.map_singleton, ← hid, hfore.complete (congrArg Prod.snd hone), hone, hout, hstart]
  exact deliverAxle_opens hlanes hactive hframe

/-- An axle of full wheels is ONE_ROW where one of its wheels has one usable row (R98, R101). -/
theorem keptAxle_oneRow_iff {s u : State} {l holding : LaneIx} {time : Tick} {ws : List Wheel} {straddle forced : Bool}
    (hspeed : (s.axleSpeed l ws).1 = some v) (hfull : ∀ w ∈ ws, w.oneRow = false) :
    hasFlag (s.keptAxle l holding time ws (ws.map u.axleWheel) straddle forced).flags .oneRow = true
      ↔ ∃ w ∈ ws, hasFlag (s.weighWheel v (u.axleWheel w)).flags .oneRow = true := by
  have hown : hasFlag (formerFlags ws straddle forced (s.axleSpeed l ws).2) .oneRow = false := by
    have hany : ws.any Wheel.oneRow = false := List.any_eq_false.mpr fun w hw => by simp [hfull w hw]
    cases (s.axleSpeed l ws).2 <;> simp [formerFlags, sourceFlag, hany]
  have htemp : ∀ xs, hasFlag (s.wheelTempFlags xs) .oneRow = false := fun xs => by
    rw [State.wheelTempFlags, hasFlag_unionFlags, List.any_eq_false]
    intro x hx
    obtain ⟨w, -, rfl⟩ := List.mem_map.mp hx
    rw [hasFlag_tempFlag_eq_false (by decide)]
    exact Bool.false_ne_true
  simp only [State.keptAxle, State.loadAxle, State.axleRecord, hspeed, hasFlag_or, hown, htemp, hasFlag_flagIf,
    hasFlag_unionFlags, Bool.or_false, Bool.false_or]
  simp

end

end Sys2Proof.Machine
end

section
/-! PROOFS. The trailing hit that pairs, at the axle former's door (R64, R69, R76): the first two parts of O24. -/

namespace Sys2Proof.Machine

open Sys2Proof

section
variable {s : State} {h lead : HitRec} {v v1 : Nat} {w : Wheel} {l : LaneIx} {c : Candidate} {skipped rest : List HitRec}
  {pre post : List Candidate} {reverse : Bool}

/-- Without four hits the candidate waits on, with its new wheel. -/
theorem hitArrival_waits {xs ys : List Side} (hrev : s.loops[posLane h.pos].presence = .reverse ↔ reverse = true)
    (hrow : h.row = if reverse then .rowA else .rowB) (hlead : lead.row = if reverse then .rowB else .rowA)
    (hpos : lead.pos = h.pos) (hwaiting : s.waiting lead.row h.pos = skipped ++ lead :: rest) (hskipped : lead ∉ skipped)
    (hrest : lead ∉ rest) (hearlier : ∀ x ∈ skipped, ∀ u, ¬ PairsAt (s.laneEntry (posLane h.pos)).rowSpacing x h u)
    (hpairs : PairsAt (s.laneEntry (posLane h.pos)).rowSpacing lead h v) (hc : s.former.candidates[l] = pre ++ c :: post)
    (hsides : c.sides = xs ++ .waiting lead :: ys)
    (honly : ∀ (k : LaneIx) (c' : Candidate), c' ∈ s.former.candidates[k] → .waiting lead ∈ c'.sides → k = l ∧ c' = c)
    (hids : ∀ c' ∈ pre ++ post, c'.id ≠ c.id) (hlength : xs.length + ys.length ≤ 1)
    (hothers : ∀ y ∈ xs ++ ys, y ≠ .waiting lead ∧ ¬ FullSide y) :
    s.hitArrival h = (s.setWaiting lead.row h.pos (skipped ++ rest)).setCandidates l
      (pre ++ { c with sides := xs ++ .formed (pairedWheel lead h v reverse) :: ys } :: post) := by
  have hpaired := paired_sides (w := pairedWheel lead h v reverse) hsides fun y hy => (hothers y hy).1
  have hnot : (c.paired lead (pairedWheel lead h v reverse)).hasFourHits = false := by
    rw [← Bool.not_eq_true, hasFourHits_iff, hpaired]
    rintro ⟨htwo, hfull⟩
    obtain ⟨y, hy⟩ : ∃ y, y ∈ xs ++ ys := List.exists_mem_of_length_pos (by simp at htwo ⊢; omega)
    refine (hothers y hy).2 (hfull y ?_)
    rcases List.mem_append.mp hy with hy | hy <;> simp [hy]
  rw [hitArrival_pairs hrev hrow hlead hwaiting hearlier hpairs,
    pairHits_eq hpos hwaiting hskipped hrest hc (by rw [hsides]; simp) honly hids]
  simp only [hnot, Bool.false_eq_true, if_false]
  rw [← hpaired]
  rfl

/-- A candidate of two sides starts with the earlier of them. -/
theorem firstStart_pair (hsides : c.sides = [.waiting lead, .formed w] ∨ c.sides = [.formed w, .waiting lead]) :
    c.firstStart = earlierOf lead.start w.start ∨ c.firstStart = earlierOf w.start lead.start := by
  rcases hsides with e | e <;> rw [firstStart_of_two e]
  · exact .inl rfl
  · exact .inr rfl

theorem firstStart_pair_left (hsides : c.sides = [.waiting lead, .formed w] ∨ c.sides = [.formed w, .waiting lead])
    (hlt : elapsed lead.start w.start < 2 ^ 31) : c.firstStart = lead.start := by
  rcases firstStart_pair hsides with e | e <;> rw [e]
  · exact earlierOf_left hlt
  · exact earlierOf_right hlt

theorem firstStart_pair_right (hsides : c.sides = [.waiting lead, .formed w] ∨ c.sides = [.formed w, .waiting lead])
    (hlt : elapsed w.start lead.start < 2 ^ 31) : c.firstStart = w.start := by
  rcases firstStart_pair hsides with e | e <;> rw [e]
  · exact earlierOf_right hlt
  · exact earlierOf_left hlt

/-- Two forward wheels with speeds give the axle their mean (R76). -/
theorem axleSpeed_pair {u : State} {k : LaneIx} {x y : Wheel} (hx : x.reverse = false) (hy : y.reverse = false) {m : Nat}
    (hm : pairMean x.speed y.speed = some m) : u.axleSpeed k [x, y] = (some m, .wheelPair) := by
  simp only [State.axleSpeed, List.any_cons, List.any_nil, hx, hy, Bool.or_false, Bool.false_eq_true, if_false,
    wheelPairSpeed_pair, hm]

end

/-- The second part of O24: a trailing hit that gives its candidate the second full wheel opens a frame. -/
theorem hitArrival_completes (s : State) (h lead : HitRec) (skipped rest : List HitRec) (v v1 : Nat) (w : Wheel)
    (l : LaneIx) (pre post : List Candidate) (c : Candidate) (hrev : s.loops[posLane h.pos].presence ≠ .reverse)
    (hrow : h.row = .rowB) (hlead : lead.row = .rowA) (hpos : lead.pos = h.pos)
    (hwaiting : s.waiting .rowA h.pos = skipped ++ lead :: rest) (hskipped : lead ∉ skipped) (hrest : lead ∉ rest)
    (hearlier : ∀ x ∈ skipped, ∀ u, ¬ PairsAt (s.laneEntry (posLane h.pos)).rowSpacing x h u)
    (hpairs : PairsAt (s.laneEntry (posLane h.pos)).rowSpacing lead h v)
    (hc : s.former.candidates[l] = pre ++ c :: post)
    (hsides : c.sides = [.waiting lead, .formed w] ∨ c.sides = [.formed w, .waiting lead])
    (honly : ∀ (k : LaneIx) (c' : Candidate), c' ∈ s.former.candidates[k] → .waiting lead ∈ c'.sides → k = l ∧ c' = c)
    (hbehind : ∀ c' ∈ pre ++ post, c'.id ≠ c.id
      ∧ ¬ (0 < elapsed c'.firstStart c.firstStart ∧ elapsed c'.firstStart c.firstStart < 2 ^ 31))
    (hids : ∀ k : LaneIx, k ≠ l → ∀ c' ∈ s.former.candidates[k], c'.id ≠ c.id)
    (hwlead : w.lead ≠ none) (hwtrail : w.trail ≠ none) (hwspeed : w.speed = some v1) (hwrev : w.reverse = false)
    (hlane : posLane w.pos = posLane h.pos) (hactive : s.laneActive (posLane h.pos) = true)
    (hframe : s.asm.frames[posLane h.pos] = none) :
    ∃ f a, (s.hitArrival h).asm = { s.asm with frames := s.asm.frames.set (posLane h.pos) (some f) }
      ∧ f.axles = [{ axle := a, spacing := none }]
      ∧ f.openTick = a.time ∧ (a.time = lead.start ∨ a.time = w.start) ∧ a.lane = posLane h.pos
      ∧ (∀ u, StartsAt (.formed w) u → (elapsed lead.start u < 2 ^ 31 → a.time = lead.start)
          ∧ (elapsed u lead.start < 2 ^ 31 → a.time = u))
      ∧ a.speed = some ((v1 + v + 1) / 2) ∧ a.source = .wheelPair ∧ a.wheels.length = 2
      ∧ hasFlag a.flags .single = false ∧ hasFlag a.flags .straddle = false ∧ hasFlag a.flags .reverse = false
      ∧ hasFlag a.flags .forced = false
      ∧ (hasFlag a.flags .oneRow = true ↔
          OneUsableRow s lead h ∨ ∃ x y, w.lead = some x ∧ w.trail = some y ∧ OneUsableRow s x y)
      ∧ (s.hitArrival h).former.candidates = s.former.candidates.set l (pre ++ post)
      ∧ (s.hitArrival h).waiting .rowA h.pos = skipped ++ rest
      ∧ (∀ r q, ¬ (r = .rowA ∧ q = h.pos) → (s.hitArrival h).waiting r q = s.waiting r q)
      ∧ KeepsAllBut [.former, .asm, .loops] s (s.hitArrival h) := by
  obtain ⟨ws, hws, hopens⟩ := pairHits_opens (v := v) hpos hlead hwaiting hskipped hrest hc hsides honly hbehind hids hwlead
    hwtrail hlane hactive hframe
  have harrival : s.hitArrival h = s.pairHits lead h v false :=
    hitArrival_pairs (by simpa using hrev) hrow hlead (hlead ▸ hwaiting) hearlier hpairs
  rw [harrival, hopens]
  dsimp only
  obtain ⟨x, hx⟩ := Option.ne_none_iff_exists'.mp hwlead
  obtain ⟨y, hy⟩ := Option.ne_none_iff_exists'.mp hwtrail
  have hmean : pairMean (pairedWheel lead h v false).speed w.speed = some ((v1 + v + 1) / 2) := by
    rw [hwspeed, pairedWheel]
    simp [pairMean, Nat.add_comm]
  have hfull : ∀ w' ∈ ws, w'.oneRow = false := fun w' hw' => by
    have : w' = pairedWheel lead h v false ∨ w' = w := by
      rcases hws with e | e <;> rw [e] at hw' <;> simpa [or_comm] using hw'
    rcases this with rfl | rfl
    · rfl
    · simp [Wheel.oneRow, hx, hy]
  have hforward : ws.any (·.reverse) = false := by
    rcases hws with e | e <;> rw [e] <;> simp [hwrev, pairedWheel]
  have htwo : ws.length = 2 := by rcases hws with e | e <;> rw [e] <;> rfl
  have hkeep : KeepsAllBut [.former] s ((s.setWaiting .rowA h.pos (skipped ++ rest)).setCandidates l (pre ++ post)) :=
    (keepsAllBut_setWaiting s _ _ _).trans (.setFormer _ _)
  have hstrip : ((s.setWaiting .rowA h.pos (skipped ++ rest)).setCandidates l (pre ++ post)).strip = s.strip := rfl
  have hasm : ((s.setWaiting .rowA h.pos (skipped ++ rest)).setCandidates l (pre ++ post)).asm = s.asm := rfl
  have hcands : ((s.setWaiting .rowA h.pos (skipped ++ rest)).setCandidates l (pre ++ post)).former.candidates
      = s.former.candidates.set l (pre ++ post) := rfl
  have hlists : ∀ r q, ((s.setWaiting .rowA h.pos (skipped ++ rest)).setCandidates l (pre ++ post)).waiting r q
      = (s.setWaiting .rowA h.pos (skipped ++ rest)).waiting r q := fun r q => by cases r <;> rfl
  generalize (s.setWaiting .rowA h.pos (skipped ++ rest)).setCandidates l (pre ++ post) = u at *
  have hspeed : u.axleSpeed (posLane h.pos) ws = (some ((v1 + v + 1) / 2), .wheelPair) := by
    rcases hws with e | e <;> rw [e]
    · exact axleSpeed_pair rfl hwrev hmean
    · exact axleSpeed_pair hwrev rfl (pairMean_comm _ _ ▸ hmean)
  have hone : (∃ w' ∈ ws, hasFlag (u.weighWheel ((v1 + v + 1) / 2) (u.axleWheel w')).flags .oneRow = true)
      ↔ OneUsableRow s lead h ∨ ∃ x y, w.lead = some x ∧ w.trail = some y ∧ OneUsableRow s x y := by
    have hmem : ∀ w', w' ∈ ws ↔ w' = pairedWheel lead h v false ∨ w' = w := fun w' => by
      rcases hws with e | e <;> rw [e] <;> simp [or_comm]
    have hrows : ∀ a b, OneUsableRow u a b ↔ OneUsableRow s a b := fun a b => by simp only [OneUsableRow, hstrip]
    simp only [hmem, exists_eq_or_imp, exists_eq_left, weighed_oneRow_iff hx hy,
      weighed_oneRow_iff (w := pairedWheel lead h v false) rfl rfl, hrows, hx, hy, Option.some.injEq]
    simp
  refine ⟨u.frameOf (u.keptAxle (posLane h.pos) l c.firstStart ws (ws.map u.axleWheel) false false),
    u.keptAxle (posLane h.pos) l c.firstStart ws (ws.map u.axleWheel) false false, ?_, rfl, rfl, ?_, rfl,
    fun t ht => ⟨fun hlt => ?_, fun hlt => ?_⟩, congrArg Prod.fst hspeed, congrArg Prod.snd hspeed, ?_, ?_,
    keptAxle_straddle, ?_, keptAxle_forced, ?_, ?_, ?_, fun r q hrq => ?_, ?_⟩
  · rw [openFrame_parts, hasm]
    rfl
  · change c.firstStart = _ ∨ c.firstStart = _
    rcases firstStart_pair hsides with e | e <;> rw [e]
    · exact earlierOf_eq_or _ _
    · exact (earlierOf_eq_or _ _).symm
  · exact firstStart_pair_left hsides ((show t = w.start from ht.start_eq.symm) ▸ hlt)
  · exact (firstStart_pair_right hsides ((show t = w.start from ht.start_eq.symm) ▸ hlt)).trans ht.start_eq
  · rw [State.keptAxle, loadAxle_wheels_length]
    simp [State.axleRecord, htwo]
  · rw [keptAxle_single, htwo]
    rfl
  · rw [keptAxle_reverse, hforward]
  · rw [keptAxle_oneRow_iff (congrArg Prod.fst hspeed) hfull]
    exact hone
  · rw [(keepsAllBut_openFrame u _).former (by simp), hcands]
  · rw [waiting_of_former_eq ((keepsAllBut_openFrame u _).former (by simp)), hlists, waiting_setWaiting, if_pos ⟨rfl, rfl⟩]
  · rw [waiting_of_former_eq ((keepsAllBut_openFrame u _).former (by simp)), hlists, waiting_setWaiting, if_neg hrq]
  · exact (hkeep.mono (by simp)).trans ((keepsAllBut_openFrame u _).mono (by simp))

end Sys2Proof.Machine
end

section
/-! PROOFS. A delivered hit arrives at the axle former (R10, R12, R62), and a trailing hit that pairs with none forms a
one-row wheel (R65); O24. -/

namespace Sys2Proof.Machine

open Sys2Proof

/-! ### Delivery (R10, R12) -/

/-- The state after a hit has left its detector and poured its clipped samples. -/
def State.poured (s : State) (c : ChanIx) (clips : Nat) : State :=
  (s.setChannel c { s.strip.channels[c] with detector := .quiet }).pourBucket c clips

section
variable {s : State} {c : ChanIx} {clips : Nat}

/-- The bucket rises, and a NORMAL channel above its limit becomes DEGRADED with its event. -/
theorem poured_eq (s : State) (c : ChanIx) (clips : Nat) : s.poured c clips =
    if s.strip.channels[c].state = .normal
        ∧ (s.stripEntry c).clipLimit < min (s.strip.channels[c].bucket + min clips 64) 1023
    then (s.setChannel c (pouredChannel s c clips)).raiseAt .channelState c.val
    else s.setChannel c (pouredChannel s c clips) := by
  have hentry : ∀ ch, (s.setChannel c ch).stripEntry c = s.stripEntry c := fun _ => rfl
  simp only [State.poured, State.pourBucket, setChannel_channel, setChannel_setChannel, hentry, bucketAfter, pouredChannel,
    Bool.and_eq_true, decide_eq_true_eq]
  split <;> rfl

theorem poured_strip : (s.poured c clips).strip
    = { s.strip with channels := s.strip.channels.set c (pouredChannel s c clips) } := by
  rw [poured_eq]
  split <;> rfl

theorem poured_channel : (s.poured c clips).strip.channels[c] = pouredChannel s c clips := by
  simp only [poured_strip, Fin.getElem_fin, Vector.getElem_set_self]

theorem poured_channel_ne {k : ChanIx} (h : k ≠ c) : (s.poured c clips).strip.channels[k] = s.strip.channels[k] := by
  simp only [poured_strip, Fin.getElem_fin, Vector.getElem_set_ne _ _ (fun e => h (Fin.ext e.symm))]

theorem poured_former : (s.poured c clips).former = s.former := by
  rw [poured_eq]
  split <;> rfl

theorem keepsAllBut_poured (s : State) (c : ChanIx) (clips : Nat) : KeepsAllBut [.strip, .ports] s (s.poured c clips) := by
  have hset := fun x => (KeepsAllBut.setStrip s x).mono (M := [.strip, .ports]) (by simp)
  rw [poured_eq]
  split
  · exact (hset _).trans ((KeepsAllBut.raiseAt _ _ _).mono (by simp))
  · exact hset _

theorem poured_event (s : State) (c : ChanIx) (clips : Nat) : PouredEvent s c clips (s.poured c clips) := by
  rw [poured_eq]
  split
  · rename_i hover
    refine ⟨fun _ => oneEvent_raise _ _ rfl, fun hsame => ?_⟩
    have hstate : (pouredChannel s c clips).state = .degraded := if_pos hover
    rw [hstate, hover.1] at hsame
    cases hsame
  · rename_i hwithin
    refine ⟨fun hdiffers => ?_, fun _ => rfl⟩
    exact absurd (if_neg hwithin) hdiffers

/-- A sample that delivers a hit hands it to the axle former on the poured state. -/
theorem takeSample_delivers {x : BitVec 16} {l : LaneIx} {h : HitAcc} {e : EndRun} (hd : Delivers s c x l h e) :
    s.takeSample c x = (s.poured c h.clips).hitArrival (deliveredHit s c l h e) := by
  obtain ⟨-, ⟨b, hdetects, hlow⟩, halive, hdet, hrun, hlane, hactive⟩ := hd
  rw [takeSample_hit hdetects hdet hrun hlow]
  have hstate : ((s.setChannel c { s.strip.channels[c] with detector := .quiet }).strip.channels[c]).state = .normal
      ∨ ((s.setChannel c { s.strip.channels[c] with detector := .quiet }).strip.channels[c]).state = .degraded := by
    rw [setChannel_channel]
    exact hdetects.1.imp id fun h => h.resolve_right halive
  have hrecord : (s.poured c h.clips).hitRecord c l h.start e.first h.area h.peak h.clips = deliveredHit s c l h e := by
    have hentry : (s.poured c h.clips).stripEntry c = s.stripEntry c := by
      rw [poured_eq]
      split <;> rfl
    simp only [State.hitRecord, deliveredHit, hentry, poured_channel]
  rw [← hrecord]
  unfold State.disposeHit
  have hlane' : ((s.setChannel c { s.strip.channels[c] with detector := .quiet }).stripEntry c).lane = some l := hlane
  have hactive' : (s.setChannel c { s.strip.channels[c] with detector := .quiet }).laneActive l = true := hactive
  simp only [hlane', hactive', Bool.not_true, Bool.false_eq_true, if_false]
  rcases hstate with hstate | hstate <;> simp only [hstate] <;> rfl

theorem exec_delivers {x : BitVec 16} {l : LaneIx} {h : HitAcc} {e : EndRun} {cmd : Instr}
    (hcmd : IsSample cmd (.hitEnd c x) c x) (hd : Delivers s c x l h e) :
    exec cmd s = .next ((s.poured c h.clips).hitArrival (deliveredHit s c l h e)) := by
  obtain ⟨b, hdetects, hlow⟩ := hd.detects
  rw [← takeSample_delivers hd]
  exact exec_isSample hd.runs hcmd rfl (by rw [sampleEvent_hit hdetects hd.detector hd.run hlow]; rfl)

end

/-! ### A trailing hit that pairs with none (R65) -/

/-- The notice of a one-row wheel at its forming: on a forward lane to the channel of row A (log 11). -/
def State.formingNotice (s : State) (reverse : Bool) (q : PosIx) : State × List Nat :=
  if reverse then (s, []) else s.missAt .rowA q

section
variable {s : State} {h : HitRec} {reverse : Bool}

theorem completeIds_nil (s : State) : s.completeIds [] = s := rfl

theorem hitArrival_unpaired (hrev : s.loops[posLane h.pos].presence = .reverse ↔ reverse = true)
    (hrow : h.row = if reverse then .rowA else .rowB)
    (hnone : ∀ y ∈ s.waiting (if reverse then .rowB else .rowA) h.pos, ∀ v,
      ¬ PairsAt (s.laneEntry (posLane h.pos)).rowSpacing y h v) :
    s.hitArrival h = ((s.formingNotice reverse h.pos).1.completeIds (s.formingNotice reverse h.pos).2).wheelStart
      (.formed { pos := h.pos, lead := none, trail := some h, speed := none, reverse := reverse }) := by
  have hruns : s.runsReverse (posLane h.pos) = reverse := by
    rw [State.runsReverse]
    cases reverse <;> simp_all
  have hne : h.row ≠ leadingRow reverse := by
    rw [hrow, leadingRow]
    cases reverse <;> simp
  have hfind : (s.waiting (leadingRow reverse) h.pos).find?
      (fun x => (pairSpeed (s.laneEntry (posLane h.pos)).rowSpacing x h).isSome) = none := by
    refine List.find?_eq_none.mpr fun y hy hsome => ?_
    obtain ⟨v, hv⟩ := pairSpeed_isSome_iff.mp hsome
    exact hnone y hy v hv
  simp only [State.hitArrival, hruns, if_neg hne, State.trailingArrival, hfind]
  rfl

/-- A forming notice that makes no channel DEAD leaves the axle former. -/
theorem formingNotice_alive {q : PosIx} (halive : reverse = true ∨ ∀ b, MappedAt s .rowA q b →
      ¬ CountsMisses s.strip.channels[b] ∨ s.strip.channels[b].miss < 31) :
    (s.formingNotice reverse q).2 = [] ∧ (s.formingNotice reverse q).1.former = s.former := by
  cases reverse with
  | true => exact ⟨rfl, rfl⟩
  | false => exact missAt_alive (halive.resolve_left Bool.false_ne_true)

theorem formingNotice_sent (s : State) (reverse : Bool) (q : PosIx) :
    (reverse = false → NoticeSent .rowA q s (s.formingNotice reverse q).1)
      ∧ (reverse = true → (s.formingNotice reverse q).1.strip = s.strip ∧ (s.formingNotice reverse q).1.ports = s.ports)
      ∧ KeepsAllBut [.strip, .former, .ports] s (s.formingNotice reverse q).1 := by
  cases reverse with
  | true => exact ⟨nofun, fun _ => ⟨rfl, rfl⟩, .refl _ _⟩
  | false => exact ⟨fun _ => missAt_sent s .rowA q, nofun, keepsAllBut_missAt s .rowA q⟩

theorem FormerLimits.of_former {t : State} (h : t.former = s.former) (hs : FormerLimits s) : FormerLimits t :=
  hs.of_thins (Thins.of_former_eq h)

/-- A one-row wheel whose forming makes no channel DEAD joins the candidate it prefers, or opens one. -/
theorem unpaired_alive {w : Wheel} (hs : FormerLimits s) (hw : sideHasHit (.formed w) = true)
    (hpos : w.pos = h.pos) (hstart : w.start = h.start)
    (halive : reverse = true ∨ ∀ b, MappedAt s .rowA h.pos b →
      ¬ CountsMisses s.strip.channels[b] ∨ s.strip.channels[b].miss < 31) :
    let t := ((s.formingNotice reverse h.pos).1.completeIds (s.formingNotice reverse h.pos).2).wheelStart (.formed w)
    (∀ (k : LaneIx) (pre post : List Candidate) (c : Candidate), s.former.candidates[k] = pre ++ c :: post →
      Joins s h.pos h.start k c →
      t = (s.formingNotice reverse h.pos).1.setCandidates k (pre ++ { c with sides := c.sides ++ [.formed w] } :: post))
    ∧ (Opens s h.pos h.start → t = (s.formingNotice reverse h.pos).1.openCandidate (posLane h.pos) (.formed w)) := by
  obtain ⟨hids, hformer⟩ := formingNotice_alive halive
  obtain ⟨-, -, hkeep⟩ := formingNotice_sent s reverse h.pos
  rw [hids, completeIds_nil]
  generalize (s.formingNotice reverse h.pos).1 = u at *
  have hu := hs.of_former hformer
  have hcands : u.former.candidates = s.former.candidates := by rw [hformer]
  have hprof : u.prof.active = s.prof.active := by rw [hkeep .prof (by simp)]
  have hnow : u.now = s.now := hkeep .now (by simp)
  refine ⟨fun k pre post c hc hj => wheelStart_joins hu hw (by rw [hcands, hc]) ?_, fun ho => ?_⟩
  · have hj := hj.congr hcands hprof hnow
    rwa [← hpos, ← hstart] at hj
  · have ho := ho.congr hcands hprof
    rw [← hpos, ← hstart] at ho
    rw [wheelStart_opens (x := .formed w) hu ho rfl, ← hpos]
    rfl

/-- A 32nd miss changes the state of its channel and of no other. -/
theorem NoticeTaken.state_iff {t : State} {b : ChanIx} (hn : NoticeTaken b s t) (hcounts : CountsMisses s.strip.channels[b])
    (hmiss : s.strip.channels[b].miss = 31) (k : ChanIx) :
    t.strip.channels[k].state = s.strip.channels[k].state ↔ k ≠ b := by
  refine ⟨fun hsame hk => ?_, fun hk => by rw [hn.others.1 k hk]⟩
  subst hk
  have hdead := congrArg Channel.state (hn.dead hcounts hmiss).1
  rw [hsame] at hdead
  rcases hcounts with e | e <;> rw [e] at hdead <;> cases hdead

/-- The one-row wheel whose forming makes a channel DEAD opens a candidate, where no candidate left is eligible. -/
theorem unpaired_dead {w : Wheel} {b : ChanIx} (hs : FormerLimits s) (hpos : w.pos = h.pos)
    (hstart : w.start = h.start) (hb : OnlyMappedAt s .rowA h.pos b) (hcounts : CountsMisses s.strip.channels[b])
    (hmiss : s.strip.channels[b].miss = 31)
    (hcands : ∀ (k : LaneIx) (c : Candidate), c ∈ s.former.candidates[k] →
      LosesAllOrNone b c ∧ ((∃ y, c.sides = [.waiting y] ∧ y.channel = b) ∨ ∀ d, ¬ Eligible s c h.pos h.start d))
    (hroom : s.former.candidates[posLane h.pos].length < 4) :
    Bereft s (s.missAt .rowA h.pos).1 ∧ ((s.missAt .rowA h.pos).1.completeIds (s.missAt .rowA h.pos).2).wheelStart (.formed w)
      = (s.missAt .rowA h.pos).1.openCandidate (posLane h.pos) (.formed w) := by
  obtain ⟨hbereft, hids⟩ := missAt_bereft (r := .rowA) (q := h.pos) fun k c hc b' hb' => hb.2 b' hb' ▸ (hcands k c hc).1
  have hnotice := (missAt_sent s .rowA h.pos).1 b hb
  have hu := hs.of_thins (thins_missAt s .rowA h.pos)
  have hprof : (s.missAt .rowA h.pos).1.prof.active = s.prof.active := by
    rw [keepsAllBut_missAt s .rowA h.pos .prof (by simp)]
  rw [hids, completeIds_nil]
  generalize (s.missAt .rowA h.pos).1 = u at *
  have hopens : Opens u h.pos h.start := by
    refine ⟨fun k c hc d he => ?_, ?_⟩
    · rw [hbereft.candidates] at hc
      obtain ⟨hc, hkept⟩ := List.mem_filter.mp hc
      rcases (hcands k c hc).2 with ⟨y, hy, hch⟩ | hnone
      · have hlost : orphaned s u c = true := by
          rw [orphaned_one hy]
          exact decide_eq_true fun e => (hnotice.state_iff hcounts hmiss _).mp e hch
        rw [hlost] at hkept
        cases hkept
      · exact hnone d (he.congr hprof.symm)
    · rw [hbereft.candidates]
      exact Nat.lt_of_le_of_lt (List.length_filter_le _ _) hroom
  rw [← hpos, ← hstart] at hopens
  refine ⟨hbereft, ?_⟩
  rw [wheelStart_opens (x := .formed w) hu hopens rfl, ← hpos]
  rfl

end

/-- Settles O24: a trailing hit pairs with the oldest plausible hit, or forms a one-row wheel that joins or opens a candidate
after its notice; a delivered hit reaches the axle former on the poured state. -/
theorem trailingHitPairs : Obligations.TrailingHitPairs := by
  refine ⟨fun s h lead skipped rest v reverse l pre post c xs ys hrev hrow hlead hpos hwaiting hskipped hrest hearlier hpairs
      hc hsides honly hids hlength hothers => hitArrival_waits hrev hrow hlead hpos hwaiting hskipped hrest hearlier hpairs hc
        hsides honly hids hlength hothers,
    fun s h lead skipped rest v v1 w l pre post c hrev hrow hlead hpos hwaiting hskipped hrest hearlier hpairs hc hsides honly
      hbehind hids hwlead hwtrail hwspeed hwrev hlane hactive hframe => hitArrival_completes s h lead skipped rest v v1 w l pre
        post c hrev hrow hlead hpos hwaiting hskipped hrest hearlier hpairs hc hsides honly hbehind hids hwlead hwtrail hwspeed
        hwrev hlane hactive hframe,
    fun s c x h e l cmd hcmd hd => ⟨_, exec_delivers hcmd hd, poured_strip, poured_event s c h.clips, keepsAllBut_poured s c _⟩,
    fun s t h w reverse hs hrev hrow hnone hw ht => ⟨fun halive => ?_, fun b hforward hb hcounts hmiss hcands hroom => ?_⟩⟩
  · rw [hitArrival_unpaired hrev hrow hnone, ← hw] at ht
    obtain ⟨hjoins, hopens⟩ := unpaired_alive (w := w) hs (by rw [hw]; rfl) (by rw [hw]) (by rw [hw]; rfl) halive
    obtain ⟨-, hformer⟩ := formingNotice_alive halive
    obtain ⟨hsent, hstill, hkeep⟩ := formingNotice_sent s reverse h.pos
    refine ⟨fun k pre post c hc hj => ?_, fun ho => ?_⟩
    · rw [ht, hjoins k pre post c hc hj]
      refine ⟨?_, fun hr => (hsent hr).congr rfl rfl rfl rfl rfl, fun hr => hstill hr,
        hkeep.trans ((KeepsAllBut.setFormer _ _).mono (by simp))⟩
      rw [State.setCandidates, State.setFormer_former, hformer]
    · rw [ht, hopens ho]
      refine ⟨?_, fun hr => (hsent hr).congr rfl rfl rfl rfl rfl, fun hr => hstill hr,
        hkeep.trans ((KeepsAllBut.setFormer _ _).mono (by simp))⟩
      rw [State.openCandidate, State.setFormer_former, hformer, alter, hkeep .now (by simp)]
  · subst hforward
    rw [hitArrival_unpaired hrev hrow hnone, ← hw] at ht
    obtain ⟨hbereft, hopens⟩ := unpaired_dead (w := w) hs (by rw [hw]) (by rw [hw]; rfl) hb hcounts hmiss hcands hroom
    have hnotice := (missAt_sent s .rowA h.pos).1 b hb
    have hkeep := keepsAllBut_missAt s .rowA h.pos
    rw [show t = (s.missAt .rowA h.pos).1.openCandidate (posLane h.pos) (.formed w) from ht.trans hopens]
    generalize (s.missAt .rowA h.pos).1 = u at *
    refine ⟨⟨hnotice.others, hnotice.counted, hnotice.dead, hnotice.ignored⟩, fun r q => ?_, fun k => ?_, ?_, hbereft.late,
      hkeep.trans ((KeepsAllBut.setFormer _ _).mono (by simp))⟩
    · have hlist : (u.openCandidate (posLane h.pos) (.formed w)).waiting r q = u.waiting r q := by cases r <;> rfl
      rw [hlist, hbereft.waiting]
      exact List.filter_congr fun y _ => decide_eq_decide.mpr (hnotice.state_iff hcounts hmiss _)
    · rw [openCandidate_candidates]
      by_cases hk : posLane h.pos = k
      · subst hk
        rw [if_pos rfl, if_pos rfl, hbereft.candidates, hbereft.nextId, hkeep .now (by simp)]
        rfl
      · rw [if_neg hk, if_neg (Ne.symm hk), List.append_nil, hbereft.candidates]
        rfl
    · exact congrArg (· + 1) hbereft.nextId

end Sys2Proof.Machine
end

section
/-! PROOFS. The candidate that completes at its deadline (R69, R71, R73 to R79); O26. -/

namespace Sys2Proof.Machine

open Sys2Proof

/-! ### A candidate of one waiting side (R71, R75) -/

theorem posLane_pos (h : HitRec) : posLane h.pos = h.lane := by
  refine Fin.ext ?_
  unfold HitRec.pos
  cases h.side <;> simp only [segmentPos, posLane] <;> omega

section
variable {s : State} {l : LaneIx} {c : Candidate} {h : HitRec} {forced : Bool}

/-- The state after the notice of a completing side of row A: its candidate is taken out, and the channel of row B has its
notice. -/
def State.lonePart (s : State) (l : LaneIx) (c : Candidate) (h : HitRec) : State :=
  ((s.takeOut l c).missAt .rowB h.pos).1

/-- The axle of a completing side of row A. -/
def State.loneAxle (s : State) (l : LaneIx) (c : Candidate) (h : HitRec) (forced : Bool) : AxleRec :=
  (s.lonePart l c h).keptAxle l l h.start [h.leadingWheel] ([h.leadingWheel].map (s.takeOut l c).axleWheel) false forced

theorem keepsAllBut_takeOut (s : State) (l : LaneIx) (c : Candidate) : KeepsAllBut [.former] s (s.takeOut l c) :=
  .setFormer s _

theorem keepsAllBut_lonePart (s : State) (l : LaneIx) (c : Candidate) (h : HitRec) :
    KeepsAllBut [.strip, .former, .ports] s (s.lonePart l c h) :=
  ((keepsAllBut_takeOut s l c).mono (by simp)).trans (keepsAllBut_missAt _ _ _)

/-- A candidate of one waiting side of row A completes with a notice to row B, and opens the frame of its active lane. -/
theorem completeOne_lone (hsides : c.sides = [.waiting h]) (hlane : h.lane = l) (hrow : h.row = .rowA)
    (hactive : s.laneActive l = true) (hframe : s.asm.frames[l] = none) :
    s.completeOne l c forced
      = ((s.lonePart l c h).openFrame (s.loneAxle l c h forced), ((s.takeOut l c).missAt .rowB h.pos).2) := by
  have hws : orderWheels (c.sides.map Side.close) = [h.leadingWheel] := by rw [hsides]; rfl
  have hforward : h.leadingWheel.reverse = false := by simp [HitRec.leadingWheel, hrow]
  have hnotices : State.axleNotices [h.leadingWheel] (s.takeOut l c)
      = (s.lonePart l c h, ((s.takeOut l c).missAt .rowB h.pos).2) := by
    simp only [State.axleNotices, hforward]
    simp [HitRec.leadingWheel, State.lonePart]
  have hkeep := keepsAllBut_lonePart s l c h
  have hlanes : wheelLanes [h.leadingWheel] l = (l, l) := by
    have : posLane h.leadingWheel.pos = l := (posLane_pos h).trans hlane
    simp only [wheelLanes, this]
  have hactive' : (s.lonePart l c h).laneActive l = true := by
    have hprof : (s.lonePart l c h).prof = s.prof := hkeep .prof (by simp)
    exact (laneActive_of_same (by rw [hprof]) (hkeep .site (by simp)) l).trans hactive
  have hframe' : (s.lonePart l c h).asm.frames[l] = none := by
    rw [hkeep.asm (by simp)]
    exact hframe
  simp only [State.completeOne, hws, hnotices, firstStart_of_one hsides]
  exact congrArg (·, _) (deliverAxle_opens hlanes hactive' hframe')

/-- The wheel is of row A, one-row, forward and without speed. -/
theorem loneAxle_speed (hrow : h.row = .rowA) (hframe : s.asm.frames[l] = none) :
    (s.loneAxle l c h forced).speed = s.loops[l].speed.map (·.1) := by
  have hkeep := keepsAllBut_lonePart s l c h
  change ((s.lonePart l c h).axleSpeed l [h.leadingWheel]).1 = _
  have hforward : [h.leadingWheel].any (·.reverse) = false := by simp [HitRec.leadingWheel, hrow]
  have hnone : wheelPairSpeed [h.leadingWheel] = none := rfl
  have hloops : (s.lonePart l c h).loops = s.loops := hkeep .loops (by simp)
  simp only [State.axleSpeed, hforward, Bool.false_eq_true, if_false, hnone, hkeep.asm (by simp), hframe, Option.bind_none, hloops]
  cases s.loops[l].speed <;> rfl

theorem loneAxle_flags (hrow : h.row = .rowA) : hasFlag (s.loneAxle l c h forced).flags .single = true
    ∧ hasFlag (s.loneAxle l c h forced).flags .oneRow = true ∧ hasFlag (s.loneAxle l c h forced).flags .straddle = false
    ∧ hasFlag (s.loneAxle l c h forced).flags .forced = forced ∧ hasFlag (s.loneAxle l c h forced).flags .reverse = false := by
  refine ⟨keptAxle_single, keptAxle_oneRow_of_wheel rfl, keptAxle_straddle, keptAxle_forced, ?_⟩
  refine keptAxle_reverse.trans ?_
  simp [HitRec.leadingWheel, hrow]

theorem loneAxle_wheels_length : (s.loneAxle l c h forced).wheels.length = 1 :=
  loadAxle_wheels_length _ _

/-- A waiting side's hit leaves its list with its candidate. -/
theorem waiting_takeOut_lone (hsides : c.sides = [.waiting h]) (r : StripRow) (q : PosIx) :
    (s.takeOut l c).waiting r q = (s.waiting r q).filter (fun y => decide (y ≠ h)) := by
  rw [waiting_takeOut]
  refine List.filter_congr fun y _ => ?_
  rw [hsides]
  simp [Side.awaits, eq_comm]

end

/-! ### The deadline (R69) -/

section
variable {s : State} {l : LaneIx} {c : Candidate} {pre post : List Candidate}

/-- The one candidate of a lane that has reached its deadline completes. -/
theorem exec_candidateDeadline (hruns : s.heldLow = false) (hc : s.former.candidates[l] = pre ++ c :: post)
    (hdue : s.candidateOverdue l c = true) (hothers : ∀ d ∈ pre ++ post, s.candidateOverdue l d = false) :
    exec (.candidateDeadline l) s = .next (s.complete [(c.id, false)]) := by
  have hfilter : s.former.candidates[l].filter (s.candidateOverdue l) = [c] := by
    have hnone : ∀ xs : List Candidate, (∀ d ∈ xs, s.candidateOverdue l d = false) → xs.filter (s.candidateOverdue l) = [] :=
      fun xs hxs => List.filter_eq_nil_iff.mpr fun d hd => by simp [hxs d hd]
    rw [hc, List.filter_append, List.filter_cons_of_pos hdue, hnone pre fun d hd => hothers d (by simp [hd]),
      hnone post fun d hd => hothers d (by simp [hd])]
    rfl
  have hover : s.overdueCandidate l = some c := by rw [State.overdueCandidate, hfilter]; rfl
  change execCandidateDeadline l s = _
  rw [execCandidateDeadline, hover, whileRunning_of_runs hruns]
  rfl

end

/-- The first part of O26: a candidate with one waiting side of row A opens a frame at its deadline. -/
theorem loneCandidate_opens (s : State) (l : LaneIx) (pre post : List Candidate) (c : Candidate) (h : HitRec)
    (hruns : s.heldLow = false) (hactive : s.laneActive l = true) (hframe : s.asm.frames[l] = none)
    (hc : s.former.candidates[l] = pre ++ c :: post)
    (hothers : ∀ c' ∈ pre ++ post, c'.id ≠ c.id
      ∧ hasPassed c'.firstStart ((s.laneEntry l).rowSpacing * 16000 / 2999 + s.prof.active.site.window) s.now = false
      ∧ ¬ (0 < elapsed c'.firstStart h.start ∧ elapsed c'.firstStart h.start < 2 ^ 31))
    (hids : ∀ k : LaneIx, k ≠ l → ∀ c' ∈ s.former.candidates[k], c'.id ≠ c.id)
    (hlose : ∀ (k : LaneIx) (c' : Candidate), c' ∈ s.former.candidates[k] → ∀ b, MappedAt s .rowB h.pos b →
      LosesAllOrNone b c')
    (hsides : c.sides = [.waiting h]) (hlane : h.lane = l) (hrow : h.row = .rowA)
    (hdue : hasPassed h.start ((s.laneEntry l).rowSpacing * 16000 / 2999 + s.prof.active.site.window) s.now = true) :
    ∃ t f a, exec (.candidateDeadline l) s = .next t
      ∧ (∀ k : LaneIx, t.former.candidates[k] =
          (if k = l then pre ++ post else s.former.candidates[k]).filter (fun c' => !orphaned s t c'))
      ∧ h ∉ t.waiting .rowA h.pos ∧ t.asm.frames[l] = some f ∧ f.axles = [{ axle := a, spacing := none }]
      ∧ f.openTick = h.start ∧ a.lane = l ∧ a.holding = l ∧ a.time = h.start ∧ a.wheels.length = 1
      ∧ a.speed = (s.loops[l].speed).map (·.1) ∧ a.generation = s.prof.generation
      ∧ hasFlag a.flags .single = true ∧ hasFlag a.flags .oneRow = true ∧ hasFlag a.flags .straddle = false
      ∧ hasFlag a.flags .forced = false ∧ hasFlag a.flags .reverse = false
      ∧ (∀ k : LaneIx, k ≠ l → t.asm.frames[k] = s.asm.frames[k]) ∧ t.asm.seq = s.asm.seq ∧ t.store = s.store
      ∧ NoticeSent .rowB h.pos s t
      ∧ (∀ r q, t.waiting r q = (s.waiting r q).filter (fun y => decide (y ≠ h
          ∧ t.strip.channels[y.channel].state = s.strip.channels[y.channel].state)))
      ∧ t.former.late = s.former.late ∧ KeepsAllBut [.strip, .loops, .former, .asm, .ports] s t := by
  have hstart : c.firstStart = h.start := firstStart_of_one hsides
  have hfore : Foremost s l pre c post := ⟨hc, fun d hd => (hothers d hd).1, fun d hd => by
    rw [hstart]
    exact isLater_eq_false (hothers d hd).2.2, hids⟩
  have hexec := exec_candidateDeadline hruns hc (by rw [State.candidateOverdue, hstart]; exact hdue)
    fun d hd => (hothers d hd).2.1
  have hone := completeOne_lone (forced := false) hsides hlane hrow hactive hframe
  have hout : ∀ k : LaneIx, (s.takeOut l c).former.candidates[k] = if k = l then pre ++ post else s.former.candidates[k] :=
    fun k => by
      rw [takeOut_candidates, hfore.left]
      simp only [eq_comm]
  obtain ⟨hbereft, hquiet⟩ := missAt_bereft (s := s.takeOut l c) (r := .rowB) (q := h.pos) fun k d hd b hb => by
    refine hlose k d ?_ b hb
    rw [hout] at hd
    split at hd
    · rename_i hk
      subst hk
      rw [hc]
      rcases List.mem_append.mp hd with hd | hd <;> simp [hd]
    · exact hd
  have hsent := missAt_sent (s.takeOut l c) .rowB h.pos
  have hkeep := keepsAllBut_lonePart s l c h
  obtain ⟨hsingle, honeRow, hstraddle, hforced, hreverse⟩ := loneAxle_flags (s := s) (l := l) (c := c) (forced := false) hrow
  have hspeed := loneAxle_speed (c := c) (forced := false) hrow hframe
  rw [hfore.complete (by rw [hone]; exact hquiet), hone] at hexec
  change Bereft (s.takeOut l c) (s.lonePart l c h) at hbereft
  change NoticeSent .rowB h.pos (s.takeOut l c) (s.lonePart l c h) at hsent
  have hgeneration : (s.loneAxle l c h false).generation = s.prof.generation := by
    change (s.lonePart l c h).prof.generation = _
    rw [hkeep .prof (by simp)]
  have hlength := loneAxle_wheels_length (s := s) (l := l) (c := c) (h := h) (forced := false)
  have hlists : ∀ r q, ((s.lonePart l c h).openFrame (s.loneAxle l c h false)).waiting r q
      = (s.waiting r q).filter (fun y => decide (y ≠ h
        ∧ (s.lonePart l c h).strip.channels[y.channel].state = s.strip.channels[y.channel].state)) := fun r q => by
    rw [waiting_of_former_eq ((keepsAllBut_openFrame _ _).former (by simp)), hbereft.waiting, waiting_takeOut_lone hsides,
      List.filter_filter]
    refine List.filter_congr fun y _ => ?_
    rw [Bool.decide_and, Bool.and_comm]
    rfl
  have hopened := keepsAllBut_openFrame (s.lonePart l c h) (s.loneAxle l c h false)
  refine ⟨_, (s.lonePart l c h).frameOf (s.loneAxle l c h false), s.loneAxle l c h false, hexec, fun k => ?_, ?_,
    openFrame_frame _ _, rfl, rfl, rfl, rfl, rfl, hlength, hspeed, hgeneration, hsingle, honeRow, hstraddle, hforced, hreverse,
    fun k hk => ?_, ?_, ?_, hsent.congr rfl rfl rfl rfl rfl, hlists, ?_, (hkeep.mono (by simp)).trans (hopened.mono (by simp))⟩
  · dsimp only
    rw [hopened.former (by simp), hbereft.candidates, hout]
    rfl
  · rw [hlists]
    simp
  · rw [openFrame_frame_ne _ _ (by exact hk), hkeep.asm (by simp)]
  · rw [openFrame_asm]
    change (s.lonePart l c h).asm.seq = _
    rw [hkeep.asm (by simp)]
  · exact hkeep .store (by simp)
  · dsimp only
    rw [hopened.former (by simp), hbereft.late]
    rfl

end Sys2Proof.Machine
end

section
/-! PROOFS. The straddle pair that completes at its deadline (R73, R74, R76), and O26. -/

namespace Sys2Proof.Machine

open Sys2Proof

/-! ### Lane assignment (R73) -/

/-- R73 assigns one lane. -/
theorem AssignedTo.unique {s : State} {n m k k' : LaneIx} {time : Tick} {v : Option Nat} (h : AssignedTo s n m time v k)
    (h' : AssignedTo s n m time v k') : k = k' := by
  by_cases hn : ∃ u, Continues s n time v u
  · by_cases hm : ∃ u, Continues s m time v u
    · obtain ⟨⟨u, hu⟩, ⟨w, hw⟩⟩ := And.intro hn hm
      rw [h.both u w hu hw, h'.both u w hu hw]
    · rw [h.one hn hm, h'.one hn hm]
  · by_cases hm : ∃ u, Continues s m time v u
    · rw [h.other hm hn, h'.other hm hn]
    · rw [h.neither hn hm, h'.neither hn hm]

section
variable {s : State} {k : LaneIx} {time : Tick}

theorem isLateAxle_of_later {f : Frame} {init : List FrameAxle} {p : FrameAxle} (hframe : s.asm.frames[k] = some f)
    (hlast : f.axles = init ++ [p]) (hpos : 0 < elapsed time p.axle.time) (hlt : elapsed time p.axle.time < 2 ^ 31) :
    s.isLateAxle k time = true := by
  simp only [State.isLateAxle, hframe, Option.bind_some, Frame.last, hlast, List.getLast?_concat, Option.map_some]
  exact isLater_iff.mpr ⟨hpos, hlt⟩

theorem isLateAxle_eq_false (h : ∀ f init p, s.asm.frames[k] = some f → f.axles = init ++ [p] →
    ¬ (0 < elapsed time p.axle.time ∧ elapsed time p.axle.time < 2 ^ 31)) : s.isLateAxle k time = false := by
  unfold State.isLateAxle
  cases hframe : s.asm.frames[k] with
  | none => rfl
  | some f =>
    rcases List.eq_nil_or_concat f.axles with hnil | ⟨init, p, hlast⟩
    · simp [Frame.last, hnil]
    · rw [List.concat_eq_append] at hlast
      simp only [Option.bind_some, Frame.last, hlast, List.getLast?_concat, Option.map_some]
      exact isLater_eq_false (h f init p hframe hlast)

/-! ### The speed of a straddle axle (R76) -/

/-- A REVERSE wheel leaves the axle without speed. -/
theorem axleSpeed_reverse {ws : List Wheel} (h : ws.any (·.reverse) = true) : s.axleSpeed k ws = (none, .none) := by
  rw [State.axleSpeed, if_pos h]

/-- Without a wheel speed the axle takes that of the last axle of its lane's frame. -/
theorem axleSpeed_held {ws : List Wheel} {f : Frame} {init : List FrameAxle} {p : FrameAxle} {x : Nat}
    (hforward : ws.any (·.reverse) = false) (hnone : wheelPairSpeed ws = none) (hframe : s.asm.frames[k] = some f)
    (hlast : f.axles = init ++ [p]) (hspeed : p.axle.speed = some x) : s.axleSpeed k ws = (some x, .held) := by
  simp only [State.axleSpeed, hforward, Bool.false_eq_true, if_false, hnone, hframe, Option.bind_some, Frame.last, hlast,
    List.getLast?_concat, Option.map_some, hspeed]

end

/-! ### The straddle candidate -/

section
variable {s : State} {l n m : LaneIx} {c : Candidate} {w1 w2 : Wheel} {time : Tick}

/-- The two wheels stand in the order of their positions. -/
theorem orderWheels_straddle (hsides : c.sides = [.formed w1, .formed w2] ∨ c.sides = [.formed w2, .formed w1])
    (hpos : w2.pos.val = w1.pos.val + 1) : orderWheels (c.sides.map Side.close) = [w1, w2] := by
  have hlt : w1.pos < w2.pos := Fin.lt_def.mpr (by omega)
  rcases hsides with e | e <;> rw [e]
  · exact if_neg hlt.le.not_gt
  · exact if_pos hlt

/-- The candidate starts with the earlier of its wheels. -/
theorem firstStart_straddle {u1 u2 : Tick} (hsides : c.sides = [.formed w1, .formed w2] ∨ c.sides = [.formed w2, .formed w1])
    (h1 : StartsAt (.formed w1) u1) (h2 : StartsAt (.formed w2) u2)
    (htime : (time = u1 ∧ elapsed u1 u2 < 2 ^ 31) ∨ (time = u2 ∧ elapsed u2 u1 < 2 ^ 31)) : c.firstStart = time := by
  rcases hsides with e | e <;> rw [firstStart_of_two e, h1.start_eq, h2.start_eq] <;> rcases htime with ⟨rfl, hlt⟩ | ⟨rfl, hlt⟩
  · exact earlierOf_left hlt
  · exact earlierOf_right hlt
  · exact earlierOf_right hlt
  · exact earlierOf_left hlt

/-- A lone straddle candidate whose wheels owe no notice leaves its lane, and its axle is assigned. -/
theorem exec_straddleDeadline (hruns : s.heldLow = false) (hc : s.former.candidates[l] = [c])
    (hids : ∀ j : LaneIx, j ≠ l → ∀ c' ∈ s.former.candidates[j], c'.id ≠ c.id)
    (hsides : c.sides = [.formed w1, .formed w2] ∨ c.sides = [.formed w2, .formed w1])
    (hpos : w2.pos.val = w1.pos.val + 1)
    (hquiet : ∀ w, w = w1 ∨ w = w2 → w.reverse = true ∨ w.lead = none ∨ w.trail ≠ none)
    (hdue : s.candidateOverdue l c = true) :
    exec (.candidateDeadline l) s = .next ((s.setCandidates l []).deliverAxle l c.firstStart [w1, w2]
      ([w1, w2].map (s.setCandidates l []).axleWheel) false) := by
  have hfore : Foremost s l [] c [] := ⟨hc, by simp, by simp, hids⟩
  have hformed : ∀ y, Side.waiting y ∉ c.sides := fun y => by rcases hsides with e | e <;> simp [e]
  have hout : s.takeOut l c = s.setCandidates l [] := by
    rw [takeOut_formed hformed, hfore.left]
    rfl
  have hone := completeOne_quiet (s := s) (l := l) false (orderWheels_straddle hsides hpos)
    fun w hw => hquiet w (by simpa using hw)
  rw [exec_candidateDeadline (pre := []) (post := []) hruns hc hdue (by simp), hfore.complete (congrArg Prod.snd hone), hone,
    hout]

end

/-- Settles O26: the lone waiting side and the straddle pair at their deadlines. -/
theorem loneCandidateOpensFrame : Obligations.LoneCandidateOpensFrame := by
  refine ⟨loneCandidate_opens, fun s l n m k c w1 w2 u1 u2 time v hruns hc hids hsides hpos hn hm hne hquiet h1 h2 htime hdue
    hv hassigned => ?_⟩
  have hstart := firstStart_straddle hsides h1 h2 htime
  have hexec := exec_straddleDeadline hruns hc hids hsides hpos hquiet
    (by rw [State.candidateOverdue, hstart]; exact hdue)
  have hmean : wheelPairSpeed [w1, w2] = v := wheelPairSpeed_pair.trans hv.symm
  have hk : (s.setCandidates l []).assignStraddle n m time (wheelPairSpeed [w1, w2]) = k := by
    rw [hmean]
    exact (assignedTo_assignStraddle s n m time v).unique hassigned
  rw [hstart, deliverAxle_straddle (by rw [hn, hm]; rfl) hne hk] at hexec
  refine ⟨fun hinactive => ?_, fun f init p hactive hframe hlast hafter hbefore => ?_, fun hactive hnot => ?_⟩
  · rw [hexec, if_pos (by exact hinactive)]
  · rw [hexec, if_neg (by exact ne_of_eq_of_ne hactive Bool.noConfusion),
      if_pos (by exact isLateAxle_of_later hframe hlast hafter hbefore)]
    rfl
  · have hlate : (s.setCandidates l []).isLateAxle k time = false := isLateAxle_eq_false hnot
    rw [if_neg (by exact ne_of_eq_of_ne hactive Bool.noConfusion), if_neg (by rw [hlate]; exact Bool.false_ne_true)] at hexec
    refine ⟨_, hexec, rfl, rfl, rfl, rfl, loadAxle_wheels_length _ _, keptAxle_straddle, keptAxle_single, keptAxle_forced,
      fun hrev => ?_, fun hf1 hf2 => ⟨fun x hx => ?_, fun f init p x hx hframe hlast hspeed => ?_⟩⟩
    · have hany : [w1, w2].any (·.reverse) = true := by simpa using hrev
      have hspeed := axleSpeed_reverse (s := s.setCandidates l []) (k := k) hany
      exact ⟨congrArg Prod.fst hspeed, congrArg Prod.snd hspeed, keptAxle_reverse.trans hany,
        keptAxle_noSpeed.trans (by rw [hspeed]; rfl)⟩
    · have hspeed := axleSpeed_pair (u := s.setCandidates l []) (k := k) hf1 hf2 (hv.symm.trans hx)
      exact ⟨congrArg Prod.fst hspeed, congrArg Prod.snd hspeed⟩
    · have hforward : [w1, w2].any (·.reverse) = false := by simp [hf1, hf2]
      have hspeed := axleSpeed_held (s := s.setCandidates l []) (k := k) hforward (hmean.trans hx) hframe hlast hspeed
      exact ⟨congrArg Prod.fst hspeed, congrArg Prod.snd hspeed, keptAxle_speedHeld.trans (by rw [hspeed]; rfl)⟩

end Sys2Proof.Machine
end

section
/-! PROOFS. The delivered leading hit at a list with room (R62, R67). -/

namespace Sys2Proof.Machine

open Sys2Proof

/-! ### The arrival of a leading hit (R62) -/

/-- The state with a leading hit at the tail of its list. -/
def State.placed (s : State) (h : HitRec) : State :=
  s.setWaiting h.row h.pos (s.waiting h.row h.pos ++ [h])

section
variable {s t : State} {h : HitRec}

theorem hitArrival_leading (hrow : h.row = .rowA ↔ s.loops[posLane h.pos].presence ≠ .reverse) :
    s.hitArrival h = s.leadingArrival h := by
  have hlead : h.row = leadingRow (s.runsReverse (posLane h.pos)) := by
    rw [leadingRow, State.runsReverse]
    by_cases hrev : s.loops[posLane h.pos].presence = .reverse
    · rw [if_pos (decide_eq_true hrev)]
      cases hr : h.row with
      | rowA => exact absurd hrev (hrow.mp hr)
      | rowB => rfl
    · rw [if_neg (fun h => hrev (of_decide_eq_true h))]
      exact hrow.mpr hrev
  simp only [State.hitArrival, if_pos hlead]

theorem placed_candidates : (s.placed h).former.candidates = s.former.candidates := setWaiting_candidates ..

theorem keepsAllBut_placed (s : State) (h : HitRec) : KeepsAllBut [.former] s (s.placed h) :=
  keepsAllBut_setWaiting _ _ _ _

theorem placed_waiting (r : StripRow) (q : PosIx) :
    (s.placed h).waiting r q = s.waiting r q ++ (if r = h.row ∧ q = h.pos then [h] else []) := by
  rw [State.placed, waiting_setWaiting]
  split
  · rename_i heq
    rw [heq.1, heq.2]
  · rw [List.append_nil]

theorem placed_stands : (s.placed h).sideStands (.waiting h) = true := by
  change ((s.placed h).waiting h.row h.pos).contains h = true
  rw [placed_waiting, if_pos ⟨rfl, rfl⟩]
  simp

/-- What a leading hit does to the axle former once it is placed. -/
structure JoinedAt (s : State) (h : HitRec) (k : LaneIx) (cs : List Candidate) (t : State) : Prop where
  waiting : ∀ r q, t.waiting r q = s.waiting r q ++ (if r = h.row ∧ q = h.pos then [h] else [])
  candidates : t.former.candidates = s.former.candidates.set k cs
  late : t.former.late = s.former.late
  keep : KeepsAllBut [.former] s t

/-- A placed hit joins the candidate it prefers. -/
theorem placed_joins (hs : FormerLimits s) (hroom : (s.waiting h.row h.pos).length < 4) {k : LaneIx}
    {pre post : List Candidate} {c : Candidate} (hc : s.former.candidates[k] = pre ++ c :: post)
    (hj : Joins s h.pos h.start k c) :
    JoinedAt s h k (pre ++ { c with sides := c.sides ++ [.waiting h] } :: post) ((s.placed h).wheelStart (.waiting h))
      ∧ ((s.placed h).wheelStart (.waiting h)).former.nextId = s.former.nextId := by
  have hkeep := keepsAllBut_placed s h
  have hprof : (s.placed h).prof = s.prof := hkeep .prof (by simp)
  have hj : Joins (s.placed h) h.pos h.start k c := hj.congr placed_candidates (by rw [hprof]) (hkeep .now (by simp))
  rw [wheelStart_joins (s := s.placed h) (x := .waiting h) (hs.pushed h hroom) rfl (by rw [placed_candidates, hc]) hj]
  refine ⟨⟨fun r q => ?_, ?_, setWaiting_late .., hkeep.trans (.setFormer _ _)⟩, setWaiting_nextId ..⟩
  · rw [← placed_waiting]
    cases r <;> rfl
  · rw [State.setCandidates, State.setFormer_former, placed_candidates]

/-- A placed hit that finds no candidate opens one of its own. -/
theorem placed_opens (hs : FormerLimits s) (hroom : (s.waiting h.row h.pos).length < 4) (ho : Opens s h.pos h.start) :
    JoinedAt s h (posLane h.pos)
        (s.former.candidates[posLane h.pos] ++ [{ id := s.former.nextId, opened := s.now, sides := [.waiting h] }])
        ((s.placed h).wheelStart (.waiting h))
      ∧ ((s.placed h).wheelStart (.waiting h)).former.nextId = s.former.nextId + 1 := by
  have hkeep := keepsAllBut_placed s h
  have hprof : (s.placed h).prof = s.prof := hkeep .prof (by simp)
  have ho : Opens (s.placed h) h.pos h.start := ho.congr placed_candidates (by rw [hprof])
  have hnext : (s.placed h).former.nextId = s.former.nextId := setWaiting_nextId ..
  rw [wheelStart_opens (s := s.placed h) (x := .waiting h) (hs.pushed h hroom) ho placed_stands]
  refine ⟨⟨fun r q => ?_, ?_, setWaiting_late .., hkeep.trans (.setFormer _ _)⟩, congrArg (· + 1) hnext⟩
  · rw [← placed_waiting]
    cases r <;> rfl
  · rw [State.openCandidate, State.setFormer_former, placed_candidates, hnext, hkeep .now (by simp)]
    rfl

end

/-! ### The delivered hit -/

section
variable {s t : State} {c : ChanIx} {x : BitVec 16} {l : LaneIx} {h : HitAcc} {e : EndRun} {cmd : Instr}

theorem PouredEvent.congr {clips : Nat} (h : PouredEvent s c clips t) {u : State} (hports : u.ports = t.ports) :
    PouredEvent s c clips u := by
  refine ⟨fun hstate => ?_, fun hstate => hports.trans (h.2 hstate)⟩
  obtain ⟨hcab, hsvc, hstream⟩ := h.1 hstate
  exact ⟨by rw [hports]; exact hcab, by rw [hports]; exact hsvc, by rw [hports]; exact hstream⟩

theorem deliveredHit_lane : posLane (deliveredHit s c l h e).pos = l := posLane_pos _

/-- A delivered hit of the leading row arrives as a leading hit on the poured state. -/
theorem exec_delivers_leading (hcmd : IsSample cmd (.hitEnd c x) c x) (hd : Delivers s c x l h e)
    (hrow : (s.stripEntry c).row = .rowA ↔ s.loops[l].presence ≠ .reverse) :
    exec cmd s = .next ((s.poured c h.clips).leadingArrival (deliveredHit s c l h e)) := by
  have hloops : (s.poured c h.clips).loops = s.loops := keepsAllBut_poured s c h.clips .loops (by simp)
  rw [exec_delivers hcmd hd, hitArrival_leading]
  rw [hloops]
  simp only [deliveredHit_lane]
  exact hrow

theorem exec_delivers_room (hcmd : IsSample cmd (.hitEnd c x) c x) (hd : Delivers s c x l h e)
    (hrow : (s.stripEntry c).row = .rowA ↔ s.loops[l].presence ≠ .reverse) {a : HitRec} (ha : a = deliveredHit s c l h e)
    (hroom : (s.waiting a.row a.pos).length < 4) :
    exec cmd s = .next (((s.poured c h.clips).placed a).wheelStart (.waiting a)) := by
  have hlist : (s.poured c h.clips).waiting a.row a.pos = s.waiting a.row a.pos := waiting_of_former_eq poured_former _ _
  rw [exec_delivers_leading hcmd hd hrow, ← ha, leadingArrival_room (by rw [hlist]; exact hroom)]
  rfl

/-- The outcome of a delivery whose hit only joins or opens a candidate. -/
theorem delivers_joined {a : HitRec} {k : LaneIx} {cs : List Candidate} (hj : JoinedAt (s.poured c h.clips) a k cs t) :
    t.strip = { s.strip with channels := s.strip.channels.set c (pouredChannel s c h.clips) }
      ∧ PouredEvent s c h.clips t
      ∧ (∀ r q, t.waiting r q = s.waiting r q ++ (if r = a.row ∧ q = a.pos then [a] else []))
      ∧ t.former.candidates = s.former.candidates.set k cs ∧ t.former.late = s.former.late
      ∧ KeepsAllBut [.strip, .former, .ports] s t := by
  refine ⟨(hj.keep .strip (by simp)).trans poured_strip, (poured_event s c h.clips).congr (hj.keep .ports (by simp)),
    fun r q => ?_, ?_, ?_, ((keepsAllBut_poured s c h.clips).mono (by simp)).trans (hj.keep.mono (by simp))⟩
  · rw [hj.waiting, waiting_of_former_eq poured_former]
  · rw [hj.candidates, poured_former]
  · rw [hj.late, poured_former]

/-- The part of O11 where the list and the lane have room, or a candidate is joined. -/
theorem delivers_room (hcmd : IsSample cmd (.hitEnd c x) c x) (hd : Delivers s c x l h e) (hs : FormerLimits s)
    (hrow : (s.stripEntry c).row = .rowA ↔ s.loops[l].presence ≠ .reverse) {a : HitRec} (ha : a = deliveredHit s c l h e)
    (hroom : (s.waiting a.row a.pos).length < 4) :
    (∀ (k : LaneIx) (pre post : List Candidate) (c0 : Candidate), s.former.candidates[k] = pre ++ c0 :: post →
      Joins s a.pos a.start k c0 →
      ∃ t, exec cmd s = .next t
        ∧ t.strip = { s.strip with channels := s.strip.channels.set c (pouredChannel s c h.clips) }
        ∧ PouredEvent s c h.clips t
        ∧ (∀ r q, t.waiting r q = s.waiting r q ++ (if r = a.row ∧ q = a.pos then [a] else []))
        ∧ t.former.candidates = s.former.candidates.set k (pre ++ { c0 with sides := c0.sides ++ [.waiting a] } :: post)
        ∧ t.former.nextId = s.former.nextId ∧ t.former.late = s.former.late ∧ KeepsAllBut [.strip, .former, .ports] s t)
    ∧ (Opens s a.pos a.start →
      ∃ t, exec cmd s = .next t
        ∧ t.strip = { s.strip with channels := s.strip.channels.set c (pouredChannel s c h.clips) }
        ∧ PouredEvent s c h.clips t
        ∧ (∀ r q, t.waiting r q = s.waiting r q ++ (if r = a.row ∧ q = a.pos then [a] else []))
        ∧ t.former.candidates = s.former.candidates.set l (s.former.candidates[l]
            ++ [{ id := s.former.nextId, opened := s.now, sides := [.waiting a] }])
        ∧ t.former.nextId = s.former.nextId + 1 ∧ t.former.late = s.former.late
        ∧ KeepsAllBut [.strip, .former, .ports] s t) := by
  have hexec := exec_delivers_room hcmd hd hrow ha hroom
  have hkeep := keepsAllBut_poured s c h.clips
  have hprof : (s.poured c h.clips).prof = s.prof := hkeep .prof (by simp)
  have hnow : (s.poured c h.clips).now = s.now := hkeep .now (by simp)
  have hcands : (s.poured c h.clips).former.candidates = s.former.candidates := by rw [poured_former]
  have hu := hs.of_former (poured_former (c := c) (clips := h.clips))
  have hroom' : ((s.poured c h.clips).waiting a.row a.pos).length < 4 := by
    rw [waiting_of_former_eq poured_former]
    exact hroom
  have hlane : posLane a.pos = l := by rw [ha, deliveredHit_lane]
  refine ⟨fun k pre post c0 hc hj => ?_, fun ho => ?_⟩
  · obtain ⟨hjoined, hnext⟩ := placed_joins hu hroom' (by rw [hcands, hc]) (hj.congr hcands (by rw [hprof]) hnow)
    obtain ⟨hstrip, hevent, hwaiting, hcs, hlate, hkept⟩ := delivers_joined hjoined
    exact ⟨_, hexec, hstrip, hevent, hwaiting, hcs, by rw [hnext, poured_former], hlate, hkept⟩
  · obtain ⟨hjoined, hnext⟩ := placed_opens hu hroom' (ho.congr hcands (by rw [hprof]))
    obtain ⟨hstrip, hevent, hwaiting, hcs, hlate, hkept⟩ := delivers_joined hjoined
    subst hlane
    exact ⟨_, hexec, hstrip, hevent, hwaiting, by rw [hcs, hcands, poured_former, hnow], by rw [hnext, poured_former], hlate, hkept⟩

end

end Sys2Proof.Machine
end

section
/-! PROOFS. The delivered leading hit at a full list, whose oldest hit is evicted (R17, R62, R72). -/

namespace Sys2Proof.Machine

open Sys2Proof

/-! ### Eviction -/

/-- The state after the oldest hit of a full list has gone, with its channel's discard. -/
def State.evicted (s : State) (old : HitRec) : State :=
  (s.countDiscard old.channel).withdrawHits (fun x => decide (x = old))

section
variable {s : State} {old : HitRec}

theorem evicted_waiting (r : StripRow) (q : PosIx) :
    (s.evicted old).waiting r q = (s.waiting r q).filter (fun y => decide (y ≠ old)) := by
  have hsame : (s.countDiscard old.channel).waiting r q = s.waiting r q := waiting_of_former_eq rfl r q
  rw [State.evicted, waiting_withdrawHits, hsame]
  refine List.filter_congr fun y _ => ?_
  rw [decide_not]

theorem evicted_candidates (k : LaneIx) : (s.evicted old).former.candidates[k]
    = (s.former.candidates[k].map (withoutHit old)).filter (fun c => !c.sides.isEmpty) := by
  simp only [State.evicted, State.withdrawHits, State.setFormer_former, Fin.getElem_fin, Vector.getElem_map,
    funext (without_eq old)]
  rfl

theorem keepsAllBut_evicted (s : State) (old : HitRec) : KeepsAllBut [.strip, .former] s (s.evicted old) :=
  ((KeepsAllBut.setStrip s _).mono (by simp)).trans ((keepsAllBut_withdrawHits _ _).mono (by simp))

theorem evicted_strip : (s.evicted old).strip = { s.strip with channels := discarded s.strip.channels old.channel } := rfl

/-- No candidate that keeps a side is overdue after the eviction. -/
theorem evicted_noneOverdue (h : NoneThenOverdue s old) (hs : FormerLimits s) :
    (s.countDiscard old.channel).overdueAfterWithdrawal (fun x => decide (x = old)) = [] := by
  refine List.map_eq_nil_iff.mpr (List.filter_eq_nil_iff.mpr fun lc hlc htrue => ?_)
  obtain ⟨k, c⟩ := lc
  have hc : c ∈ s.former.candidates[k] := mem_openCandidates.mp hlc
  simp only [without_eq, Bool.and_eq_true, decide_eq_true_eq, Bool.not_eq_true', List.isEmpty_eq_false_iff] at htrue
  obtain ⟨⟨hlost, hleft⟩, hover⟩ := htrue
  obtain ⟨y, hy, hgone⟩ := List.length_filter_lt_length_iff_exists.mp hlost
  obtain rfl : y = .waiting old := by simpa using hgone
  obtain ⟨x, hx, hfirst⟩ := firstStart_mem hleft
  obtain ⟨hx, hne⟩ := List.mem_filter.mp hx
  have hnot := h k c hc hy x x.start hx (of_decide_eq_true hne) (startsAt_start ((hs.sides k c hc).2 x hx))
  have hover : hasPassed (withoutHit old c).firstStart
    ((s.laneEntry k).rowSpacing * 16000 / 2999 + s.prof.active.site.window) s.now = true := hover
  rw [hfirst, hnot] at hover
  cases hover

/-- A hit that arrives at a full list finds the state with the oldest hit evicted. -/
theorem leadingArrival_evicts {h : HitRec} {rest : List HitRec} (hs : FormerLimits s) (hw : s.waiting h.row h.pos = old :: rest)
    (hlength : rest.length = 3) (hdue : NoneThenOverdue s old) :
    s.leadingArrival h = ((s.evicted old).placed h).wheelStart (.waiting h) := by
  rw [leadingArrival_full hw hlength, withdraw_eq (evicted_noneOverdue hdue hs)]
  rfl

theorem thins_evicted (s : State) (old : HitRec) : Thins s (s.evicted old) :=
  (Thins.of_former_eq (s := s) (t := s.countDiscard old.channel) rfl).trans (thins_withdrawHits _ _)

theorem evicted_room {h : HitRec} {rest : List HitRec} (hw : s.waiting h.row h.pos = old :: rest) (hlength : rest.length = 3) :
    ((s.evicted old).waiting h.row h.pos).length < 4 := by
  rw [evicted_waiting, hw, List.filter_cons_of_neg (by simp)]
  exact Nat.lt_succ_of_le (hlength ▸ List.length_filter_le _ _)

end

section
variable {s : State} {c : ChanIx} {x : BitVec 16} {l : LaneIx} {h : HitAcc} {e : EndRun} {cmd : Instr} {old : HitRec}
  {clips : Nat}

/-- The eviction on the poured state, as O11 names it. -/
theorem evicted_poured : Evicted c clips old s ((s.poured c clips).evicted old) where
  strip := by
    rw [evicted_strip, poured_strip]
  event := (poured_event s c clips).congr (keepsAllBut_evicted _ _ .ports (by simp))
  waiting r q := by rw [evicted_waiting, waiting_of_former_eq poured_former]
  candidates k := by rw [evicted_candidates, poured_former]
  others := ⟨(congrArg AxleFormer.nextId (poured_former (s := s) (c := c) (clips := clips)) :),
    (congrArg AxleFormer.late (poured_former (s := s) (c := c) (clips := clips)) :),
    ((keepsAllBut_poured s c clips).mono (by simp)).trans ((keepsAllBut_evicted _ _).mono (by simp))⟩

/-- The part of O11 where the list is full. -/
theorem delivers_full (hcmd : IsSample cmd (.hitEnd c x) c x) (hd : Delivers s c x l h e) (hs : FormerLimits s)
    (hrow : (s.stripEntry c).row = .rowA ↔ s.loops[l].presence ≠ .reverse) {a : HitRec} (ha : a = deliveredHit s c l h e)
    {rest : List HitRec} (hw : s.waiting a.row a.pos = old :: rest) (hlength : rest.length = 3)
    (hdue : NoneThenOverdue s old) :
    ∃ u, Evicted c h.clips old s u
      ∧ (∀ (k : LaneIx) (pre post : List Candidate) (c0 : Candidate), u.former.candidates[k] = pre ++ c0 :: post →
        Joins u a.pos a.start k c0 →
        ∃ t, exec cmd s = .next t
          ∧ (∀ r q, t.waiting r q = u.waiting r q ++ (if r = a.row ∧ q = a.pos then [a] else []))
          ∧ t.former.candidates = u.former.candidates.set k (pre ++ { c0 with sides := c0.sides ++ [.waiting a] } :: post)
          ∧ t.former.nextId = u.former.nextId ∧ t.former.late = u.former.late ∧ KeepsAllBut [.former] u t)
      ∧ (Opens u a.pos a.start →
        ∃ t, exec cmd s = .next t
          ∧ (∀ r q, t.waiting r q = u.waiting r q ++ (if r = a.row ∧ q = a.pos then [a] else []))
          ∧ t.former.candidates = u.former.candidates.set l (u.former.candidates[l]
              ++ [{ id := u.former.nextId, opened := u.now, sides := [.waiting a] }])
          ∧ t.former.nextId = u.former.nextId + 1 ∧ t.former.late = u.former.late ∧ KeepsAllBut [.former] u t) := by
  have hkeep := keepsAllBut_poured s c h.clips
  have hprof : (s.poured c h.clips).prof = s.prof := hkeep .prof (by simp)
  have hu := hs.of_former (poured_former (c := c) (clips := h.clips))
  have hlist : (s.poured c h.clips).waiting a.row a.pos = old :: rest := by
    rw [waiting_of_former_eq poured_former, hw]
  have hdue' : NoneThenOverdue (s.poured c h.clips) old := fun k d hd hmem x v hx hne hv => by
    rw [poured_former] at hd
    rw [State.laneEntry, hprof, hkeep .now (by simp)]
    exact hdue k d hd hmem x v hx hne hv
  have hexec := exec_delivers_leading hcmd hd hrow
  rw [← ha, leadingArrival_evicts hu hlist hlength hdue'] at hexec
  have hroom := evicted_room hlist hlength
  have hs' := hu.of_thins (thins_evicted (s.poured c h.clips) old)
  have hlane : posLane a.pos = l := by rw [ha, deliveredHit_lane]
  refine ⟨_, evicted_poured, fun k pre post c0 hc hj => ?_, fun ho => ?_⟩
  · obtain ⟨hjoined, hnext⟩ := placed_joins hs' hroom hc hj
    exact ⟨_, hexec, hjoined.waiting, hjoined.candidates, hnext, hjoined.late, hjoined.keep⟩
  · obtain ⟨hjoined, hnext⟩ := placed_opens hs' hroom ho
    subst hlane
    exact ⟨_, hexec, hjoined.waiting, hjoined.candidates, hnext, hjoined.late, hjoined.keep⟩

end

end Sys2Proof.Machine
end

section
/-! PROOFS. The delivered leading hit in a lane that holds four candidates (R68, R70, R75), and O11. -/

namespace Sys2Proof.Machine

open Sys2Proof

/-! ### Room in a full lane (R68) -/

theorem firstOfTwo_self (c : Candidate) : firstOfTwo c c = c := (firstOfTwo_eq_or c c).elim id id

/-- The candidate before every other is the first. -/
theorem firstCandidate_best {pre post : List Candidate} {c : Candidate}
    (h : ∀ d ∈ pre ++ post, isLater d.firstStart c.firstStart = true ∨ (d.firstStart = c.firstStart ∧ c.id < d.id)) :
    firstCandidate (pre ++ c :: post) = some c := by
  have hbest : ∀ d ∈ pre ++ c :: post, d = c ∨ (firstOfTwo d c = c ∧ firstOfTwo c d = c) := fun d hd => by
    by_cases hne : d = c
    · exact .inl hne
    · have hd : d ∈ pre ++ post := by simpa [hne] using hd
      refine .inr ?_
      unfold firstOfTwo
      rcases h d hd with hlater | ⟨hsame, hid⟩
      · simp [hlater, isLater_asymm hlater]
      · have hnot : isLater c.firstStart c.firstStart = false := isLater_eq_false (by simp [elapsed])
        simp [hsame, hnot, hid, Nat.not_lt.mpr (Nat.le_of_lt hid)]
  have hmem : c ∈ pre ++ c :: post := by simp
  generalize pre ++ c :: post = l at hbest hmem
  cases l with
  | nil => cases hmem
  | cons a rest =>
    exact congrArg some (foldl_choice_best (firstOfTwo_self c) firstOfTwo_eq_or ((List.mem_cons.mp hmem).imp Eq.symm id) hbest)

section
variable {s : State} {l : LaneIx} {pre post : List Candidate} {c : Candidate} {h0 : HitRec} {b : ChanIx}

/-- In a full lane the first candidate, of one waiting side of row A, completes FORCED and opens the lane's frame. -/
theorem makeRoom_forced (hfore : Foremost s l pre c post) (hfull : 4 ≤ s.former.candidates[l].length)
    (hbest : firstCandidate s.former.candidates[l] = some c) (hsides : c.sides = [.waiting h0]) (hlane : h0.lane = l)
    (hrow : h0.row = .rowA) (hactive : s.laneActive l = true) (hframe : s.asm.frames[l] = none)
    (hquiet : ((s.takeOut l c).missAt .rowB h0.pos).2 = []) :
    s.makeRoom l = (s.lonePart l c h0).openFrame (s.loneAxle l c h0 true) := by
  have hone := completeOne_lone (forced := true) hsides hlane hrow hactive hframe
  rw [State.makeRoom, if_pos hfull, hbest]
  dsimp only
  rw [hfore.complete (by rw [hone]; exact hquiet), hone]

/-- A side that finds no candidate in a full lane opens one when room has been made. -/
theorem wheelStart_crowded {x : Side} (hs : FormerLimits s)
    (hnone : ∀ k : LaneIx, ∀ c ∈ s.former.candidates[k], ∀ d, ¬ Eligible s c x.pos x.start d)
    (hstands : (s.makeRoom (posLane x.pos)).sideStands x = true) :
    s.wheelStart x = (s.makeRoom (posLane x.pos)).openCandidate (posLane x.pos) x := by
  simp only [State.wheelStart, chooseCandidate_none hs hnone, hstands, if_true]

/-- Below its 32nd miss the notice of a completing side counts on the channel of row B. -/
theorem lonePart_counted (hb : OnlyMappedAt s .rowB h0.pos b) (hcounts : CountsMisses s.strip.channels[b])
    (hmiss : s.strip.channels[b].miss < 31) :
    s.lonePart l c h0 = (s.takeOut l c).setChannel b { s.strip.channels[b] with miss := s.strip.channels[b].miss + 1 }
      ∧ ((s.takeOut l c).missAt .rowB h0.pos).2 = [] := by
  have hcount := missAt_counted (s := s.takeOut l c) hb hcounts hmiss
  rw [State.lonePart, hcount]
  exact ⟨rfl, rfl⟩

theorem set_alter {n : Nat} (v : Vector (List Candidate) n) (i : Fin n) (xs ys : List Candidate) :
    (v.set i xs).set i ((v.set i xs)[i] ++ ys) = v.set i (xs ++ ys) := by
  refine Vector.ext fun j hj => ?_
  simp only [Fin.getElem_fin, Vector.getElem_set_self, Vector.getElem_set]
  split <;> rfl

/-- By its limits and its first start a candidate is foremost. -/
theorem Foremost.of_limits (hs : FormerLimits s) (hc : s.former.candidates[l] = pre ++ c :: post)
    (hfirst : ∀ d ∈ pre ++ post, isLater c.firstStart d.firstStart = false) : Foremost s l pre c post :=
  ⟨hc, hs.ids_ne hc, hfirst, fun k hk d hd e => hk (hs.eq_of_id hd (by rw [hc]; simp) e).1⟩

/-- The axle former after the first candidate of a full lane has completed and a side has opened one in its place. -/
theorem crowded_former (hfore : Foremost s l pre c post) (hsides : c.sides = [.waiting h0])
    (hformer : (s.lonePart l c h0).former = (s.takeOut l c).former) (y : AxleRec) (x : Side) :
    (∀ r q, ((s.lonePart l c h0).openFrame y).waiting r q = (s.waiting r q).filter (fun z => decide (z ≠ h0)))
      ∧ (((s.lonePart l c h0).openFrame y).openCandidate l x).former.candidates = s.former.candidates.set l (pre ++ post
        ++ [{ id := s.former.nextId, opened := s.now, sides := [x] }]) := by
  have hopened : ((s.lonePart l c h0).openFrame y).former = (s.takeOut l c).former :=
    ((keepsAllBut_openFrame _ _).former (by simp)).trans hformer
  have hnow : ((s.lonePart l c h0).openFrame y).now = s.now :=
    (keepsAllBut_openFrame _ _ .now (by simp)).trans (keepsAllBut_lonePart s l c h0 .now (by simp))
  have hout : (s.takeOut l c).former.candidates = s.former.candidates.set l (pre ++ post) := by
    rw [← hfore.left]
    rfl
  refine ⟨fun r q => ?_, ?_⟩
  · rw [waiting_of_former_eq hopened, waiting_takeOut_lone hsides]
  · rw [State.openCandidate, State.setFormer_former, hopened, hout, hnow]
    exact set_alter _ _ _ _

end

/-! ### The delivered hit -/

section
variable {s : State} {c : ChanIx} {x : BitVec 16} {l : LaneIx} {h : HitAcc} {e : EndRun} {cmd : Instr}

/-- The part of O11 where the lane holds four candidates. -/
theorem delivers_crowded (hcmd : IsSample cmd (.hitEnd c x) c x) (hd : Delivers s c x l h e) (hs : FormerLimits s)
    (hrow : (s.stripEntry c).row = .rowA ↔ s.loops[l].presence ≠ .reverse) {a : HitRec} (ha : a = deliveredHit s c l h e)
    (hroom : (s.waiting a.row a.pos).length < 4) {pre post : List Candidate} {c0 : Candidate} {h0 : HitRec} {b : ChanIx}
    (hforward : s.loops[l].presence ≠ .reverse) (hc : s.former.candidates[l] = pre ++ c0 :: post)
    (hfull : 4 ≤ s.former.candidates[l].length)
    (hnone : ∀ (k : LaneIx) (c' : Candidate), c' ∈ s.former.candidates[k] → ∀ d, ¬ Eligible s c' a.pos a.start d)
    (hsides : c0.sides = [.waiting h0]) (hlane : h0.lane = l) (hrow0 : h0.row = .rowA) (hne : h0.start ≠ a.start)
    (hbefore : ∀ c' ∈ pre ++ post, (0 < elapsed h0.start c'.firstStart ∧ elapsed h0.start c'.firstStart < 2 ^ 31)
      ∨ (c'.firstStart = h0.start ∧ c0.id < c'.id))
    (hb : OnlyMappedAt s .rowB h0.pos b) (hcounts : CountsMisses s.strip.channels[b])
    (hmiss : s.strip.channels[b].miss < 31) (hframe : s.asm.frames[l] = none) :
    ∃ t f y, exec cmd s = .next t
      ∧ t.strip = { s.strip with
          channels := ((s.strip.channels.set c (pouredChannel s c h.clips)).set b
            { s.strip.channels[b] with miss := s.strip.channels[b].miss + 1 }) }
      ∧ PouredEvent s c h.clips t
      ∧ (∀ r q, t.waiting r q = (s.waiting r q).filter (fun z => decide (z ≠ h0))
          ++ (if r = a.row ∧ q = a.pos then [a] else []))
      ∧ t.former.candidates = s.former.candidates.set l (pre ++ post
          ++ [{ id := s.former.nextId, opened := s.now, sides := [.waiting a] }])
      ∧ t.former.nextId = s.former.nextId + 1 ∧ t.former.late = s.former.late
      ∧ t.asm = { s.asm with frames := s.asm.frames.set l (some f) } ∧ f.axles = [{ axle := y, spacing := none }]
      ∧ y.lane = l ∧ y.time = h0.start ∧ y.wheels.length = 1 ∧ hasFlag y.flags .forced = true
      ∧ hasFlag y.flags .single = true ∧ hasFlag y.flags .oneRow = true
      ∧ KeepsAllBut [.strip, .loops, .former, .asm, .ports] s t := by
  have hexec := exec_delivers_room hcmd hd hrow ha hroom
  have hkeep : KeepsAllBut [.strip, .former, .ports] s ((s.poured c h.clips).placed a) :=
    ((keepsAllBut_poured s c h.clips).mono (by simp)).trans ((keepsAllBut_placed _ a).mono (by simp))
  have hprof : ((s.poured c h.clips).placed a).prof = s.prof := hkeep .prof (by simp)
  have hroom' : ((s.poured c h.clips).waiting a.row a.pos).length < 4 := by
    rw [waiting_of_former_eq poured_former]
    exact hroom
  have hp : FormerLimits ((s.poured c h.clips).placed a) := (hs.of_former poured_former).pushed a hroom'
  have hcands : ((s.poured c h.clips).placed a).former.candidates = s.former.candidates := by
    rw [placed_candidates, poured_former]
  have hpos : posLane a.pos = l := by rw [ha, deliveredHit_lane]
  have hstart : c0.firstStart = h0.start := firstStart_of_one hsides
  have hfirst : ∀ d ∈ pre ++ post, isLater d.firstStart c0.firstStart = true ∨ (d.firstStart = c0.firstStart ∧ c0.id < d.id) :=
    fun d hd => by
      rw [hstart]
      exact (hbefore d hd).imp isLater_iff.mpr id
  have hfore : Foremost ((s.poured c h.clips).placed a) l pre c0 post := .of_limits hp (by rw [hcands, hc]) fun d hd => by
    rcases hfirst d hd with hlater | ⟨hsame, -⟩
    · exact isLater_asymm hlater
    · rw [hsame]
      exact isLater_eq_false (by simp [elapsed])
  have hchan : b ≠ c := fun e => by
    have hB := hb.1.2.2
    rw [e, hrow.mpr hforward] at hB
    cases hB
  have hstrip : ((s.poured c h.clips).placed a).strip = (s.poured c h.clips).strip :=
    keepsAllBut_placed _ a .strip (by simp)
  have hbstate : ((s.poured c h.clips).placed a).strip.channels[b] = s.strip.channels[b] := by
    rw [hstrip, poured_channel_ne hchan]
  have hmapped : ∀ k, MappedAt ((s.poured c h.clips).placed a) .rowB h0.pos k ↔ MappedAt s .rowB h0.pos k := fun k => by
    simp only [MappedAt, State.stripEntry, hprof]
  have hb' : OnlyMappedAt ((s.poured c h.clips).placed a) .rowB h0.pos b :=
    ⟨(hmapped b).mpr hb.1, fun k hk => hb.2 k ((hmapped k).mp hk)⟩
  obtain ⟨hlone, hquiet⟩ := lonePart_counted (l := l) (c := c0) hb' (by rw [hbstate]; exact hcounts) (by rw [hbstate]; exact hmiss)
  have hactive : ((s.poured c h.clips).placed a).laneActive l = true :=
    (laneActive_of_same (by rw [hprof]) (hkeep .site (by simp)) l).trans hd.active
  have hmade := makeRoom_forced hfore (by rw [hcands]; exact hfull) (by rw [hfore.listed]; exact firstCandidate_best hfirst)
    hsides hlane hrow0 hactive (by rw [hkeep.asm (by simp)]; exact hframe) hquiet
  have hports : ((s.poured c h.clips).placed a).ports = (s.poured c h.clips).ports :=
    keepsAllBut_placed _ a .ports (by simp)
  have hnext : ((s.poured c h.clips).placed a).former.nextId = s.former.nextId :=
    (setWaiting_nextId ..).trans (congrArg AxleFormer.nextId poured_former)
  have hlate : ((s.poured c h.clips).placed a).former.late = s.former.late :=
    (setWaiting_late ..).trans (congrArg AxleFormer.late poured_former)
  have hother : a ≠ h0 := fun e => hne (by rw [e])
  have hwaiting : ∀ r q, (((s.poured c h.clips).placed a).waiting r q).filter (fun z => decide (z ≠ h0))
      = (s.waiting r q).filter (fun z => decide (z ≠ h0)) ++ (if r = a.row ∧ q = a.pos then [a] else []) := fun r q => by
    rw [placed_waiting, waiting_of_former_eq poured_former, List.filter_append]
    congr 1
    split
    · exact List.filter_cons_of_pos (decide_eq_true hother)
    · rfl
  generalize (s.poured c h.clips).placed a = p at *
  rw [hbstate] at hlone
  have hformer : (p.lonePart l c0 h0).former = (p.takeOut l c0).former := by
    rw [hlone]
    rfl
  obtain ⟨hlists, hcrowded⟩ := crowded_former hfore hsides hformer (p.loneAxle l c0 h0 true) (.waiting a)
  have hstands : (p.makeRoom l).sideStands (.waiting a) = true := by
    rw [hmade]
    change (((p.lonePart l c0 h0).openFrame (p.loneAxle l c0 h0 true)).waiting a.row a.pos).contains a = true
    rw [hlists, hwaiting, if_pos ⟨rfl, rfl⟩]
    simp
  have hside : posLane (Side.waiting a).pos = l := hpos
  have hcrowd := wheelStart_crowded (x := .waiting a) hp (fun k d hd dist he => by
    rw [hcands] at hd
    exact hnone k d hd dist (he.congr (by rw [hprof]))) (by rw [hside]; exact hstands)
  rw [hcrowd, hside, hmade] at hexec
  obtain ⟨hsingle, honeRow, -, hforced, -⟩ := loneAxle_flags (s := p) (l := l) (c := c0) (forced := true) hrow0
  have hopened := keepsAllBut_openFrame (p.lonePart l c0 h0) (p.loneAxle l c0 h0 true)
  have hlonekeep := keepsAllBut_lonePart p l c0 h0
  refine ⟨_, (p.lonePart l c0 h0).frameOf (p.loneAxle l c0 h0 true), p.loneAxle l c0 h0 true, hexec, ?_, ?_, fun r q => ?_, ?_,
    ?_, ?_, ?_, rfl, rfl, rfl, loneAxle_wheels_length, hforced, hsingle, honeRow, ?_⟩
  · have hset : (p.lonePart l c0 h0).strip = { p.strip with
        channels := p.strip.channels.set b { s.strip.channels[b] with miss := s.strip.channels[b].miss + 1 } } := by
      rw [hlone]
      rfl
    refine (hopened .strip (by simp)).trans (hset.trans ?_)
    rw [hstrip, poured_strip]
  · refine (poured_event s c h.clips).congr (Eq.trans ?_ hports)
    refine (hopened .ports (by simp)).trans ?_
    rw [hlone]
    rfl
  · refine Eq.trans ?_ ((hlists r q).trans (hwaiting r q))
    cases r <;> rfl
  · rw [hcrowded, hcands, hnext, hkeep .now (by simp)]
  · refine (congrArg (fun f : AxleFormer => f.nextId + 1) ((hopened.former (by simp)).trans hformer)).trans ?_
    exact congrArg (· + 1) hnext
  · refine (congrArg AxleFormer.late ((hopened.former (by simp)).trans hformer)).trans ?_
    exact hlate
  · refine (openFrame_parts _ _).trans ?_
    rw [hlonekeep.asm (by simp), hkeep.asm (by simp)]
    rfl
  · exact (((hkeep.mono (by simp)).trans (hlonekeep.mono (by simp))).trans (hopened.mono (by simp))).trans
      ((KeepsAllBut.setFormer _ _).mono (by simp))

end

end Sys2Proof.Machine
end

section
/-! PROOFS. The delivered leading hit, settled (O11). -/

namespace Sys2Proof.Machine

open Sys2Proof

/-- An empty axle former is within its limits. -/
theorem formerLimits_of_empty {s : State} (hwaiting : ∀ r q, s.waiting r q = [])
    (hcands : ∀ k : LaneIx, s.former.candidates[k] = []) : FormerLimits s where
  numbered k c hc := by
    rw [hcands] at hc
    cases hc
  distinct := by
    rw [List.flatMap_eq_nil_iff.mpr fun k _ => by simp [hcands]]
    exact List.nodup_nil
  sides k c hc := by
    rw [hcands] at hc
    cases hc
  waiting r q := by simp [hwaiting]
  room k := by simp [hcands]

theorem opens_of_empty {s : State} (hcands : ∀ k : LaneIx, s.former.candidates[k] = []) (q : PosIx) (u : Tick) : Opens s q u :=
  ⟨fun k c hc => absurd hc (by simp [hcands]), by simp [hcands]⟩

/-- Settles O11: the leading hit in an empty axle former, at a list with room, in a full lane, and at a full list. -/
theorem leadingHitDelivered : Obligations.LeadingHitDelivered := by
  refine ⟨fun s c x b h e l cmd hcmd hruns hdetects halive hdet hrun hlow hlane hactive hrow hwaiting hcands => ?_,
    fun s c x h e l cmd a hcmd hd hs hrow ha hroom => ?_,
    fun s c x h e l cmd a old rest hcmd hd hs hrow ha hw hlength hdue => delivers_full hcmd hd hs hrow ha hw hlength hdue⟩
  · have hd : Delivers s c x l h e := ⟨hruns, ⟨b, hdetects, hlow⟩, halive, hdet, hrun, hlane, hactive⟩
    obtain ⟨t, hexec, hstrip, hevent, hlists, hcs, -, -, hkeep⟩ := (delivers_room hcmd hd (formerLimits_of_empty hwaiting hcands)
      hrow rfl (by simp [hwaiting])).2 (opens_of_empty hcands _ _)
    have hself : t.strip.channels[c] = pouredChannel s c h.clips := by
      simp only [hstrip, Fin.getElem_fin, Vector.getElem_set_self]
    refine ⟨t, deliveredHit s c l h e, s.former.nextId, hexec, hself, fun k hk => ?_, ?_, fun r q => ?_, ?_, fun k hk => ?_, ?_, ?_,
      hkeep⟩
    · simp only [hstrip, Fin.getElem_fin, Vector.getElem_set_ne _ _ fun e => hk (Fin.ext e.symm)]
    · rw [deliveredHit, hself]
    · rw [hlists, hwaiting, List.nil_append]
      rfl
    · simp only [hcs, Fin.getElem_fin, Vector.getElem_set_self]
      rw [show s.former.candidates[l.val] = [] from hcands l, List.nil_append]
    · simp only [hcs, Fin.getElem_fin, Vector.getElem_set_ne _ _ fun e => hk (Fin.ext e.symm)]
      exact hcands k
    · rw [hself]
      exact hevent.1
    · rw [hself]
      exact hevent.2
  · obtain ⟨hjoins, hopens⟩ := delivers_room hcmd hd hs hrow ha hroom
    exact ⟨hjoins, hopens, fun pre post c0 h0 b hforward hc hfull hnone hsides hlane hrow0 hne hbefore hb hcounts hmiss hframe =>
      delivers_crowded hcmd hd hs hrow ha hroom hforward hc hfull hnone hsides hlane hrow0 hne hbefore hb hcounts hmiss hframe⟩

end Sys2Proof.Machine
end
